-- ==== Sys2Proof/Word.lean ====
section
/-! DEFINITION. The 16-bit image word, its byte lanes, and the numbers of the part's objects. -/

namespace Sys2Proof

/-- A word of shelf memory (00_scope, Words and addresses). -/
abbrev Word := BitVec 16
/-- One byte lane of a word. -/
abbrev Byte := BitVec 8
/-- A 19-bit word address of shelf memory. -/
abbrev Addr := BitVec 19

/-- The part's objects, numbered as 00_scope numbers them. -/
abbrev Port := Fin 24
abbrev GroupId := Fin 12
abbrev ElementId := Fin 32
/-- Timing slots S0, S1, L0, L1 with indices 0 to 3. -/
abbrev SlotId := Fin 4
/-- The line slots: 0 is L0, 1 is L1. -/
abbrev LineId := Fin 2
/-- Channel `k + 1` of a group has index `k`. -/
abbrev ChannelIx := Fin 4
/-- A latched position of a switch element. -/
abbrev Position := Fin 5

/-- The byte lanes a processor cycle touches (R1). -/
inductive Lanes where
  | word | low | high
  deriving DecidableEq, Repr

namespace Lanes

def hasLow : Lanes → Bool
  | word => true
  | low => true
  | high => false

def hasHigh : Lanes → Bool
  | word => true
  | low => false
  | high => true

end Lanes

end Sys2Proof
end

