-- ==== Sys2Proof/Config.lean ====
section
/-! DEFINITION. What is fixed for one part: the constants the spec gives, and the one value it leaves to the part. -/

namespace Sys2Proof.Config

/-- The part's revision number (R186: "1 for the first revision"). The spec leaves it to the part, so it has no
body here: nothing can be proved of its value (log entry 30). -/
opaque revision : BitVec 4

/-- The part code of the Avilant 4120 (R186). -/
def partCode : Nat := 0x2C

/-- The image bases the four strap settings give (R2). -/
def imageBase (straps : BitVec 2) : Addr :=
  match straps.toNat with
  | 0 => 0x00000#19
  | 1 => 0x10000#19
  | 2 => 0x40000#19
  | _ => 0x7F000#19

/-- The model's clock counts periods of 125 microseconds (log entry 2); a millisecond is eight of them. -/
def ms (n : Nat) : Nat := 8 * n

/-- The confirm window (R128). -/
def confirmWindow : Nat := ms 500
/-- The travel time an element is given (R117). -/
def travelTime : Nat := ms 50
/-- The settle period of a line slot (R145). -/
def settleTime : Nat := ms 500
/-- The confirmation timer of a SHARED group (R110). -/
def confirmationTime : Nat := ms 200
/-- One step of shelf time (R177). -/
def shelfTimeStep : Nat := ms 10

/-- The event queue holds at most 16 events (R175). -/
def queueSize : Nat := 16
/-- The queue length from which the poster has precedence at the memory port (R11). -/
def urgentQueue : Nat := 12

/-- The pulses a gate spans; oscillator cycles of a nominal gate, and the count that abandons a gate (R148). -/
def gatePulses : Nat := 1000
def gateNominal : Int := 2560000
def gateLimit : Nat := 5120000

end Sys2Proof.Config
end

