-- ==== Sys2Proof/Syntax.lean ====
section
/-! DEFINITION. The commands of the block: one constructor per row of spec/opcode_table.json, with its operands. -/

namespace Sys2Proof

/-- A module's answer to a poll (R22). POWER is among its capabilities exactly when it carries a power code, and
OVERHEAD exactly when it carries a received trace and bridge word. -/
structure Answer where
  lol      : Bool
  power    : Option (BitVec 12)
  overhead : Option (Word × Word)
  deriving DecidableEq, Repr

/-- The three threshold words of a port (R44). -/
inductive Threshold where
  | fail | degrade | overload
  deriving DecidableEq, Repr

/-- The two trigger words of the command mailbox (R8). -/
inductive MailboxWord where
  | command | confirm
  deriving DecidableEq, Repr

/-- The byte lane of a byte write. -/
inductive Lane where
  | low | high
  deriving DecidableEq, Repr

/-- The commands. A watched-word write carries the lanes written and the word on the bus; a command word written to
COMMAND is given by its object, channel and spare fields (R187). -/
inductive Instr where
  -- resets and the loader
  | powerOn (straps : BitVec 2)
  | startCheck
  | loaderRead
  | loaderWriteBack
  -- processor writes
  | passWrite (addr : Addr) (lanes : Lanes) (data : Word)
  | shelfNumberWrite (lanes : Lanes) (data : Word)
  | attentionMaskWrite (lanes : Lanes) (data : Word)
  | ringBaseWrite (lanes : Lanes) (data : Word)
  | ringSizeWrite (lanes : Lanes) (data : Word)
  | alarmProfileWrite (kind : Fin 22) (lanes : Lanes) (data : Word)
  | calibrationWrite (set : Fin 8) (field : Fin 4) (lanes : Lanes) (data : Word)
  | monitorKindWrite (p : Port) (lanes : Lanes) (data : Word)
  | expectedTraceWrite (p : Port) (lanes : Lanes) (data : Word)
  | thresholdWrite (p : Port) (t : Threshold) (lanes : Lanes) (data : Word)
  | hysteresisWrite (p : Port) (lanes : Lanes) (data : Word)
  | calibrationSetWrite (p : Port) (lanes : Lanes) (data : Word)
  | persistenceWrite (p : Port) (lanes : Lanes) (data : Word)
  | groupKindWrite (g : GroupId) (lanes : Lanes) (data : Word)
  | groupMemberWrite (g : GroupId) (field : Fin 6) (lanes : Lanes) (data : Word)
  | groupPolicyWrite (g : GroupId) (lanes : Lanes) (data : Word)
  | slotConfigurationWrite (i : SlotId) (field : Fin 3) (lanes : Lanes) (data : Word)
  | slotSourceWrite (l : LineId) (lanes : Lanes) (data : Word)
  | stationInputKindWrite (lanes : Lanes) (data : Word)
  | imageReadyWrite (lanes : Lanes) (data : Word)
  | imageReadyReadBack
  -- the command mailbox
  | bar (object : BitVec 6) (channel : BitVec 3) (spare : BitVec 3)
  | force (object : BitVec 6) (channel : BitVec 3) (spare : BitVec 3)
  | manual (object : BitVec 6) (channel : BitVec 3) (spare : BitVec 3)
  | clear (object : BitVec 6) (channel : BitVec 3) (spare : BitVec 3)
  | forceRef (object : BitVec 6) (channel : BitVec 3) (spare : BitVec 3)
  | clearRef (object : BitVec 6) (channel : BitVec 3) (spare : BitVec 3)
  | maint (object : BitVec 6) (channel : BitVec 3) (spare : BitVec 3)
  | release (object : BitVec 6) (channel : BitVec 3) (spare : BitVec 3)
  | resume (object : BitVec 6) (channel : BitVec 3) (spare : BitVec 3)
  | aco (object : BitVec 6) (channel : BitVec 3) (spare : BitVec 3)
  | restart (object : BitVec 6) (channel : BitVec 3) (spare : BitVec 3)
  | confirm (data : Word)
  | mailboxByteWrite (target : MailboxWord) (lane : Lane) (byte : Byte)
  | confirmWindowExpiry
  -- live and change words
  | statusWrite (lanes : Lanes) (data : Word)
  | shelfTimeWrite (lanes : Lanes) (data : Word)
  | shelfTimeAdvance
  | changeWordRead (w : Fin 16) (lanes : Lanes)
  | identificationRead (lanes : Lanes)
  -- the scan link
  | scanRoundStart
  | portSlotStart
  | moduleAnswer (checkPasses : Bool) (answer : Answer)
  | portSlotEnd
  | portUpdate
  -- protection and switch elements
  | holdOffExpiry (g : GroupId) (k : ChannelIx)
  | restoreWaitExpiry (g : GroupId)
  | confirmationTimerExpiry (g : GroupId)
  | senseChange (e : ElementId) (lines : BitVec 5)
  | travelTimerExpiry (e : ElementId)
  -- timing
  | settleTimerExpiry (l : LineId)
  | slotPulse (i : SlotId)
  | lossWindowExpiry (i : SlotId)
  | gateComplete (i : SlotId) (count : Nat)
  | gateOverrun (i : SlotId)
  | qualifyTimerExpiry (i : SlotId)
  -- alarms and the ring
  | acoInput
  | descriptorWord0Read
  | descriptorWordWrite
  | descriptorWord0Write
  | unknownCommandWrite (data : Word)
  deriving DecidableEq, Repr

end Sys2Proof
end

