-- ==== Sys2Proof/Decode.lean ====
section
/-! DEFINITION. The command a word spells by the opcode table's bits. The table gives no row any bits. -/

namespace Sys2Proof

/-- Every row of spec/opcode_table.json has an empty "fields" list and no "fixed" bits: the rows are events and bus
cycles of the block, and no word spells one (log entry 8). -/
def decodeTableWord (_nbits _w : Nat) : Option Instr := none

end Sys2Proof
end

