-- ==== Sys2Proof/Machine/Types.lean ====
section
/-! DEFINITION. The records of the nine blocks: plain data, in the spec's names. `State` puts them together. -/

namespace Sys2Proof.Machine

/-- A timer is idle, or runs with an expiry on the model's clock. -/
abbrev Timer := Option Nat

/-- Shelf memory: the cells whose byte differs from what an unwritten cell reads as, addresses strictly rising. The low
lane of word `a` is cell `2 * a`, the high lane cell `2 * a + 1`. -/
abbrev Memory := List Host.Cell

/-! ## The words of the image -/

/-- The watched words of the image, each under its owner's object (R185 to R191). -/
inductive Watched where
  | shelfNumber
  | attentionMask
  | ringBase
  | ringSize
  | profile (kind : Fin 22)
  | calibration (set : Fin 8) (field : Fin 4)
  | port (p : Port) (field : Fin 8)
  | group (g : GroupId) (field : Fin 8)
  | slot (i : SlotId) (field : Fin 3)
  | source (l : LineId)
  | stationKind
  deriving DecidableEq, Repr

/-- The trigger words (R8). -/
inductive Trigger where
  | imageReady
  | mailbox (w : MailboxWord)
  deriving DecidableEq, Repr

/-- The live words (R185, R193). -/
inductive LiveWord where
  | identity
  | status
  | condition (w : Fin 16)
  | summary (w : Fin 2)
  | identification
  | shelfTime
  | poster
  | port (p : Port)
  | smoothed (p : Port)
  | acceptedTrace (p : Port)
  | groupState (g : GroupId)
  | groupRequest (g : GroupId)
  | restoreWait (g : GroupId)
  | slot (i : SlotId)
  | slotOffset (i : SlotId)
  | generator
  | generatorOffset
  deriving DecidableEq, Repr

/-- An image word that is not PASS, by class (R3 to R10). -/
inductive ImageWord where
  | watched (w : Watched)
  | trigger (t : Trigger)
  | live (l : LiveWord)
  | change (w : Fin 16)
  deriving DecidableEq, Repr

/-- Where a processor cycle goes: a bus address, or a word of the image named by what it is. -/
inductive Place where
  | addr (a : Addr)
  | image (w : ImageWord)
  deriving DecidableEq, Repr

/-- One processor cycle (R1). -/
structure Cycle where
  place : Place
  write : Bool
  lanes : Lanes
  data  : Word
  deriving DecidableEq, Repr

/-- The verdicts of screening (R5). -/
inductive Verdict where
  | accepted | clamped | refused | prohibited | onceHeld
  deriving DecidableEq, Repr

/-! ## Memory path (01) -/

inductive OpState where
  | startCheck | standby | loading | running
  deriving DecidableEq, Repr

/-- Who holds the memory port (R11). -/
inductive Requester where
  | processor
  | memoryPath
  /-- the poster's cycle, with overflow-pending as it stood when the cycle was granted (R175; log entry 38) -/
  | poster (overflowed : Bool)
  deriving DecidableEq, Repr

/-- A loader word whose effective value differs from memory and waits for its write-back (R16). -/
structure WriteBack where
  word    : Watched
  value   : Word
  verdict : Verdict
  deriving DecidableEq, Repr

structure Path where
  straps       : BitVec 2
  op           : OpState
  loaderAt     : Nat
  writeBack    : Option WriteBack
  readBackOwed : Bool
  /-- processor cycles held on the ready line, oldest first -/
  held         : List Cycle
  grant        : Option Requester
  mem          : Memory
  /-- the data last driven upstream; the model's own field (log entry 7) -/
  upstream     : Word
  deriving DecidableEq, Repr

/-! ## Command unit (08) -/

inductive MailboxState where
  | ready | awaitConfirm | executing | blocked
  deriving DecidableEq, Repr

/-- The result codes (R134, R187). -/
inductive CommandResult where
  | none | done | lapsed | refusedLevel | refusedState | refusedInvalid | confirmMismatch | access | byteWrite
  | blocked | strayConfirm | restarted
  deriving DecidableEq, Repr

structure Mailbox where
  state      : MailboxState
  pending    : Option Word
  window     : Timer
  lastResult : CommandResult
  lastCode   : BitVec 4
  count      : BitVec 4
  /-- the COMMAND event and COMMAND-DONE of a restart wait for RUNNING (R140) -/
  restartOwed : Bool
  deriving DecidableEq, Repr

/-! ## Scan controller (02) -/

/-- What stands in the port time slot of the round in progress (R19, R22). -/
inductive SlotPhase where
  | waiting            -- the slot has not started
  | unscanned          -- monitor kind NONE at the slot's start
  | polled             -- polled, no valid answer yet
  | answered (a : Answer)
  deriving DecidableEq, Repr

structure Round where
  slot    : Port
  phase   : SlotPhase
  /-- the results gathered so far, in port order; no answer is `none` -/
  results : List (Port × Option Answer)
  deriving DecidableEq, Repr

structure Scan where
  shelfNumber : Word
  transmit    : Vector Word 24
  round       : Option Round
  faultedRun  : Nat
  scanFault   : Bool
  processed   : Nat
  /-- the trace word and bridge word each module was last polled with -/
  lastPoll    : Vector (Option (Word × Word)) 24
  deriving DecidableEq, Repr

/-! ## Port supervisor (02 to 04) -/

inductive MonitorKind where
  | none | lolOnly | power
  deriving DecidableEq, Repr

inductive Presence where
  | present | missedOnce | absent
  deriving DecidableEq, Repr

structure Caps where
  power    : Bool
  overhead : Bool
  deriving DecidableEq, Repr

inductive Grade where
  | unknown | good | degraded | overload | failed | unmonitored
  deriving DecidableEq, Repr

inductive Cause where
  | light | absent
  deriving DecidableEq, Repr

inductive TraceState where
  | unchecked | silent | awaiting | free | matched | mismatch | duplicate
  deriving DecidableEq, Repr

/-- A port record (R35). The monitor kind follows the configuration; the smoothed power is a function of the power
history (R41). Histories stand newest first. -/
structure PortRecord where
  presence    : Presence
  caps        : Option Caps
  lol         : List Bool
  power       : List Int
  grade       : Grade
  cause       : Option Cause
  reduced     : Bool
  candidate   : Option Word
  run         : Nat
  accepted    : Option Word
  trace       : TraceState
  maintenance : Bool
  deriving DecidableEq, Repr

/-- A processed round delivered to the port supervisor: which one, and the results not yet taken (R25). -/
structure ProcessedRound where
  number  : Nat
  results : List (Port × Option Answer)
  deriving DecidableEq, Repr

structure Supervisor where
  config      : Vector (Vector Word 8) 24
  calibration : Vector (Vector Word 4) 8
  record      : Vector PortRecord 24
  /-- the far-end map: the identity held for each port (R59) -/
  farEnd      : Vector (Option Word) 24
  rounds      : List ProcessedRound
  deriving DecidableEq, Repr

/-! ## Protection controller (05, 06) -/

inductive GroupKind where
  | none | paired | shared
  deriving DecidableEq, Repr

/-- A request or winner: a level of the request table (R79) and a channel. -/
structure Request where
  level   : Fin 8
  channel : Fin 8
  deriving DecidableEq, Repr

/-- A grade condition, raised grade request or condition request of a channel (R80 to R82). -/
inductive Condition where
  | clear | degrade | fail
  deriving DecidableEq, Repr

structure Channel where
  raised  : Condition
  holdOff : Timer
  request : Condition
  deriving DecidableEq, Repr

/-- The command requests (R79): at most one is stored. -/
inductive Stored where
  | bar
  | force (k : ChannelIx)
  | manual (k : ChannelIx)
  deriving DecidableEq, Repr

/-- A WAIT or STAY entry with its channel (R87). STAY is only ever on channel 1. -/
inductive Entry where
  | wait (k : ChannelIx)
  | stay
  deriving DecidableEq, Repr

inductive Source where
  | local | farEnd
  deriving DecidableEq, Repr

/-- The six group conditions (R93). -/
structure GroupConditions where
  protectUnavailable : Bool
  onProtect          : Bool
  crossShelf         : Bool
  swapped            : Bool
  protocolFailure    : Bool
  switchFault        : Bool
  deriving DecidableEq, Repr

structure Group where
  config       : Vector Word 8
  channel      : Vector Channel 4
  pfail        : Bool
  stored       : Option Stored
  entry        : Option Entry
  restoreWait  : Timer
  top          : Request
  winner       : Request
  source       : Source
  conditions   : GroupConditions
  evaluated    : Bool
  candidate    : Option Word
  run          : Nat
  accepted     : Option Word
  /-- the confirmation timer: the channel it was started for and its expiry (R110) -/
  confirmation : Option (Fin 8 × Nat)
  invalidWord  : Bool
  timeout      : Bool
  unusable     : Bool
  deriving DecidableEq, Repr

/-! ## Switch driver (07) -/

inductive ElementState where
  | settled | travelling | faulted
  deriving DecidableEq, Repr

structure Element where
  commanded : Position
  /-- `none` is INVALID -/
  sensed    : Option Position
  state     : ElementState
  travel    : Timer
  deriving DecidableEq, Repr

structure Driver where
  on      : Bool
  element : Vector Element 32
  deriving DecidableEq, Repr

/-! ## Timing unit (09) -/

inductive SlotState where
  | disabled | lost | disqualified | qualifying | available | settling
  deriving DecidableEq, Repr

inductive Measured where
  | lost | qualifying | disqualified | available
  deriving DecidableEq, Repr

structure Slot where
  state      : SlotState
  measured   : Measured
  qualify    : Timer
  loss       : Timer
  /-- a gate in progress, with the pulses counted since the one that started it (R148) -/
  gate       : Option Nat
  /-- SETTLING is held (R145) -/
  settling   : Bool
  settle     : Timer
  /-- the measured source: the port a line slot is measuring -/
  source     : Option Port
  lastOffset : Int
  deriving DecidableEq, Repr

inductive GenState where
  | freeRun | acquiring | locked | lockedFine | holdover | bridging
  deriving DecidableEq, Repr

structure Timing where
  config       : Vector (Vector Word 3) 4
  sources      : Vector Word 2
  stationKind  : Word
  slot         : Vector Slot 4
  forced       : Option SlotId
  selected     : Option SlotId
  gen          : GenState
  offset       : Int
  lockCount    : Nat
  /-- while BRIDGING, the tracking state it left -/
  noted        : Option GenState
  /-- the holdover history, newest on top -/
  history      : List Int
  partialCount : Nat
  partialSum   : Int
  deriving DecidableEq, Repr

/-! ## Alarm unit (10) -/

/-- The severities that count toward the relays. -/
inductive Severity where
  | minor | major | critical
  deriving DecidableEq, Repr

inductive RelayMode where
  | follow | hold | allAlarm
  deriving DecidableEq, Repr

/-- The visual and audible relay of one severity, `true` showing alarm, and its cut-off flag (R170, R171). -/
structure Relays where
  visual  : Bool
  audible : Bool
  cutOff  : Bool
  deriving DecidableEq, Repr

/-- An alarm point: a kind on an object of its scope (R164). -/
inductive Point where
  | port (p : Port) (k : Fin 7)
  | group (g : GroupId) (k : Fin 6)
  | slot (i : SlotId) (k : Fin 2)
  | generator (k : Fin 3)
  | part (k : Fin 4)
  deriving DecidableEq, Repr

structure Alarm where
  profile     : Vector Word 22
  /-- bit `i` is point `i` -/
  raised      : BitVec 256
  latched     : BitVec 256
  mode        : RelayMode
  critical    : Relays
  major       : Relays
  minor       : Relays
  -- the attention set (R172)
  ringBusy    : Bool
  commandDone : Bool
  alarmChange : Bool
  eventPosted : Bool
  mask        : Word
  deriving DecidableEq, Repr

/-! ## Event poster (10) -/

/-- The detail of an event by its kind (R176). -/
inductive Detail where
  | alarm (kind : Nat) (raised : Bool) (severity : Nat) (suppressed : Bool)
  | switch (old new : Request)
  | timing (gen : GenState) (selected : Option SlotId)
  | command (code : BitVec 4) (result : CommandResult)
  | provision (offset : Nat) (verdict : Verdict)
  deriving DecidableEq, Repr

structure Event where
  object : Nat
  detail : Detail
  stamp  : Word
  deriving DecidableEq, Repr

inductive PosterState where
  | idle | posting | busy | disabled
  deriving DecidableEq, Repr

/-- The next of the five master cycles of a posting (R12). -/
inductive PostStep where
  | readWord0 | writeWord1 | writeWord2 | writeWord3 | writeWord0
  deriving DecidableEq, Repr

structure Poster where
  queue       : List Event
  overflow    : Bool
  ringBase    : Word
  ringSize    : Word
  ringChange  : Bool
  index       : Nat
  state       : PosterState
  step        : PostStep
  /-- the WRAP value kept from the read of word 0 (R180) -/
  wrapKept    : Bool
  wrapFault   : Bool
  shelfTime   : Word
  /-- the end of the 10 ms interval in progress (R177) -/
  intervalEnd : Nat
  deriving DecidableEq, Repr

end Sys2Proof.Machine
end

