-- ==== Sys2Proof/Machine/Resets.lean ====
section
/-! DEFINITION. What each block holds right after power-on (and, where the spec says the same, after a restart). -/

namespace Sys2Proof.Machine

/-- A port's configuration until loaded (R32, R33, R51, R54): FAIL and DEGRADE -500, OVERLOAD +100, P 5. -/
def PortConfig.reset : Vector Word 8 := #v[0x0000, 0x0000, 0xFE0C, 0xFE0C, 0x0064, 0x0000, 0x0000, 0x0005]

/-- A port record after either reset, with monitor kind NONE (R35, R51, R63). -/
def PortRecord.reset : PortRecord where
  presence := .present
  caps := none
  lol := []
  power := []
  grade := .unmonitored
  cause := none
  reduced := false
  candidate := none
  run := 0
  accepted := none
  trace := .unchecked
  maintenance := false

/-- The port supervisor after either reset (R35, R37, R63). Results waiting at a restart are gone (log entry 12). -/
def Supervisor.reset : Supervisor where
  config := Vector.replicate 24 PortConfig.reset
  calibration := Vector.replicate 8 (Vector.replicate 4 0)
  record := Vector.replicate 24 PortRecord.reset
  farEnd := Vector.replicate 24 none
  rounds := []

/-- The scan controller after either reset (R20, R21, R24); the modules keep what they were polled with (R19, R114). -/
def Scan.reset (lastPoll : Vector (Option (Word × Word)) 24) : Scan where
  shelfNumber := 0
  transmit := Vector.replicate 24 0
  round := none
  faultedRun := 0
  scanFault := false
  processed := 0
  lastPoll := lastPoll

/-- A group's configuration until loaded (R78, R190). -/
def GroupConfig.reset : Vector Word 8 := #v[0x0010, 0x003F, 0x003F, 0x003F, 0x003F, 0x003F, 0x3F3F, 0x0500]

def Request.clear : Request := ⟨0, 0⟩

def GroupConditions.reset : GroupConditions := ⟨false, false, false, false, false, false⟩

/-- A group record after either reset (R78, R97, R113). -/
def Group.reset : Group where
  config := GroupConfig.reset
  channel := Vector.replicate 4 ⟨.clear, none, .clear⟩
  pfail := false
  stored := none
  entry := none
  restoreWait := none
  top := Request.clear
  winner := Request.clear
  source := .local
  conditions := GroupConditions.reset
  evaluated := false
  candidate := none
  run := 0
  accepted := none
  confirmation := none
  invalidWord := false
  timeout := false
  unusable := false

/-- An element record after power-on, with what its sense output shows (R124). -/
def Element.reset (sensed : Option Position) : Element := ⟨0, sensed, .settled, none⟩

/-- A slot record after either reset (R161). -/
def Slot.reset : Slot := ⟨.disabled, .lost, none, none, none, false, none, none, 0⟩

/-- A slot's configuration until loaded (R142): priority 0, limit 120, qualify time 10 s, loss window 4. -/
def SlotConfig.reset : Vector Word 3 := #v[0x0000, 0x0078, 0x040A]

/-- A line slot's source word until loaded (R142): kind NONE, group 0, channel 0, port 63. -/
def SourceWord.reset : Word := 0xFC00

/-- The timing unit after power-on (R142, R143, R161). -/
def Timing.reset : Timing where
  config := Vector.replicate 4 SlotConfig.reset
  sources := Vector.replicate 2 SourceWord.reset
  stationKind := 0
  slot := Vector.replicate 4 Slot.reset
  forced := none
  selected := none
  gen := .freeRun
  offset := 0
  lockCount := 0
  noted := none
  history := []
  partialCount := 0
  partialSum := 0

/-- All six relays show alarm and every cut-off flag is clear (R170, R171). -/
def Relays.alarm : Relays := ⟨true, true, false⟩

/-- The alarm unit after power-on (R163, R165, R170 to R173). -/
def Alarm.reset : Alarm where
  profile := Vector.replicate 22 0
  raised := 0
  latched := 0
  mode := .allAlarm
  critical := Relays.alarm
  major := Relays.alarm
  minor := Relays.alarm
  ringBusy := false
  commandDone := false
  alarmChange := false
  eventPosted := false
  mask := 0

/-- The event poster after a reset, with the shelf time the reset leaves (R177, R178, R183). -/
def Poster.reset (shelfTime : Word) (intervalEnd : Nat) : Poster where
  queue := []
  overflow := false
  ringBase := 0
  ringSize := 2
  ringChange := false
  index := 0
  state := .disabled
  step := .readWord0
  wrapKept := false
  wrapFault := false
  shelfTime := shelfTime
  intervalEnd := intervalEnd

/-- The command unit after power-on (R126). -/
def Mailbox.reset : Mailbox where
  state := .ready
  pending := none
  window := none
  lastResult := .none
  lastCode := 0
  count := 0
  restartOwed := false

/-- The memory path at the release of the reset line: the start check holds the port (R11, R14). -/
def Path.reset (straps : BitVec 2) (mem : Memory) (upstream : Word) : Path where
  straps := straps
  op := .startCheck
  loaderAt := 0
  writeBack := none
  readBackOwed := false
  held := []
  grant := some .memoryPath
  mem := mem
  upstream := upstream

end Sys2Proof.Machine
end

