-- ==== Sys2Proof/Machine/State.lean ====
section
/-! DEFINITION. The state of the part, its faults and refusals, and the state right after reset. -/

namespace Sys2Proof.Machine

/-- The part has no fault: its rules clamp, refuse or prohibit a bad value and answer a bad command with a result code.
Nothing raises one. -/
inductive Fault where
  deriving DecidableEq, Repr

/-- Why a command has no meaning. -/
inductive Refusal where
  /-- raised by an arm of `exec` whose command has no meaning yet; safe (the machine stops) -/
  | notModelled (mnemonic : String)
  deriving DecidableEq, Repr

/-- The nine blocks of the part, the model's clock, and the queue of commands waiting, first in, first out. -/
structure State where
  pending : List Instr
  /-- the model's clock, in periods of 125 microseconds (log entry 2) -/
  now     : Nat
  path    : Path
  mailbox : Mailbox
  scan    : Scan
  sup     : Supervisor
  group   : Vector Group 12
  driver  : Driver
  timing  : Timing
  alarm   : Alarm
  poster  : Poster
  deriving DecidableEq, Repr

/-- Right after the release of the reset line with an empty shelf memory: strap setting 0 (log entry 5), every sense
output at position 0 (log entry 6), every other field at the value the spec gives after power-on. -/
def State.reset : State where
  pending := []
  now := 0
  path := Path.reset 0 [] 0
  mailbox := Mailbox.reset
  scan := Scan.reset (Vector.replicate 24 none)
  sup := Supervisor.reset
  group := Vector.replicate 12 Group.reset
  driver := ⟨false, Vector.replicate 32 (Element.reset (some 0))⟩
  timing := Timing.reset
  alarm := Alarm.reset
  poster := Poster.reset 0 Config.shelfTimeStep

end Sys2Proof.Machine
end

