-- ==== Sys2Proof/Machine/Ops.lean ====
section
/-! DEFINITION. The named operations the blocks share: tables, bit fields, rounding, the byte lanes, shelf memory, the
clock and the event queue. -/

namespace Sys2Proof.Machine

/-! ## Tables -/

/-- The table with entry `i` replaced. -/
def put {α : Type} {n : Nat} (v : Vector α n) (i : Fin n) (x : α) : Vector α n := v.set i.val x i.isLt

/-! ## Bit fields (R184) -/

/-- The unsigned number a field of `n` bits from bit `lo` holds. -/
def bits (w : Word) (lo n : Nat) : Nat := w.toNat / 2 ^ lo % 2 ^ n

/-- One bit as a flag. -/
def flag (w : Word) (i : Nat) : Bool := w.getLsbD i

/-- The number 0 or 1 of a flag. -/
def bitOf (b : Bool) : Nat := if b then 1 else 0

/-- A word built from a number. -/
def wordOf (n : Nat) : Word := BitVec.ofNat 16 n

/-- The two's complement word of a signed number. -/
def signedWord (i : Int) : Word := BitVec.ofInt 16 i

/-! ## Clamping and rounding (00_scope, Rounding) -/

def clampNat (lo hi n : Nat) : Nat := min hi (max lo n)

def clampInt (lo hi i : Int) : Int := min hi (max lo i)

/-- Rounded to nearest, ties away from zero, for a positive divisor. -/
def roundNearest (n d : Int) : Int :=
  if 0 ≤ n then (2 * n + d) / (2 * d) else -((2 * -n + d) / (2 * d))

/-- Rounded down, toward minus infinity. -/
def roundDown (n d : Int) : Int := Int.fdiv n d

/-- Rounded toward zero. -/
def roundToZero (n d : Int) : Int := Int.tdiv n d

/-! ## Byte lanes (R1, R6) -/

/-- The word with the lanes touched taken from `new` and the others from `old`. -/
def mergeLanes (lanes : Lanes) (old new : Word) : Word :=
  match lanes with
  | .word => new
  | .low => old.extractLsb' 8 8 ++ new.extractLsb' 0 8
  | .high => new.extractLsb' 8 8 ++ old.extractLsb' 0 8

/-! ## Shelf memory -/

namespace Memory

/-- What a cell reads as that nothing has written (log entry 3). -/
def unwritten : Byte := 0

/-- The byte of a cell. -/
def read : Memory → Nat → Byte
  | [], _ => unwritten
  | (a, b) :: m, k => if k < a then unwritten else if k = a then b else read m k

/-- Write a byte, keeping the canonical form. -/
def write : Memory → Nat → Byte → Memory
  | [], k, v => if v = unwritten then [] else [(k, v)]
  | (a, b) :: m, k, v =>
    if k < a then (if v = unwritten then (a, b) :: m else (k, v) :: (a, b) :: m)
    else if k = a then (if v = unwritten then m else (k, v) :: m)
    else (a, b) :: write m k v

/-- The canonical form: addresses strictly rising from above `below`, no cell equal to what an unwritten one reads. -/
def wfFrom : Nat → Memory → Bool
  | _, [] => true
  | lo, (a, b) :: m => decide (lo ≤ a) && decide (b ≠ unwritten) && wfFrom (a + 1) m

/-- The canonical form of a memory. -/
def wf (m : Memory) : Bool := wfFrom 0 m

/-- The word at a word address: the high lane above the low lane (00_scope, Words and addresses). -/
def readWord (m : Memory) (a : Addr) : Word := read m (2 * a.toNat + 1) ++ read m (2 * a.toNat)

/-- Write the lanes touched of a word. -/
def writeLanes (m : Memory) (a : Addr) (lanes : Lanes) (w : Word) : Memory :=
  let m := if lanes.hasLow then write m (2 * a.toNat) (w.extractLsb' 0 8) else m
  if lanes.hasHigh then write m (2 * a.toNat + 1) (w.extractLsb' 8 8) else m

end Memory

/-- The word memory holds at a word address. -/
def State.memWord (s : State) (a : Addr) : Word := Memory.readWord s.path.mem a

/-- A write to memory on the lanes given. -/
def State.memWrite (s : State) (a : Addr) (lanes : Lanes) (w : Word) : State :=
  { s with path := { s.path with mem := Memory.writeLanes s.path.mem a lanes w } }

/-- The image base (R2). -/
def State.base (s : State) : Addr := Config.imageBase s.path.straps

/-- The word address of an image offset. -/
def State.imageAddr (s : State) (offset : Nat) : Addr := s.base + BitVec.ofNat 19 offset

/-- Drive data upstream on the lanes read (R5, R9); a lane not read keeps what it showed (log entry 7). -/
def State.drive (s : State) (lanes : Lanes) (w : Word) : State :=
  { s with path := { s.path with upstream := mergeLanes lanes s.path.upstream w } }

/-! ## The clock (log entry 2) -/

/-- The clock when an expiry is taken: no earlier than the expiry. -/
def State.passTo (s : State) (expiry : Nat) : State := { s with now := max s.now expiry }

/-- An expiry `d` from now. -/
def State.after (s : State) (d : Nat) : Nat := s.now + d

/-! ## The event queue (R175, R176) -/

/-- An event enters the queue stamped with shelf time, and an IDLE poster becomes POSTING (R179); with 16 queued it is
discarded and overflow-pending is set. -/
def State.putEvent (s : State) (object : Nat) (d : Detail) : State :=
  if s.poster.queue.length < Config.queueSize then
    { s with poster := { s.poster with
        queue := s.poster.queue ++ [⟨object, d, s.poster.shelfTime⟩]
        state := if s.poster.state = .idle then .posting else s.poster.state } }
  else
    { s with poster := { s.poster with overflow := true } }

/-- The first value of a list that passes a test, with `Option` for none. -/
def firstWhere {n : Nat} (f : Fin n → Bool) : Option (Fin n) := (List.finRange n).find? f

end Sys2Proof.Machine
end

