-- ==== Sys2Proof/Machine/Operands.lean ====
section
/-! DEFINITION. The Image Layout Reference (11): where every image word lies, its fields and codes, the command word,
the trace and bridge words and the event descriptor. -/

namespace Sys2Proof.Machine

/-! ## Offsets and classes (R185 to R193) -/

/-- The image offset of a watched word. -/
def Watched.offset : Watched → Nat
  | .shelfNumber => 0x002
  | .attentionMask => 0x003
  | .ringBase => 0x004
  | .ringSize => 0x005
  | .profile k => 0x041 + k
  | .calibration n j => 0x060 + 4 * n + j
  | .port p j => 0x100 + 8 * p + j
  | .group g j => 0x200 + 8 * g + j
  | .slot i j => 0x280 + 4 * i + j
  | .source l => 0x28B + 4 * l
  | .stationKind => 0x290

def Trigger.offset : Trigger → Nat
  | .imageReady => 0x001
  | .mailbox .command => 0x020
  | .mailbox .confirm => 0x021

def LiveWord.offset : LiveWord → Nat
  | .identity => 0x000
  | .status => 0x022
  | .condition w => 0x400 + w
  | .summary w => 0x420 + w
  | .identification => 0x422
  | .shelfTime => 0x423
  | .poster => 0x424
  | .port p => 0x440 + p
  | .smoothed p => 0x458 + p
  | .acceptedTrace p => 0x470 + p
  | .groupState g => 0x490 + g
  | .groupRequest g => 0x4A0 + g
  | .restoreWait g => 0x4B0 + g
  | .slot i => 0x4C0 + i
  | .slotOffset i => 0x4C4 + i
  | .generator => 0x4C8
  | .generatorOffset => 0x4C9

def ImageWord.offset : ImageWord → Nat
  | .watched w => w.offset
  | .trigger t => t.offset
  | .live l => l.offset
  | .change w => 0x410 + w

/-- The watched word at an offset. -/
def watchedAt (o : Nat) : Option Watched :=
  if o = 0x002 then some .shelfNumber
  else if o = 0x003 then some .attentionMask
  else if o = 0x004 then some .ringBase
  else if o = 0x005 then some .ringSize
  else if h : 0x041 ≤ o ∧ o < 0x057 then some (.profile ⟨o - 0x041, by omega⟩)
  else if h : 0x060 ≤ o ∧ o < 0x080 then
    some (.calibration ⟨(o - 0x060) / 4, by omega⟩ ⟨(o - 0x060) % 4, by omega⟩)
  else if h : 0x100 ≤ o ∧ o < 0x1C0 then some (.port ⟨(o - 0x100) / 8, by omega⟩ ⟨(o - 0x100) % 8, by omega⟩)
  else if h : 0x200 ≤ o ∧ o < 0x260 then some (.group ⟨(o - 0x200) / 8, by omega⟩ ⟨(o - 0x200) % 8, by omega⟩)
  else if h : 0x280 ≤ o ∧ o < 0x290 then
    if h3 : (o - 0x280) % 4 < 3 then some (.slot ⟨(o - 0x280) / 4, by omega⟩ ⟨(o - 0x280) % 4, h3⟩)
    else if o = 0x28B then some (.source 0)
    else if o = 0x28F then some (.source 1)
    else none
  else if o = 0x290 then some .stationKind
  else none

/-- The live word at an offset. -/
def liveAt (o : Nat) : Option LiveWord :=
  if o = 0x000 then some .identity
  else if o = 0x022 then some .status
  else if h : 0x400 ≤ o ∧ o < 0x410 then some (.condition ⟨o - 0x400, by omega⟩)
  else if h : 0x420 ≤ o ∧ o < 0x422 then some (.summary ⟨o - 0x420, by omega⟩)
  else if o = 0x422 then some .identification
  else if o = 0x423 then some .shelfTime
  else if o = 0x424 then some .poster
  else if h : 0x440 ≤ o ∧ o < 0x458 then some (.port ⟨o - 0x440, by omega⟩)
  else if h : 0x458 ≤ o ∧ o < 0x470 then some (.smoothed ⟨o - 0x458, by omega⟩)
  else if h : 0x470 ≤ o ∧ o < 0x488 then some (.acceptedTrace ⟨o - 0x470, by omega⟩)
  else if h : 0x490 ≤ o ∧ o < 0x49C then some (.groupState ⟨o - 0x490, by omega⟩)
  else if h : 0x4A0 ≤ o ∧ o < 0x4AC then some (.groupRequest ⟨o - 0x4A0, by omega⟩)
  else if h : 0x4B0 ≤ o ∧ o < 0x4BC then some (.restoreWait ⟨o - 0x4B0, by omega⟩)
  else if h : 0x4C0 ≤ o ∧ o < 0x4C4 then some (.slot ⟨o - 0x4C0, by omega⟩)
  else if h : 0x4C4 ≤ o ∧ o < 0x4C8 then some (.slotOffset ⟨o - 0x4C4, by omega⟩)
  else if o = 0x4C8 then some .generator
  else if o = 0x4C9 then some .generatorOffset
  else none

/-- The image word at an offset; `none` is a PASS word. -/
def imageWordAt (o : Nat) : Option ImageWord :=
  if o = 0x001 then some (.trigger .imageReady)
  else if o = 0x020 then some (.trigger (.mailbox .command))
  else if o = 0x021 then some (.trigger (.mailbox .confirm))
  else if h : 0x410 ≤ o ∧ o < 0x420 then some (.change ⟨o - 0x410, by omega⟩)
  else match liveAt o with
    | some l => some (.live l)
    | none => (watchedAt o).map .watched

/-- What a word address touches (R1): an image word that is not PASS, or plain memory. -/
def classify (base a : Addr) : Option ImageWord :=
  if base.toNat ≤ a.toNat ∧ a.toNat ≤ base.toNat + 0xFFF then imageWordAt (a.toNat - base.toNat) else none

/-- The watched words in the loader's order (R16): ascending offset. -/
def loaderOrder : List Watched :=
  [.shelfNumber, .attentionMask, .ringBase, .ringSize]
  ++ (List.finRange 22).map .profile
  ++ (List.finRange 8).flatMap (fun n => (List.finRange 4).map (.calibration n))
  ++ (List.finRange 24).flatMap (fun p => (List.finRange 8).map (.port p))
  ++ (List.finRange 12).flatMap (fun g => (List.finRange 8).map (.group g))
  ++ (List.finRange 3).map (.slot 0) ++ (List.finRange 3).map (.slot 1)
  ++ (List.finRange 3).map (.slot 2) ++ [.source 0]
  ++ (List.finRange 3).map (.slot 3) ++ [.source 1]
  ++ [.stationKind]

/-- The number of the object a watched word belongs to, 0 for none (R7). -/
def Watched.object : Watched → Nat
  | .shelfNumber | .attentionMask | .ringBase | .ringSize | .stationKind => 0
  | .profile k => k + 1
  | .calibration n _ => n
  | .port p _ => p
  | .group g _ => g
  | .slot i _ => i
  | .source l => l + 2

/-! ## Held values -/

/-- The value the owning block holds for a watched word. -/
def State.heldWord (s : State) : Watched → Word
  | .shelfNumber => s.scan.shelfNumber
  | .attentionMask => s.alarm.mask
  | .ringBase => s.poster.ringBase
  | .ringSize => s.poster.ringSize
  | .profile k => s.alarm.profile[k]
  | .calibration n j => s.sup.calibration[n][j]
  | .port p j => s.sup.config[p][j]
  | .group g j => s.group[g].config[j]
  | .slot i j => s.timing.config[i][j]
  | .source l => s.timing.sources[l]
  | .stationKind => s.timing.stationKind

/-- The owner's held value replaced, and nothing else. -/
def State.setHeld (s : State) (w : Watched) (v : Word) : State :=
  match w with
  | .shelfNumber => { s with scan := { s.scan with shelfNumber := v } }
  | .attentionMask => { s with alarm := { s.alarm with mask := v } }
  | .ringBase => { s with poster := { s.poster with ringBase := v } }
  | .ringSize => { s with poster := { s.poster with ringSize := v } }
  | .profile k => { s with alarm := { s.alarm with profile := put s.alarm.profile k v } }
  | .calibration n j =>
    { s with sup := { s.sup with calibration := put s.sup.calibration n (put s.sup.calibration[n] j v) } }
  | .port p j => { s with sup := { s.sup with config := put s.sup.config p (put s.sup.config[p] j v) } }
  | .group g j => { s with group := put s.group g { s.group[g] with config := put s.group[g].config j v } }
  | .slot i j => { s with timing := { s.timing with config := put s.timing.config i (put s.timing.config[i] j v) } }
  | .source l => { s with timing := { s.timing with sources := put s.timing.sources l v } }
  | .stationKind => { s with timing := { s.timing with stationKind := v } }

/-! ## Alarm profile fields (R188) -/

/-- The severity field: 0 NOT-ALARMED, 1 MINOR, 2 MAJOR, 3 CRITICAL. -/
def profileSeverity (w : Word) : Nat := bits w 0 2

/-- The report mode names a raise (ON-RAISE, BOTH) or a clear (ON-CLEAR, BOTH). -/
def profileReports (w : Word) (raise : Bool) : Bool := if raise then flag w 4 else flag w 5

/-! ## Port configuration fields (R189) -/

namespace PortConfig

def kind (cfg : Vector Word 8) : MonitorKind :=
  match bits cfg[0] 0 2 with
  | 1 => .lolOnly
  | 2 => .power
  | _ => .none

def action (cfg : Vector Word 8) : Bool := flag cfg[0] 4
def expected (cfg : Vector Word 8) : Word := cfg[1]
def fail (cfg : Vector Word 8) : Int := cfg[2].toInt
def degrade (cfg : Vector Word 8) : Int := cfg[3].toInt
def overload (cfg : Vector Word 8) : Int := cfg[4].toInt
def hysteresis (cfg : Vector Word 8) : Int := cfg[5].toNat
def calibrationSet (cfg : Vector Word 8) : Fin 8 := ⟨bits cfg[6] 0 3, Nat.mod_lt _ (by decide)⟩
def persistence (cfg : Vector Word 8) : Nat := bits cfg[7] 0 4

end PortConfig

/-- A port's monitor kind (R35: it follows the held configuration). -/
def Supervisor.kind (u : Supervisor) (p : Port) : MonitorKind := PortConfig.kind u.config[p]

/-! ## Group table fields (R73, R190) -/

/-- A port field: 0 to 23, anything else names none (only 63 is ever held). -/
def portField (w : Word) : Option Port :=
  if h : bits w 0 6 < 24 then some ⟨bits w 0 6, h⟩ else none

/-- An element field of the given position: 0 to 31, anything else names none. -/
def elementField (w : Word) (lo : Nat) : Option ElementId :=
  if h : bits w lo 6 < 32 then some ⟨bits w lo 6, h⟩ else none

namespace GroupConfig

def kindOf (w : Word) : GroupKind :=
  match bits w 0 2 with
  | 1 => .paired
  | 2 => .shared
  | _ => .none

def kind (cfg : Vector Word 8) : GroupKind := kindOf cfg[0]
def count (cfg : Vector Word 8) : Nat := bits cfg[0] 4 3
def protect (cfg : Vector Word 8) : Option Port := portField cfg[1]
/-- The working port of channel `k + 1`, in word `2 + k`. -/
def working (cfg : Vector Word 8) (k : ChannelIx) : Option Port := portField cfg[2 + k.val]
def selector (cfg : Vector Word 8) : Option ElementId := elementField cfg[6] 0
def bridge (cfg : Vector Word 8) : Option ElementId := elementField cfg[6] 8
def holdOff (cfg : Vector Word 8) : Nat := bits cfg[7] 0 7
def restoreWait (cfg : Vector Word 8) : Nat := bits cfg[7] 8 4
def revertive (cfg : Vector Word 8) : Bool := flag cfg[7] 12
def degradeSwitches (cfg : Vector Word 8) : Bool := flag cfg[7] 13

/-- The ports a group names, as protect port or as a working port. -/
def ports (cfg : Vector Word 8) : List Port :=
  (protect cfg).toList ++ (List.finRange 4).filterMap (working cfg)

/-- A complete group (R73). -/
def complete (cfg : Vector Word 8) : Bool :=
  match kind cfg with
  | .none => false
  | .paired => (protect cfg).isSome && (selector cfg).isSome
  | .shared => (protect cfg).isSome && (selector cfg).isSome && (bridge cfg).isSome

end GroupConfig

/-! ## Timing table fields (R191) -/

def slotPriority (cfg : Vector Word 3) : Nat := bits cfg[0] 0 3
def slotLimit (cfg : Vector Word 3) : Int := cfg[1].toNat
/-- The qualify time, on the clock (seconds in the table). -/
def slotQualify (cfg : Vector Word 3) : Nat := Config.ms (1000 * bits cfg[2] 0 6)
/-- The loss window, in periods of 125 microseconds, which is the clock's unit. -/
def slotLossWindow (cfg : Vector Word 3) : Nat := bits cfg[2] 8 4

/-- The source a line slot's word names (R142). -/
inductive LineSource where
  | none
  | group (g : GroupId) (k : ChannelIx)
  | port (p : Option Port)
  deriving DecidableEq, Repr

/-- A held GROUP source names a group 0 to 11 and a channel 1 to 4 (R142); other values cannot be held with it. -/
def lineSource (w : Word) : LineSource :=
  match bits w 0 2 with
  | 1 =>
    if h : bits w 5 4 < 12 ∧ 1 ≤ bits w 2 3 ∧ bits w 2 3 ≤ 4 then
      .group ⟨bits w 5 4, h.1⟩ ⟨bits w 2 3 - 1, by omega⟩
    else .none
  | 2 => .port (if h : bits w 10 6 < 24 then some ⟨bits w 10 6, h⟩ else Option.none)
  | _ => .none

/-! ## Trace words (R53, R192) -/

def traceShelf (w : Word) : Nat := bits w 5 10
def tracePort (w : Word) : Nat := bits w 0 5

/-- A well formed trace word (R53). -/
def traceWellFormed (w : Word) : Bool :=
  w = 0 || (!flag w 15 && 1 ≤ traceShelf w && traceShelf w ≤ 1023 && tracePort w ≤ 23)

/-- A received trace as the port supervisor takes it (R53). -/
def receivedTrace (w : Word) : Word := if traceWellFormed w then w else 0

/-- The transmit trace word of a port (R20, R192). -/
def transmitTrace (shelf : Word) (p : Port) : Word :=
  if shelf = 0 then 0 else wordOf (32 * shelf.toNat + p)

/-! ## Bridge words (R98, R192) -/

/-- A number below 8 of a three-bit field. -/
def threeBits (w : Word) (lo : Nat) : Fin 8 := ⟨bits w lo 3, Nat.mod_lt _ (by decide)⟩

def bridgeRequest (w : Word) : Request := ⟨threeBits w 0, threeBits w 4⟩
def bridgeBridged (w : Word) : Fin 8 := threeBits w 8

def bridgeWord (r : Request) (bridged : Fin 8) : Word :=
  wordOf (r.level + 16 * r.channel + 256 * bridged)

/-- A received word is valid for a group of channel count `n` (R98). -/
def bridgeValid (n : Nat) (w : Word) : Bool :=
  let r := bridgeRequest w
  !flag w 3 && !flag w 7 && bits w 11 5 = 0
  && r.channel.val ≤ n && (bridgeBridged w).val ≤ n
  && (if 1 ≤ r.level.val ∧ r.level.val ≤ 5 then r.channel.val ≠ 0 else r.channel.val = 0)

/-! ## The command word (R187) -/

def commandCode (w : Word) : Nat := bits w 0 4
def commandObject (w : Word) : Nat := bits w 4 6
def commandChannel (w : Word) : Nat := bits w 10 3
def commandSpare (w : Word) : Nat := bits w 13 3

def commandWord (code : Nat) (object : BitVec 6) (channel spare : BitVec 3) : Word :=
  wordOf (code + 16 * object.toNat + 1024 * channel.toNat + 8192 * spare.toNat)

/-- The eleven commands (R127). -/
inductive Command where
  | bar | force | manual | clear | forceRef | clearRef | maint | release | resume | aco | restart
  deriving DecidableEq, Repr

def Command.code : Command → Nat
  | .bar => 1
  | .force => 2
  | .manual => 3
  | .clear => 4
  | .forceRef => 5
  | .clearRef => 6
  | .maint => 7
  | .release => 8
  | .resume => 9
  | .aco => 10
  | .restart => 11

/-- The command of a code; NONE and 12 to 15 name none (R187). -/
def commandOf (code : Nat) : Option Command :=
  [Command.bar, .force, .manual, .clear, .forceRef, .clearRef, .maint, .release, .resume, .aco, .restart].find?
    (fun c => c.code = code)

/-- Operate commands need a confirm; direct commands act at once (R127). -/
def Command.operate : Command → Bool
  | .bar | .force | .manual | .forceRef | .maint | .restart => true
  | .clear | .clearRef | .release | .resume | .aco => false

/-- The object field must be 0 (R127). -/
def Command.objectZero : Command → Bool
  | .clearRef | .resume | .aco | .restart => true
  | .bar | .force | .manual | .clear | .forceRef | .maint | .release => false

/-- The channel field must be 0 (R127); the group commands leave it to their owner. -/
def Command.channelZero : Command → Bool
  | .bar | .force | .manual | .clear => false
  | .forceRef | .clearRef | .maint | .release | .resume | .aco | .restart => true

/-- The form check (R127): the command a word names, or none when the word fails. -/
def formCheck (w : Word) : Option Command :=
  match commandOf (commandCode w) with
  | none => none
  | some c =>
    if commandSpare w = 0 ∧ (c.objectZero → commandObject w = 0) ∧ (c.channelZero → commandChannel w = 0) then some c
    else none

def CommandResult.code : CommandResult → Nat
  | .none => 0
  | .done => 1
  | .lapsed => 2
  | .refusedLevel => 3
  | .refusedState => 4
  | .refusedInvalid => 5
  | .confirmMismatch => 6
  | .access => 7
  | .byteWrite => 8
  | .blocked => 9
  | .strayConfirm => 10
  | .restarted => 11

/-! ## Codes shown in live words and events -/

def MailboxState.code : MailboxState → Nat
  | .ready => 0
  | .awaitConfirm => 1
  | .executing => 2
  | .blocked => 3

/-- Operating state codes of IDENTITY; 0 is not used and stands here for the start check, in which nothing is read (R186). -/
def OpState.code : OpState → Nat
  | .startCheck => 0
  | .standby => 1
  | .loading => 2
  | .running => 3

def MonitorKind.code : MonitorKind → Nat
  | .none => 0
  | .lolOnly => 1
  | .power => 2

def Presence.code : Presence → Nat
  | .present => 0
  | .missedOnce => 1
  | .absent => 2

def Grade.code : Grade → Nat
  | .unknown => 0
  | .good => 1
  | .degraded => 2
  | .overload => 3
  | .failed => 4
  | .unmonitored => 5

def TraceState.code : TraceState → Nat
  | .unchecked => 0
  | .silent => 1
  | .awaiting => 2
  | .free => 3
  | .matched => 4
  | .mismatch => 5
  | .duplicate => 6

def SlotState.code : SlotState → Nat
  | .disabled => 0
  | .lost => 1
  | .disqualified => 2
  | .qualifying => 3
  | .available => 4
  | .settling => 5

def Measured.code : Measured → Nat
  | .lost => 0
  | .qualifying => 1
  | .disqualified => 2
  | .available => 3

def GenState.code : GenState → Nat
  | .freeRun => 0
  | .acquiring => 1
  | .locked => 2
  | .lockedFine => 3
  | .holdover => 4
  | .bridging => 5

def RelayMode.code : RelayMode → Nat
  | .follow => 0
  | .hold => 1
  | .allAlarm => 2

/-- A slot field: 0 to 3, 7 for none. -/
def slotCode : Option SlotId → Nat
  | some i => i
  | none => 7

/-- The reason of a PROVISION event (R197). -/
def Verdict.code : Verdict → Nat
  | .accepted => 0
  | .clamped => 1
  | .refused => 2
  | .prohibited => 3
  | .onceHeld => 4

/-! ## The event descriptor (R197) -/

def Detail.kindCode : Detail → Nat
  | .alarm _ _ _ _ => 1
  | .switch _ _ => 2
  | .timing _ _ => 3
  | .command _ _ => 4
  | .provision _ _ => 5

/-- Word 2 of a descriptor, by kind (R197). The bits that the kind's table gives no field hold 0: R197 says so of word 0 alone, and
this is the model's choice (DESIGN CHOICE, log entry 52). -/
def Detail.word : Detail → Word
  | .alarm k r sev sup => wordOf (k + 32 * bitOf r + 64 * sev + 256 * bitOf sup)
  | .switch o n => wordOf (o.level + 8 * o.channel + 256 * n.level + 2048 * n.channel)
  | .timing g i => wordOf (g.code + 16 * slotCode i)
  | .command c r => wordOf (c.toNat + 256 * r.code)
  | .provision o v => wordOf (o + 4096 * v.code)

/-- SUPPRESSED is set for an ALARM event whose suppressed flag is set (R180). -/
def Detail.suppressed : Detail → Bool
  | .alarm _ _ _ sup => sup
  | _ => false

/-- Word 1 of a descriptor: event kind and object (R197); bits 7 to 3, which have no field, hold 0 (DESIGN CHOICE, log entry 52). -/
def Event.word1 (e : Event) : Word := wordOf (e.detail.kindCode + 256 * e.object)

/-- Word 0 as the part writes it (R180): OWN clear, WRAP as read, spare bits zero. -/
def Event.word0 (e : Event) (wrap overflowed : Bool) : Word :=
  wordOf (2 * bitOf wrap + 4 * bitOf overflowed + 8 * bitOf e.detail.suppressed)

end Sys2Proof.Machine
end

