-- ==== Sys2Proof/Machine/Flags.lean ====
section
/-! DEFINITION. The alarm unit (10): alarm points, change latches, counts, office relays, the cut-off, the attention set
and the interrupt line. -/

namespace Sys2Proof.Machine

/-! ## Alarm points (R162, R164) -/

/-- The point number. -/
def Point.index : Point → Nat
  | .port p k => 7 * p + k
  | .group g k => 168 + 6 * g + k
  | .slot i k => 240 + 2 * i + k
  | .generator k => 248 + k
  | .part k => 251 + k

/-- The alarm kind, counted from 0 (kind number less one). -/
def Point.kindIx : Point → Fin 22
  | .port _ k => ⟨k, by omega⟩
  | .group _ k => ⟨7 + k, by omega⟩
  | .slot _ k => ⟨13 + k, by omega⟩
  | .generator k => ⟨15 + k, by omega⟩
  | .part k => ⟨18 + k, by omega⟩

/-- The alarm kind number, 1 to 22. -/
def Point.kind (pt : Point) : Nat := pt.kindIx + 1

/-- The object an ALARM event names: port, group or slot, and 0 for the generator and the part (R166). -/
def Point.object : Point → Nat
  | .port p _ => p
  | .group g _ => g
  | .slot i _ => i
  | .generator _ => 0
  | .part _ => 0

/-- Every point. -/
def Point.all : List Point :=
  (List.finRange 24).flatMap (fun p => (List.finRange 7).map (.port p))
  ++ (List.finRange 12).flatMap (fun g => (List.finRange 6).map (.group g))
  ++ (List.finRange 4).flatMap (fun i => (List.finRange 2).map (.slot i))
  ++ (List.finRange 3).map .generator
  ++ (List.finRange 4).map .part

/-- The points of the part (R162). -/
def Point.imageNotReady : Point := .part 0
def Point.ringBusy : Point := .part 1
def Point.ringFormat : Point := .part 2
def Point.scanFault : Point := .part 3

def State.pointRaised (s : State) (pt : Point) : Bool := s.alarm.raised.getLsbD pt.index
def State.pointLatched (s : State) (pt : Point) : Bool := s.alarm.latched.getLsbD pt.index

/-- The profile word of a point's kind (R163). -/
def State.profileOf (s : State) (pt : Point) : Word := s.alarm.profile[pt.kindIx]

/-- A port point whose port is in maintenance (R166, R167). -/
def State.suppressed (s : State) : Point → Bool
  | .port p _ => s.sup.record[p].maintenance
  | .group _ _ => false
  | .slot _ _ => false
  | .generator _ => false
  | .part _ => false

/-! ## Counts and relays (R167, R169 to R171) -/

def Severity.code : Severity → Nat
  | .minor => 1
  | .major => 2
  | .critical => 3

/-- A raised point counts for its kind's severity unless its port is in maintenance (R167). -/
def State.counted (s : State) (v : Severity) (pt : Point) : Bool :=
  s.pointRaised pt && profileSeverity (s.profileOf pt) = v.code && !s.suppressed pt

/-- The count of a severity (R169). -/
def State.countOf (s : State) (v : Severity) : Nat := Point.all.countP (s.counted v)

/-- A point is newly counted for a severity by a step from `old` to `s` (R171). -/
def State.newlyCounted (old s : State) (v : Severity) : Bool :=
  Point.all.any (fun pt => s.counted v pt && !old.counted v pt)

/-- The relays of a severity in FOLLOW, for a count and a cut-off flag (R170, R171). -/
def relaysFollowing (count : Nat) (cutOff : Bool) : Relays :=
  let visual := count ≠ 0
  let cut := cutOff && visual
  ⟨visual, visual && !cut, cut⟩

/-- The relays of a severity after a step in FOLLOW: a newly counted point, or a count of 0, clears the cut-off. -/
def relaysAfter (old s : State) (v : Severity) (r : Relays) : Relays :=
  relaysFollowing (s.countOf v) (r.cutOff && !State.newlyCounted old s v)

/-- The relays and cut-off flags brought up to date after a change from `old` (R170, R171); nothing outside FOLLOW. -/
def State.judgeRelays (old s : State) : State :=
  if s.alarm.mode = .follow then
    { s with alarm := { s.alarm with
        critical := relaysAfter old s .critical s.alarm.critical
        major := relaysAfter old s .major s.alarm.major
        minor := relaysAfter old s .minor s.alarm.minor } }
  else s

/-- A cut-off of one severity: the audible relay showing alarm is silenced and its flag set. -/
def Relays.cut (r : Relays) : Relays := if r.audible then ⟨r.visual, false, true⟩ else r

/-- A cut-off, from the ACO input or the ACO command (R171); nothing outside FOLLOW. -/
def State.cutOff (s : State) : State :=
  if s.alarm.mode = .follow then
    { s with alarm := { s.alarm with
        critical := s.alarm.critical.cut, major := s.alarm.major.cut, minor := s.alarm.minor.cut } }
  else s

/-- Entry to ALL-ALARM: every relay shows alarm and the cut-off flags clear (R170, R171). -/
def State.enterAllAlarm (s : State) : State :=
  { s with alarm := { s.alarm with
      mode := .allAlarm, critical := Relays.alarm, major := Relays.alarm, minor := Relays.alarm } }

/-- Entry to FOLLOW: the relays are driven from the counts; a cut-off whose count is 0 clears (R170, R171). -/
def State.enterFollow (s : State) : State :=
  { s with alarm := { s.alarm with
      mode := .follow
      critical := relaysFollowing (s.countOf .critical) s.alarm.critical.cutOff
      major := relaysFollowing (s.countOf .major) s.alarm.major.cutOff
      minor := relaysFollowing (s.countOf .minor) s.alarm.minor.cutOff } }

/-! ## Transitions (R165, R166) -/

/-- Bit `i` of the point registers. -/
def pointBit (pt : Point) : BitVec 256 := 1#256 <<< pt.index

/-- The point's raised state replaced, its latch set, and ALARM-CHANGE raised with the latch (R166, R172). -/
def State.latchPoint (s : State) (pt : Point) (v : Bool) : State :=
  { s with alarm := { s.alarm with
      raised := if v then s.alarm.raised ||| pointBit pt else s.alarm.raised &&& ~~~pointBit pt
      latched := s.alarm.latched ||| pointBit pt
      alarmChange := true } }

/-- The ALARM event of a transition, when the kind's report mode names it (R166). -/
def State.reportPoint (s : State) (pt : Point) (v : Bool) : State :=
  if profileReports (s.profileOf pt) v then
    s.putEvent pt.object (.alarm pt.kind v (profileSeverity (s.profileOf pt)) (s.suppressed pt))
  else s

/-- An owner hands a condition over: the point takes the value; a value it holds already is no transition (R165). -/
def State.setPoint (s : State) (pt : Point) (v : Bool) : State :=
  if s.pointRaised pt = v then s
  else State.judgeRelays s ((s.latchPoint pt v).reportPoint pt v)

/-! ## Attention and the interrupt line (R172 to R174, R194) -/

/-- The attention set in the bits of ATTENTION MASK: RING-BUSY, COMMAND-DONE, ALARM-CHANGE, EVENT-POSTED (R185). -/
def Alarm.attentionBits (a : Alarm) : Nat :=
  bitOf a.ringBusy + 2 * bitOf a.commandDone + 4 * bitOf a.alarmChange + 8 * bitOf a.eventPosted

/-- The interrupt line is asserted while a cause is both held and enabled (R173). -/
def Alarm.interruptLine (a : Alarm) : Bool :=
  (a.ringBusy && flag a.mask 0) || (a.commandDone && flag a.mask 1)
  || (a.alarmChange && flag a.mask 2) || (a.eventPosted && flag a.mask 3)

/-- The code of the highest-priority cause held: 1 RING-BUSY, 2 COMMAND-DONE, 3 ALARM-CHANGE, 4 EVENT-POSTED, 0 NONE. -/
def Alarm.topCause (a : Alarm) : Nat :=
  if a.ringBusy then 1 else if a.commandDone then 2 else if a.alarmChange then 3 else if a.eventPosted then 4 else 0

/-- The IDENTIFICATION word (R194). -/
def Alarm.identification (a : Alarm) : Word :=
  wordOf (a.topCause + 256 * a.attentionBits + 4096 * bitOf a.interruptLine)

/-- What a read of IDENTIFICATION clears: the cause returned, if COMMAND-DONE or EVENT-POSTED and in a lane read
(R174, R194). -/
def Alarm.identificationRead (a : Alarm) (lanes : Lanes) : Alarm :=
  if lanes.hasLow then
    match a.topCause with
    | 2 => { a with commandDone := false }
    | 4 => { a with eventPosted := false }
    | _ => a
  else a

/-- Condition word `w`: points 16w to 16w + 15 (R168). -/
def Alarm.conditionWord (a : Alarm) (w : Fin 16) : Word := a.raised.extractLsb' (16 * w) 16
/-- Change word `w` (R168). -/
def Alarm.changeWord (a : Alarm) (w : Fin 16) : Word := a.latched.extractLsb' (16 * w) 16

/-- The latches a read of change word `w` clears: those in the lanes read (R10). -/
def changeMask (w : Fin 16) (lanes : Lanes) : BitVec 256 :=
  (mergeLanes lanes 0 0xFFFF).setWidth 256 <<< (16 * w.val)

/-- A read of a change word clears the latches of the lanes read, and ALARM-CHANGE with the last (R10, R172). -/
def Alarm.changeRead (a : Alarm) (w : Fin 16) (lanes : Lanes) : Alarm :=
  let latched := a.latched &&& ~~~changeMask w lanes
  { a with latched := latched, alarmChange := latched ≠ 0 }

end Sys2Proof.Machine
end

