-- ==== Sys2Proof/Machine/Elements.lean ====
section
/-! DEFINITION. The switch driver (07): targets, sense changes, expiries and adoption of the 32 elements. An element is
reported when its state changes while the drive is on (R121). -/

namespace Sys2Proof.Machine

/-- The sensed position a sense output shows: the one position reported, INVALID for none or more than one (R115; the
operand has one line per position, log entry 31). -/
def sensedOf (lines : BitVec 5) : Option Position :=
  match lines.toNat with
  | 1 => some 0
  | 2 => some 1
  | 4 => some 2
  | 8 => some 3
  | 16 => some 4
  | _ => none

/-- A new target (R117). `expiry` is when a travel started now expires. -/
def Element.command (el : Element) (target : Position) (expiry : Nat) : Element :=
  if target = el.commanded then el
  else if el.sensed = some target then { el with commanded := target, state := .settled, travel := none }
  else { el with commanded := target, state := .travelling, travel := some expiry }

/-- A sense change while the drive is on (R118, R120). -/
def Element.senseOn (el : Element) (sensed : Option Position) (expiry : Nat) : Element :=
  let el' := { el with sensed := sensed }
  match el.state with
  | .travelling => if sensed = some el.commanded then { el' with state := .settled, travel := none } else el'
  | .faulted => if sensed = some el.commanded then { el' with state := .settled, travel := none } else el'
  | .settled => if sensed = some el.commanded then el' else { el' with state := .travelling, travel := some expiry }

/-- The travel timer of a TRAVELLING element expires (R119). -/
def Element.expire (el : Element) : Element := { el with state := .faulted, travel := none }

/-- Adoption at the start of RUNNING (R123). -/
def Element.adopt (el : Element) (expiry : Nat) : Element :=
  match el.sensed with
  | some p => ⟨p, some p, .settled, none⟩
  | none => ⟨0, none, .travelling, some expiry⟩

/-- Drive off: the travel timer stops, the record stays as it stood (R116). -/
def Element.driveOff (el : Element) : Element := { el with travel := none }

/-- The drive an element's state asks for: toward the commanded position while TRAVELLING or FAULTED, none once SETTLED (R115). -/
def Element.drive (el : Element) : Option Position :=
  match el.state with
  | .settled => none
  | .travelling => some el.commanded
  | .faulted => some el.commanded

def State.element (s : State) (e : ElementId) : Element := s.driver.element[e]

def State.setElement (s : State) (e : ElementId) (el : Element) : State :=
  { s with driver := { s.driver with element := put s.driver.element e el } }

/-- The part's drive output to an element: the position it is driven toward, none where no drive is applied. In drive off no element
is driven, whatever its record says (R115, R116). -/
def State.driveOutput (s : State) (e : ElementId) : Option Position :=
  if s.driver.on then (s.element e).drive else none

/-- The protection controller commands an element (R117). -/
def State.commandElement (s : State) (e : ElementId) (target : Position) : State :=
  s.setElement e ((s.element e).command target (s.after Config.travelTime))

/-- The switch driver at the start of RUNNING (R123). -/
def State.adoptElements (s : State) : State :=
  { s with driver := ⟨true, s.driver.element.map (·.adopt (s.after Config.travelTime))⟩ }

/-- The switch driver at the start of a restart (R116). -/
def Driver.off (d : Driver) : Driver := ⟨false, d.element.map Element.driveOff⟩

/-- A report on an element as the blocks that take reports see it while the drive is on: SETTLED at a position,
TRAVELLING or FAULTED (R121). In drive off no block reads an element (R124). -/
inductive Report where
  | none
  | settled (p : Position)
  | travelling
  | faulted
  deriving DecidableEq, Repr

/-- The last report made on an element. -/
def Driver.report (d : Driver) (e : ElementId) : Report :=
  if d.on then
    match (d.element[e]).state with
    | .settled => .settled (d.element[e]).commanded
    | .travelling => .travelling
    | .faulted => .faulted
  else .none

def State.report (s : State) (e : ElementId) : Report := s.driver.report e

/-- A report was made on an element between `old` and `d`: its state changed, or it settled elsewhere (R121). -/
def Driver.reported (old d : Driver) (e : ElementId) : Bool := d.report e ≠ old.report e

/-- A report was made on an element between two states (R121). -/
def State.reported (old s : State) (e : ElementId) : Bool := Driver.reported old.driver s.driver e

/-- An element field names an element reported FAULTED. -/
def Driver.faulted (d : Driver) (e : Option ElementId) : Bool := e.any (fun e => d.report e = .faulted)

/-- The driver as a block has heard of it that has taken the last report on one element, and on the others only those made
by `old` (R121: a block may take a report after another element has changed). -/
def Driver.hearing (old d : Driver) (e : Option ElementId) : Driver :=
  match e with
  | some e => { old with element := put old.element e d.element[e] }
  | none => old

end Sys2Proof.Machine
end

