-- ==== Sys2Proof/Machine/Timing.lean ====
section
/-! DEFINITION. The timing unit (09): source ports, SETTLING, slot states, gates, the selector, the generator and the
holdover history. -/

namespace Sys2Proof.Machine

/-! ## Sources (R144) -/

/-- The slot index of a line slot. -/
def lineSlot (l : LineId) : SlotId := ⟨l + 2, by omega⟩

/-- The line slot of a slot index. -/
def lineOf (i : SlotId) : Option LineId := if h : 2 ≤ i.val then some ⟨i - 2, by omega⟩ else none

def State.lineSourceOf (s : State) (l : LineId) : LineSource := lineSource s.timing.sources[l]

/-- A decision of a source port, or why it is not decided (R144). -/
inductive Decision where
  | port (p : Option Port)
  | travelling
  | faulted
  deriving DecidableEq, Repr

/-- The source port for a settled selector (R144). -/
def settledSource (kind : GroupKind) (k : ChannelIx) (at_ : Position) (working protect : Option Port) : Option Port :=
  match kind with
  | .none => none
  | .paired => if at_.val = 0 then working else if at_.val = 1 then protect else none
  | .shared => if at_.val = k.val + 1 then protect else working

/-- The decision for a GROUP source (R144). -/
def State.groupSource (s : State) (g : GroupId) (k : ChannelIx) : Decision :=
  let cfg := s.group[g].config
  let working := GroupConfig.working cfg k
  if GroupConfig.kind cfg = .none ∨ GroupConfig.count cfg < k.val + 1 ∨ working = none then .port none
  else match GroupConfig.selector cfg with
    | none => .port working
    | some e =>
      match s.report e with
      | .settled p => .port (settledSource (GroupConfig.kind cfg) k p working (GroupConfig.protect cfg))
      | .travelling => .travelling
      | .faulted => .faulted
      | .none => .port none

/-- The decision for a line slot (R144). -/
def State.decideSource (s : State) (l : LineId) : Decision :=
  match s.lineSourceOf l with
  | .none => .port none
  | .port p => .port p
  | .group g k => s.groupSource g k

/-- The selector element of the group a line slot's source names. -/
def State.sourceSelector (s : State) (l : LineId) : Option ElementId :=
  match s.lineSourceOf l with
  | .group g _ => GroupConfig.selector s.group[g].config
  | .none => none
  | .port _ => none

/-- The source names the group. -/
def State.followsGroup (s : State) (l : LineId) (g : GroupId) : Bool :=
  match s.lineSourceOf l with
  | .group g' _ => g' = g
  | .none => false
  | .port _ => false

/-! ## SETTLING (R145) -/

def State.slot (s : State) (i : SlotId) : Slot := s.timing.slot[i]

def State.setSlot (s : State) (i : SlotId) (r : Slot) : State :=
  { s with timing := { s.timing with slot := put s.timing.slot i r } }

def State.slotDisabled (s : State) (i : SlotId) : Bool := slotPriority s.timing.config[i] = 0

/-- SETTLING begins or goes on: the qualify timer and the loss window stop and a gate in progress is abandoned. -/
def Slot.settleOn (r : Slot) (settle : Timer) : Slot :=
  { r with settling := true, settle := settle, qualify := none, loss := none, gate := none }

/-- SETTLING ends: the loss window starts afresh, and a QUALIFYING slot starts its qualify time afresh. -/
def State.settleEnd (s : State) (i : SlotId) (r : Slot) : Slot :=
  { r with
    settling := false
    settle := none
    loss := some (s.after (slotLossWindow s.timing.config[i]))
    qualify := if r.measured = .qualifying then some (s.after (slotQualify s.timing.config[i])) else none }

/-- The selector of a line slot's source group is on its way. -/
def State.selectorTravels (s : State) (l : LineId) : Bool := (s.sourceSelector l).any (fun e => s.report e = .travelling)

/-- The selector of a line slot's source group is TRAVELLING: an enabled slot is SETTLING with no settle timer (R145). -/
def State.lineTravels (s : State) (l : LineId) : State :=
  let i := lineSlot l
  if s.slotDisabled i then s else s.setSlot i ((s.slot i).settleOn none)

/-- The selector of a line slot's source group is FAULTED: SETTLING ends and its timer stops (R145). -/
def State.lineFaults (s : State) (l : LineId) : State :=
  let i := lineSlot l
  if (s.slot i).settling then s.setSlot i (s.settleEnd i (s.slot i)) else s

/-- A line slot takes a decision of its source (R145; log entries 22, 24). A DISABLED slot takes a decided port at once, and
keeps its measured source when the selector is TRAVELLING or FAULTED; that it does so, and measures that source without
SETTLING once enabled, is the model's reading (log entry 25). -/
def State.takeDecision (s : State) (l : LineId) : State :=
  let i := lineSlot l
  let r := s.slot i
  match s.decideSource l with
  | .travelling => s.lineTravels l
  | .faulted => s.lineFaults l
  | .port p =>
    if s.slotDisabled i then s.setSlot i { r with source := p }
    else if p ≠ r.source then
      s.setSlot i ({ r with source := p }.settleOn (some (s.after Config.settleTime)))
    else if r.settling ∧ r.settle = none ∧ ¬ s.selectorTravels l then s.setSlot i (s.settleEnd i r)
    else s

/-- A line slot takes a report on its source group's selector (R145). -/
def State.lineReport (s : State) (l : LineId) (e : ElementId) : State :=
  match s.report e with
  | .settled _ => s.takeDecision l
  | .travelling => s.lineTravels l
  | .faulted => s.lineFaults l
  | .none => s

/-! ## Slot states (R146) -/

/-- What R146 finds for a slot. -/
inductive SlotEntry where
  | disabled | lost | settling | disqualified | measured
  deriving DecidableEq, Repr

/-- The source port is in maintenance, in MISMATCH or DUPLICATE, or unmonitored (R146, condition 5). -/
def State.sourceUnfit (s : State) (p : Port) : Bool :=
  s.sup.record[p].maintenance || s.sup.record[p].trace = .mismatch || s.sup.record[p].trace = .duplicate
  || s.sup.kind p = .none

/-- Conditions 2 to 6 of R146 for a line slot. -/
def State.lineEntry (s : State) (l : LineId) : SlotEntry :=
  let r := s.slot (lineSlot l)
  if (s.sourceSelector l).any (fun e => s.report e = .faulted) then .lost
  else if r.settling then .settling
  else match r.source with
    | none => .lost
    | some p =>
      if s.sup.record[p].grade = .failed then .lost
      else if s.sourceUnfit p then .disqualified
      else .measured

/-- The entry of R146's table that applies; outside RUNNING an enabled slot shows LOST (R161). -/
def State.slotEntry (s : State) (i : SlotId) : SlotEntry :=
  if s.slotDisabled i then .disabled
  else if s.path.op ≠ .running then .lost
  else match lineOf i with
    | none => .measured
    | some l => s.lineEntry l

def Measured.shown : Measured → SlotState
  | .lost => .lost
  | .qualifying => .qualifying
  | .disqualified => .disqualified
  | .available => .available

/-- A slot record with its state decided afresh (R146): a source condition sets the measured state and stops the
qualify timer; a disabled slot stops altogether. -/
def Slot.decide (r : Slot) (e : SlotEntry) : Slot :=
  match e with
  | .disabled =>
    { r with state := .disabled, measured := .lost, qualify := none, loss := none, gate := none, settling := false,
             settle := none }
  | .lost => { r with state := .lost, measured := .lost, qualify := none }
  | .settling => { r with state := .settling }
  | .disqualified => { r with state := .disqualified, measured := .disqualified, qualify := none }
  | .measured => { r with state := r.measured.shown }

/-- Every slot's state decided afresh. -/
def State.decideSlots (s : State) : State :=
  { s with timing := { s.timing with slot := Vector.ofFn (fun i => (s.slot i).decide (s.slotEntry i)) } }

/-! ## The selector (R150, R151) -/

/-- A slot is eligible when AVAILABLE, or when SETTLING and selected (R150). -/
def State.eligible (s : State) (i : SlotId) : Bool :=
  (s.slot i).state = .available || ((s.slot i).state = .settling && s.timing.selected = some i)

/-- A slot ranks before another: better priority, or equal priority and lower index. -/
def State.ranksBefore (s : State) (i j : SlotId) : Bool :=
  let a := slotPriority s.timing.config[i]
  let b := slotPriority s.timing.config[j]
  a < b || (a = b && i.val < j.val)

/-- The eligible slot that ranks before every other eligible slot. -/
def State.bestSlot (s : State) : Option SlotId :=
  firstWhere (fun i => s.eligible i && (List.finRange 4).all (fun j => j = i || !s.eligible j || s.ranksBefore i j))

/-- The selection R150 gives. -/
def State.selection (s : State) : Option SlotId :=
  match s.timing.forced with
  | some f => if s.eligible f then some f else none
  | none => s.bestSlot

/-! ## The generator (R152 to R158) -/

def GenState.tracking : GenState → Bool
  | .acquiring => true
  | .locked => true
  | .lockedFine => true
  | .freeRun => false
  | .holdover => false
  | .bridging => false

/-- The partial history interval is discarded (R158). -/
def Timing.dropPartial (t : Timing) : Timing := { t with partialCount := 0, partialSum := 0 }

/-- The generator starts tracking (R155). -/
def Timing.acquire (t : Timing) : Timing := { t.dropPartial with gen := .acquiring, lockCount := 0, noted := none }

/-- The mean of offsets, rounded toward zero (R157, R158). -/
def meanToZero (offsets : List Int) : Int := roundToZero offsets.sum offsets.length

/-- The loss rule (R157). -/
def Timing.loss (t : Timing) : Timing :=
  let rest := t.history.tail
  let t := { t.dropPartial with history := rest, lockCount := 0, noted := none }
  if rest = [] then { t with gen := .freeRun, offset := 0 }
  else { t with gen := .holdover, offset := meanToZero rest }

/-- The generator enters BRIDGING, noting the state it left (R156). -/
def Timing.bridge (t : Timing) : Timing := { t.dropPartial with gen := .bridging, noted := some t.gen }

/-- The generator returns to the noted state with its lock count at 0 (R156). -/
def Timing.unbridge (t : Timing) : Timing :=
  { t with gen := t.noted.getD .acquiring, noted := none, lockCount := 0 }

/-- The generator follows a selection (R155 to R157). `settling` says the selected slot is SETTLING. -/
def Timing.follow (t : Timing) (new : Option SlotId) (settling : Bool) : Timing :=
  let t' := { t with selected := new }
  match new with
  | none => if t.gen.tracking || t.gen = .bridging then t'.loss else t'
  | some _ =>
    if t.gen = .freeRun || t.gen = .holdover then t'.acquire
    else if new ≠ t.selected then t'.acquire
    else if t.gen = .bridging then (if settling then t' else t'.unbridge)
    else if settling then t'.bridge
    else t'

/-- The selector decides afresh and the generator follows in the same step (R151). -/
def State.reselect (s : State) : State :=
  let new := s.selection
  let settling := new.any (fun i => (s.slot i).state = .settling)
  { s with timing := s.timing.follow new settling }

/-- One TIMING event when the generator's state or the selected slot ends differently from how the step began (R151). -/
def State.timingEvent (began s : State) : State :=
  if s.timing.gen = began.timing.gen ∧ s.timing.selected = began.timing.selected then s
  else s.putEvent 0 (.timing s.timing.gen s.timing.selected)

/-! ## Timing alarms (R159) -/

/-- The value of a slot point. -/
def State.slotCondition (s : State) (i : SlotId) (k : Fin 2) : Bool :=
  !s.slotDisabled i && (if k = 0 then (s.slot i).state = .lost else (s.slot i).state = .disqualified)

/-- The value of a generator point. -/
def State.generatorCondition (s : State) (k : Fin 3) : Bool :=
  match k with
  | 0 => s.timing.gen = .holdover
  | 1 => s.timing.gen = .freeRun && (List.finRange 4).any (fun i => !s.slotDisabled i)
  | 2 => s.timing.gen = .acquiring

/-- The timing unit hands its conditions to the alarm unit (R159). That the slots' points come by index and kind and the
generator's after them is the model's choice: no rule orders them (R175; log entry 16). -/
def State.timingAlarms (s : State) : State :=
  let s := (List.finRange 4).foldl (fun s i =>
    (List.finRange 2).foldl (fun s k => s.setPoint (.slot i k) (s.slotCondition i k)) s) s
  (List.finRange 3).foldl (fun s k => s.setPoint (.generator k) (s.generatorCondition k)) s

/-- The end of a step of the timing unit that began at `began`: slot states, selection, generator, then its event and
alarms. One input of the timing unit is one step, so a command that hands it several inputs can put a TIMING event for each:
R151 says what a step brings and not what one step is (log entry 49). That the TIMING event comes before the alarm unit's events is the
model's choice too (R175; log entry 16). -/
def State.retimeFrom (began s : State) : State :=
  (State.timingEvent began s.decideSlots.reselect).timingAlarms

/-- A step of the timing unit after a change of something it follows. -/
def State.retime (s : State) : State := State.retimeFrom s s

/-- The timing unit takes a report on an element, for every line slot whose source's selector it is (R121, R145). -/
def State.timingReport (s : State) (e : ElementId) : State :=
  let s' := (List.finRange 2).foldl (fun s l => if s.sourceSelector l = some e then s.lineReport l e else s) s
  State.retimeFrom s s'

/-- The timing unit decides afresh the source port of each line slot that names a group (R77, R144). -/
def State.timingGroupChange (s : State) (g : GroupId) : State :=
  if s.path.op = .running then
    let s' := (List.finRange 2).foldl (fun s l => if s.followsGroup l g then s.takeDecision l else s) s
    State.retimeFrom s s'
  else s

/-! ## Pulses and gates (R147 to R149) -/

/-- Pulses are taken in RUNNING by a slot neither DISABLED nor SETTLING whose source gives them (R143, R144, R147). -/
def State.takesPulses (s : State) (i : SlotId) : Bool :=
  s.path.op = .running && !s.slotDisabled i && !(s.slot i).settling
  && match lineOf i with
     | none => bits s.timing.stationKind 0 2 ≠ 0
     | some _ => (s.slot i).source.isSome

/-- The count of a gate after a pulse that does not complete it: a slot without a gate starts one (R148). -/
def gatePulse (gate : Option Nat) : Option Nat :=
  match gate with
  | none => some 0
  | some n => some (n + 1)

/-- A pulse, with the gate it leaves (R147): it restarts the loss window, and takes a LOST slot to QUALIFYING. A gate in
progress goes on through measured LOST (log entry 26). -/
def State.pulse (s : State) (i : SlotId) (gate : Option Nat) (r : Slot) : Slot :=
  let r := { r with loss := some (s.after (slotLossWindow s.timing.config[i])), gate := gate }
  if r.measured = .lost then
    { r with measured := .qualifying, qualify := some (s.after (slotQualify s.timing.config[i])) }
  else r

/-- The loss window expires (R147). -/
def Slot.lose (r : Slot) : Slot := { r with measured := .lost, loss := none, gate := none, qualify := none }

/-- The offset of a gate of `m` oscillator cycles (R148). -/
def gateOffset (m : Nat) : Int :=
  clampInt (-9999) 9999 (roundNearest ((Config.gateNominal - m) * 10000000) m)

/-- A completed gate judged against the acceptance limit (R149). -/
def State.judgeGate (s : State) (i : SlotId) (offset : Int) (r : Slot) : Slot :=
  let within : Bool := decide (|offset| ≤ slotLimit s.timing.config[i])
  let r := { r with lastOffset := offset }
  match r.measured with
  | .qualifying => if within then r else { r with measured := .disqualified, qualify := none }
  | .available => if within then r else { r with measured := .disqualified }
  | .disqualified =>
    if within then { r with measured := .qualifying, qualify := some (s.after (slotQualify s.timing.config[i])) } else r
  | .lost => r

/-- A gate abandoned for its count (R148). -/
def Slot.overrun (r : Slot) : Slot :=
  let r := { r with gate := none, lastOffset := -9999 }
  match r.measured with
  | .qualifying => { r with measured := .disqualified, qualify := none }
  | .available => { r with measured := .disqualified }
  | .disqualified => r
  | .lost => r

/-- Lock judged from the remaining difference (R154). -/
def Timing.judgeLock (t : Timing) (d : Int) : Timing :=
  let small : Bool := decide (|d| ≤ 2)
  let large : Bool := decide (|d| > 20)
  let count (n : Nat) (next : GenState) : Timing :=
    if t.lockCount + 1 = n then { t with gen := next, lockCount := 0 } else { t with lockCount := t.lockCount + 1 }
  match t.gen with
  | .acquiring => if large then { t with lockCount := 0 } else count 4 .locked
  | .locked =>
    if large then { t with gen := .acquiring, lockCount := 0 }
    else if small then count 16 .lockedFine
    else { t with lockCount := 0 }
  | .lockedFine =>
    if large then { t with gen := .acquiring, lockCount := 0 }
    else if small then { t with lockCount := 0 }
    else count 4 .locked
  | .freeRun => t
  | .holdover => t
  | .bridging => t

/-- A mean pushed on the history, which holds at most four (R158). -/
def pushHistory (h : List Int) (v : Int) : List Int := (v :: h).take 4

/-- The gate's offset enters the partial interval; 480 gates make a push (R158). -/
def Timing.addPartial (t : Timing) : Timing :=
  let n := t.partialCount + 1
  let sum := t.partialSum + t.offset
  if n = 480 then { t.dropPartial with history := pushHistory t.history (roundToZero sum 480) }
  else { t with partialCount := n, partialSum := sum }

/-- A steering gate (R153, R154, R158; log entry 27). -/
def Timing.steer (t : Timing) (gate : Int) : Timing :=
  let moved := { t with offset := t.offset + clampInt (-5) 5 (gate - t.offset) }
  let judged := moved.judgeLock (gate - moved.offset)
  if judged.gen = .lockedFine then (if t.gen = .lockedFine then judged.addPartial else judged)
  else judged.dropPartial

/-! ## Inputs of the timing unit (R145, R147 to R149) -/

/-- The next pulse of the slot is the 1,000th after the one that started its gate, and completes it (R148). -/
def Slot.gateDue (r : Slot) : Bool := r.gate = some (Config.gatePulses - 1)

/-- A pulse that completes no gate arrives (R147, R148); one that does comes with the gate's count (log entry 26). -/
def State.takePulse (s : State) (i : SlotId) : State :=
  let r := s.slot i
  if s.takesPulses i && !r.gateDue then State.retimeFrom s (s.setSlot i (s.pulse i (gatePulse r.gate) r)) else s

/-- The loss window expires (R147). -/
def State.lossExpire (s : State) (i : SlotId) : State :=
  match (s.slot i).loss with
  | none => s
  | some t =>
    let s := s.passTo t
    State.retimeFrom s (s.setSlot i (s.slot i).lose)

/-- The qualify timer expires in QUALIFYING (R149). -/
def State.qualifyExpire (s : State) (i : SlotId) : State :=
  match (s.slot i).qualify, (s.slot i).measured with
  | some t, .qualifying =>
    let s := s.passTo t
    State.retimeFrom s (s.setSlot i { s.slot i with measured := .available, qualify := none })
  | _, _ => s

/-- The settle timer expires and SETTLING ends (R145). -/
def State.settleExpire (s : State) (l : LineId) : State :=
  let i := lineSlot l
  match (s.slot i).settle with
  | none => s
  | some t =>
    let s := s.passTo t
    State.retimeFrom s (s.setSlot i (s.settleEnd i (s.slot i)))

/-- A gate is in progress on a slot that takes pulses. -/
def State.gateRuns (s : State) (i : SlotId) : Bool := s.takesPulses i && (s.slot i).gate.isSome

/-- The gate is abandoned for its count (R148). -/
def State.abandonGate (s : State) (i : SlotId) : State :=
  if s.gateRuns i then State.retimeFrom s (s.setSlot i (s.slot i).overrun) else s

/-- The generator tracks a slot. -/
def State.tracks (s : State) (i : SlotId) : Bool := s.timing.gen.tracking && s.timing.selected = some i

/-- A gate completes with a count: its pulse, which starts the next gate, the judgement, the selection, and the steering of a
tracking generator whose slot is still AVAILABLE and selected (R147 to R153). With the measured state LOST the pulse makes it
QUALIFYING first (R147) and the gate is judged from there: R149's table has no LOST row, and this order is the model's (DESIGN
CHOICE, log entry 26). -/
def State.judgedGate (s : State) (i : SlotId) (m : Nat) : State :=
  let offset := gateOffset m
  let t := (s.setSlot i (s.judgeGate i offset (s.pulse i (some 0) (s.slot i)))).decideSlots.reselect
  let t := if s.tracks i && t.tracks i && (t.slot i).state = .available then { t with timing := t.timing.steer offset }
    else t
  (State.timingEvent s t).timingAlarms

/-- The 1,000th pulse of a gate completes it (R148): a count above the limit has abandoned it instead. -/
def State.completeGate (s : State) (i : SlotId) (m : Nat) : State :=
  if s.takesPulses i && (s.slot i).gateDue && decide (0 < m) then
    (if m ≤ Config.gateLimit then s.judgedGate i m else s.abandonGate i)
  else s

/-- Forced slot stored or removed, and the selector re-decides (R137, R151). -/
def State.setForce (s : State) (f : Option SlotId) : State :=
  State.retimeFrom s { s with timing := { s.timing with forced := f } }

/-- A line slot takes its source port from the adoption reports, and SETTLING from a selector adopted TRAVELLING (R145, R161;
log entry 23). -/
def State.startLine (s : State) (l : LineId) : State :=
  let s := match s.decideSource l with
    | .port p => s.setSlot (lineSlot l) { s.slot (lineSlot l) with source := p }
    | .travelling => s
    | .faulted => s
  if s.selectorTravels l then s.lineTravels l else s

/-- The timing unit at the start of RUNNING (R161): enabled slots start from LOST, line slots from their sources. -/
def State.timingStart (s : State) : State :=
  State.retimeFrom s ((List.finRange 2).foldl State.startLine s)

/-- The timing unit at the start of a restart (R161): the loss rule if tracking or BRIDGING; history and station input
kind kept. -/
def Timing.restart (t : Timing) : Timing :=
  let g := if t.gen.tracking || t.gen = .bridging then t.loss else t.dropPartial
  { Timing.reset with
    stationKind := t.stationKind
    gen := g.gen
    offset := g.offset
    history := g.history }

end Sys2Proof.Machine
end

