-- ==== Sys2Proof/Machine/Grading.lean ====
section
/-! DEFINITION. Signal grading (03): calibration, the two histories, reduced grading and the grade decision. -/

namespace Sys2Proof.Machine

/-! ## Calibration (R37 to R39) -/

namespace Calibration

def cLo (k : Vector Word 4) : Int := k[0].toNat
def pLo (k : Vector Word 4) : Int := k[1].toInt
def cHi (k : Vector Word 4) : Int := k[2].toNat
def pHi (k : Vector Word 4) : Int := k[3].toInt

/-- A valid set (R38). -/
def valid (k : Vector Word 4) : Bool := decide (cLo k < cHi k) && decide (pLo k < pHi k)

/-- A power code converted to tenths of a dBm (R39). -/
def convert (k : Vector Word 4) (code : Int) : Int :=
  clampInt (-500) 100 (pLo k + roundNearest ((code - cLo k) * (pHi k - pLo k)) (cHi k - cLo k))

end Calibration

/-! ## Histories (R40, R41) -/

/-- A sample pushed as the newest of at most three (R40). -/
def pushLol (h : List Bool) (lol : Bool) : List Bool := (lol :: h).take 3

/-- A power pushed as the newest of at most four (R41). -/
def pushPower (h : List Int) (p : Int) : List Int := (p :: h).take 4

/-- The loss-of-light majority (R40): two samples set, or a single sample that is set. -/
def lolMajority (h : List Bool) : Bool := 2 ≤ h.countP id || h = [true]

/-- The smoothed power (R41): the mean of the entries, rounded down; absent with an empty history. -/
def smoothedPower (h : List Int) : Option Int :=
  match h with
  | [] => none
  | _ :: _ => some (roundDown h.sum h.length)

/-! ## The grade decision (R46 to R49) -/

/-- The port is FAILED after the decision (R47). -/
def failedNow (cfg : Vector Word 8) (r : PortRecord) : Bool :=
  if r.grade = .failed then
    !(!lolMajority r.lol && r.presence = .present
      && match smoothedPower r.power with
         | none => true
         | some v => decide (PortConfig.fail cfg + PortConfig.hysteresis cfg ≤ v))
  else
    lolMajority r.lol
    || match smoothedPower r.power with
       | none => false
       | some v => decide (v < PortConfig.fail cfg)

/-- The OVERLOAD test (R46, R49); it is not made when OVERLOAD is at or below DEGRADE. -/
def overloadNow (cfg : Vector Word 8) (previous : Grade) (v : Int) : Bool :=
  decide (PortConfig.degrade cfg < PortConfig.overload cfg)
  && if previous = .overload then decide (PortConfig.overload cfg - PortConfig.hysteresis cfg < v)
     else decide (PortConfig.overload cfg < v)

/-- The DEGRADED test (R46, R49): a port held DEGRADED, or just leaving FAILED, clears at DEGRADE + H. -/
def degradedNow (cfg : Vector Word 8) (previous : Grade) (v : Int) : Bool :=
  if previous = .degraded ∨ previous = .failed then
    decide (v < PortConfig.degrade cfg + PortConfig.hysteresis cfg)
  else decide (v < PortConfig.degrade cfg)

/-- The grade the decision gives (R47 to R49), from the record's previous grade. -/
def gradeDecision (cfg : Vector Word 8) (r : PortRecord) : Grade :=
  if failedNow cfg r then .failed
  else match smoothedPower r.power with
    | none => .good
    | some v =>
      if overloadNow cfg r.grade v then .overload
      else if degradedNow cfg r.grade v then .degraded
      else .good

/-- A record with its grade decided at an answered update: the cause is LIGHT while FAILED and absent otherwise (R47). -/
def PortRecord.graded (cfg : Vector Word 8) (r : PortRecord) : PortRecord :=
  let g := gradeDecision cfg r
  { r with grade := g, cause := if g = .failed then some .light else none }

/-- The power reading of an answered result of a POWER port (R38). -/
def powerReading (k : Vector Word 4) (a : Answer) : Option Int :=
  match a.power with
  | none => none
  | some code => if Calibration.valid k then some (Calibration.convert k code.toNat) else none

/-- The power history and GRADING REDUCED after an answered result (R30, R41, R42). -/
def PortRecord.takePower (kind : MonitorKind) (k : Vector Word 4) (a : Answer) (r : PortRecord) : PortRecord :=
  match kind with
  | .power =>
    match powerReading k a with
    | some p => { r with power := pushPower r.power p, reduced := false }
    | none => { r with power := [], reduced := true }
  | .lolOnly => r
  | .none => r

/-- The grading part of an answered update (R28, R30, R40 to R49): presence, capabilities, the pushes, the decision. -/
def PortRecord.answered (kind : MonitorKind) (cfg : Vector Word 8) (k : Vector Word 4) (a : Answer) (r : PortRecord) :
    PortRecord :=
  let r := { r with
    presence := .present
    caps := some ⟨a.power.isSome, a.overhead.isSome⟩
    lol := pushLol r.lol a.lol }
  (r.takePower kind k a).graded cfg

/-- The calibration set a port names (R38). -/
def Supervisor.calibrationOf (u : Supervisor) (p : Port) : Vector Word 4 :=
  u.calibration[PortConfig.calibrationSet u.config[p]]

/-- A calibration change empties the power histories of the POWER ports naming a set (R43). -/
def Supervisor.calibrationChanged (u : Supervisor) (n : Fin 8) : Supervisor :=
  { u with record := Vector.ofFn (fun p : Port =>
      if u.kind p = .power ∧ PortConfig.calibrationSet u.config[p] = n then { u.record[p] with power := [] }
      else u.record[p]) }

end Sys2Proof.Machine
end

