-- ==== Sys2Proof/Machine/Cabling.lean ====
section
/-! DEFINITION. Cabling supervision (04): trace acceptance, the far-end map, trace states, maintenance and the group
consistency checks. -/

namespace Sys2Proof.Machine

def Supervisor.setRecord (u : Supervisor) (p : Port) (r : PortRecord) : Supervisor :=
  { u with record := put u.record p r }

def Supervisor.setFarEnd (u : Supervisor) (p : Port) (id : Option Word) : Supervisor :=
  { u with farEnd := put u.farEnd p id }

/-- The trace state of a port that holds an identity (R58). -/
def heldTraceState (expected id : Word) : TraceState :=
  if expected = 0 then .free else if expected = id then .matched else .mismatch

/-- The port that holds an identity in the far-end map (R59). -/
def Supervisor.holder (u : Supervisor) (id : Word) : Option Port :=
  firstWhere (fun q : Port => u.farEnd[q] = some id)

/-- The lowest-numbered duplicate of an identity (R60). -/
def Supervisor.duplicateOf (u : Supervisor) (id : Word) : Option Port :=
  firstWhere (fun q : Port => u.record[q].trace = .duplicate && u.record[q].accepted = some id)

/-- A duplicate is promoted to holder (R60). -/
def Supervisor.promote (u : Supervisor) (id : Word) : Supervisor :=
  match u.duplicateOf id with
  | none => u
  | some q =>
    (u.setFarEnd q (some id)).setRecord q
      { u.record[q] with trace := heldTraceState (PortConfig.expected u.config[q]) id }

/-- A port gives up its map entry, if it holds one, with the promotion that follows (R60). The port itself is taken out
of DUPLICATE first, so that it is never promoted to what it gives up. -/
def Supervisor.giveUp (u : Supervisor) (p : Port) : Supervisor :=
  match u.farEnd[p] with
  | none => u
  | some id => (u.setFarEnd p none).promote id

/-- The accepted trace is dropped; the record is left in the given trace state, its candidate and run kept or cleared
(R27, R34, R55). -/
def Supervisor.dropTrace (u : Supervisor) (p : Port) (state : TraceState) (clearRun : Bool) : Supervisor :=
  let r := u.record[p]
  let r := { r with accepted := none, trace := state }
  let r := if clearRun then { r with candidate := none, run := 0 } else r
  (u.setRecord p r).giveUp p

/-- A port accepts a trace (R59, R61): the old entry is given up first, then an identity is looked up. -/
def Supervisor.acceptTrace (u : Supervisor) (p : Port) (id : Word) : Supervisor :=
  let u := (u.setRecord p { u.record[p] with accepted := some id, trace := .silent }).giveUp p
  if id = 0 then u
  else match u.holder id with
    | some _ => u.setRecord p { u.record[p] with trace := .duplicate }
    | none =>
      (u.setFarEnd p (some id)).setRecord p
        { u.record[p] with trace := heldTraceState (PortConfig.expected u.config[p]) id }

/-- A port with no accepted trace is AWAITING in the traced case (R57, R58). -/
def Supervisor.awaitTrace (u : Supervisor) (p : Port) : Supervisor :=
  if u.record[p].accepted = none then u.setRecord p { u.record[p] with trace := .awaiting } else u

/-- The traced case (R56 to R58): the received trace against the candidate, and acceptance after P in a row. -/
def Supervisor.receiveTrace (u : Supervisor) (p : Port) (word : Word) : Supervisor :=
  let t := receivedTrace word
  let limit := PortConfig.persistence u.config[p]
  let r := u.record[p]
  let run := if r.candidate = some t then min limit (r.run + 1) else 1
  let u := u.setRecord p { r with candidate := some t, run := run }
  if run = limit ∧ r.accepted ≠ some t then u.acceptTrace p t else u.awaitTrace p

/-- Trace work of an answered update (R55). -/
def Supervisor.traceWork (u : Supervisor) (p : Port) (a : Answer) : Supervisor :=
  match u.kind p, a.overhead with
  | .power, some (word, _) =>
    if u.record[p].grade = .failed then u.dropTrace p .silent true else u.receiveTrace p word
  | .power, none => u.dropTrace p .unchecked true
  | .lolOnly, _ => u.dropTrace p .unchecked true
  | .none, _ => u

/-- The module goes ABSENT (R27). -/
def Supervisor.goAbsent (u : Supervisor) (p : Port) : Supervisor :=
  let u := u.setRecord p { u.record[p] with
    presence := .absent, grade := .failed, cause := some .absent, power := [], lol := [true, true, true]
    caps := none, reduced := false }
  u.dropTrace p .silent false

/-- An update of a port whose module did not answer (R26). -/
def Supervisor.missed (u : Supervisor) (p : Port) : Supervisor :=
  match u.record[p].presence with
  | .present => u.setRecord p { u.record[p] with presence := .missedOnce }
  | .missedOnce => u.goAbsent p
  | .absent => u

/-- An update of a port whose module answered (R28, R30). -/
def Supervisor.tookAnswer (u : Supervisor) (p : Port) (a : Answer) : Supervisor :=
  (u.setRecord p (u.record[p].answered (u.kind p) u.config[p] (u.calibrationOf p) a)).traceWork p a

/-- An accepted change of the monitor kind (R34). The configuration already holds the new kind. -/
def Supervisor.kindChanged (u : Supervisor) (p : Port) (old : MonitorKind) : Supervisor :=
  let r := u.record[p]
  let fresh : PortRecord :=
    { r with presence := .present, lol := [], power := [], caps := none, cause := none, reduced := false }
  match old, u.kind p with
  | _, .none => (u.setRecord p { fresh with grade := .unmonitored }).dropTrace p .unchecked true
  | .none, .lolOnly => (u.setRecord p { fresh with grade := .unknown }).dropTrace p .unchecked true
  | .none, .power => (u.setRecord p { fresh with grade := .unknown }).dropTrace p .awaiting true
  | .power, .lolOnly =>
    let r := { r with power := [], reduced := false }
    let g := gradeDecision u.config[p] r
    let cause := if g = .failed then (if r.grade = .failed then r.cause else some .light) else none
    (u.setRecord p { r with grade := g, cause := cause }).dropTrace p .unchecked true
  | .lolOnly, .power => (u.setRecord p { r with power := [] }).dropTrace p .awaiting true
  | .lolOnly, .lolOnly => u
  | .power, .power => u

/-- An accepted change of the expected trace (R62). The configuration already holds the new value. -/
def Supervisor.expectedChanged (u : Supervisor) (p : Port) : Supervisor :=
  let r := u.record[p]
  match r.trace, r.accepted with
  | .free, some id | .matched, some id | .mismatch, some id =>
    u.setRecord p { r with trace := heldTraceState (PortConfig.expected u.config[p]) id }
  | _, _ => u

/-- A changed persistence lowers a run count that stands above it (R33). -/
def Supervisor.persistenceChanged (u : Supervisor) (p : Port) : Supervisor :=
  u.setRecord p { u.record[p] with run := min (PortConfig.persistence u.config[p]) u.record[p].run }

/-- Maintenance set or cleared (R70, R71). -/
def Supervisor.setMaintenance (u : Supervisor) (p : Port) (v : Bool) : Supervisor :=
  u.setRecord p { u.record[p] with maintenance := v }

/-! ## Group consistency (R64 to R66) -/

/-- The identity a port has accepted. -/
def Supervisor.identity (u : Supervisor) (p : Port) : Option Word :=
  match u.record[p].accepted with
  | some id => if id = 0 then none else some id
  | none => none

/-- The working ports of a group. -/
def GroupConfig.workings (cfg : Vector Word 8) : List Port := (List.finRange 4).filterMap (GroupConfig.working cfg)

/-- CROSS-SHELF (R65). -/
def Supervisor.crossShelf (u : Supervisor) (cfg : Vector Word 8) : Bool :=
  match GroupConfig.kind cfg, GroupConfig.protect cfg with
  | .none, _ => false
  | _, none => false
  | _, some p =>
    match u.identity p with
    | none => false
    | some id =>
      (GroupConfig.workings cfg).all (fun q => (u.identity q).isSome)
      && (GroupConfig.workings cfg).any (fun q => (u.identity q).any (fun w => traceShelf w ≠ traceShelf id))

/-- SWAPPED (R66). -/
def Supervisor.swapped (u : Supervisor) (cfg : Vector Word 8) : Bool :=
  match GroupConfig.kind cfg, GroupConfig.protect cfg with
  | .none, _ => false
  | _, none => false
  | _, some p =>
    let pe := PortConfig.expected u.config[p]
    (GroupConfig.workings cfg).any (fun q =>
      let we := PortConfig.expected u.config[q]
      pe ≠ 0 && we ≠ 0 && u.record[q].accepted = some pe && u.record[p].accepted = some we)

end Sys2Proof.Machine
end

