-- ==== Sys2Proof/Machine/Protection.lean ====
section
/-! DEFINITION. The protection controller (05, 06): requests, stored commands, entries, the group update and its
evaluation, the bridge protocol, configuration changes and adoption. -/

namespace Sys2Proof.Machine

def State.setGroup (s : State) (g : GroupId) (r : Group) : State := { s with group := put s.group g r }

/-! ## Grade conditions and hold-off (R80, R81) -/

/-- The grade condition of a grade under the degrade-switches flag (R80). -/
def gradeCondition (degradeSwitches : Bool) : Grade → Condition
  | .failed => .fail
  | .degraded => if degradeSwitches then .degrade else .clear
  | .overload => if degradeSwitches then .degrade else .clear
  | .unknown => .clear
  | .good => .clear
  | .unmonitored => .clear

/-- A channel's grade condition; a channel with no working port has none. -/
def State.channelCondition (s : State) (cfg : Vector Word 8) (k : ChannelIx) : Condition :=
  match GroupConfig.working cfg k with
  | none => .clear
  | some q => gradeCondition (GroupConfig.degradeSwitches cfg) s.sup.record[q].grade

/-- The hold-off of a configuration on the clock: steps of 100 ms (R76). -/
def holdOffTime (cfg : Vector Word 8) : Nat := Config.ms (100 * GroupConfig.holdOff cfg)

/-- The restore wait of a configuration on the clock: minutes (R76). -/
def restoreWaitTime (cfg : Vector Word 8) : Nat := Config.ms (60000 * GroupConfig.restoreWait cfg)

/-- The hold-off timer started for a condition; a hold-off of 0 expires in the same step (R80). -/
def Channel.startHoldOff (c : Channel) (cond : Condition) (now holdOff : Nat) : Channel :=
  if holdOff = 0 then { c with raised := cond } else { c with holdOff := some (now + holdOff) }

/-- A channel meets its grade condition as it now stands (R80; log entry 35). -/
def Channel.meet (c : Channel) (cond : Condition) (now holdOff : Nat) : Channel :=
  match cond with
  | .clear => { c with raised := .clear, holdOff := none }
  | .degrade =>
    if c.holdOff.isSome then c
    else match c.raised with
      | .clear => c.startHoldOff .degrade now holdOff
      | .degrade => c
      | .fail => { c with raised := .degrade }
  | .fail =>
    if c.holdOff.isSome then c
    else match c.raised with
      | .clear => c.startHoldOff .fail now holdOff
      | .degrade => c.startHoldOff .fail now holdOff
      | .fail => c

/-! ## Condition requests, PFAIL and the protocol's inputs (R67, R82, R83, R103, R104) -/

/-- A working port under trace action (R67). -/
def Supervisor.traceAction (u : Supervisor) (q : Port) : Bool :=
  PortConfig.action u.config[q] && (u.record[q].trace = .mismatch || u.record[q].trace = .duplicate)

/-- The condition request (R82). -/
def conditionRequest (raised : Condition) (action : Bool) : Condition := if action then .fail else raised

/-- A group's channel brought up to date: its raised request, its timer and its condition request. -/
def State.refreshChannel (s : State) (cfg : Vector Word 8) (k : ChannelIx) (c : Channel) : Channel :=
  let c := c.meet (s.channelCondition cfg k) s.now (holdOffTime cfg)
  let action := (GroupConfig.working cfg k).any s.sup.traceAction
  { c with request := conditionRequest c.raised action }

/-- The bridge protocol is unusable (R104). A protect module that goes ABSENT has no capabilities, so the cause clears at
once; that it does, and does not wait for OVERHEAD to be reported, is the model's reading (log entry 46). -/
def Supervisor.unusable (u : Supervisor) (cfg : Vector Word 8) : Bool :=
  GroupConfig.kind cfg = .shared
  && (GroupConfig.protect cfg).any (fun p => u.record[p].caps.any (fun k => !k.overhead))

/-- The protect port is FAILED. -/
def Supervisor.protectFailed (u : Supervisor) (cfg : Vector Word 8) : Bool :=
  (GroupConfig.protect cfg).any (fun p => u.record[p].grade = .failed)

/-- A cause of PFAIL holds (R68, R83). -/
def Supervisor.protectOut (u : Supervisor) (cfg : Vector Word 8) : Bool :=
  u.protectFailed cfg
  || (GroupConfig.protect cfg).any (fun p =>
      u.record[p].maintenance || u.record[p].trace = .mismatch || u.record[p].trace = .duplicate)
  || u.crossShelf cfg || u.unusable cfg

/-- The far-end word becomes absent (R103). -/
def Group.dropFarEnd (r : Group) : Group := { r with candidate := none, run := 0, accepted := none }

/-- A group record with the inputs the port supervisor holds taken in (R90 step 1, R82, R83, R93, R103, R104). -/
def State.refreshGroup (s : State) (r : Group) : Group :=
  let cfg := r.config
  let unusable := s.sup.unusable cfg
  let r := { r with
    channel := Vector.ofFn (fun k => s.refreshChannel cfg k r.channel[k])
    pfail := GroupConfig.complete cfg && s.sup.protectOut cfg
    unusable := unusable
    conditions := { r.conditions with
      crossShelf := s.sup.crossShelf cfg
      swapped := s.sup.swapped cfg } }
  if unusable || s.sup.protectFailed cfg then r.dropFarEnd else r

/-! ## Local requests (R79, R89) -/

/-- A request ranks above another: a higher level, or the same level and a lower channel (R89, R105). -/
def Request.beats (a b : Request) : Bool :=
  b.level.val < a.level.val || (a.level = b.level && a.channel.val < b.channel.val)

/-- The channel number of a channel index. -/
def channelNumber (k : ChannelIx) : Fin 8 := ⟨k + 1, by omega⟩

def Stored.request : Stored → Request
  | .bar => ⟨7, 0⟩
  | .force k => ⟨5, channelNumber k⟩
  | .manual k => ⟨2, channelNumber k⟩

def Entry.request : Entry → Request
  | .wait k => ⟨1, channelNumber k⟩
  | .stay => ⟨1, 1⟩

def Condition.requests (k : ChannelIx) : Condition → List Request
  | .fail => [⟨4, channelNumber k⟩]
  | .degrade => [⟨3, channelNumber k⟩]
  | .clear => []

/-- PFAIL and the FAIL and DEGRADE requests held; an incomplete group holds none (R79). -/
def Group.conditionRequests (r : Group) : List Request :=
  if GroupConfig.complete r.config then
    (if r.pfail then [⟨6, 0⟩] else [])
    ++ (List.finRange 4).flatMap (fun k => (r.channel[k]).request.requests k)
  else []

/-- The automatic requests held (R79). -/
def Group.automaticRequests (r : Group) : List Request :=
  r.conditionRequests
  ++ (if GroupConfig.complete r.config then (r.entry.map Entry.request).toList else [])

/-- The local requests held (R79). -/
def Group.localRequests (r : Group) : List Request :=
  (if GroupConfig.complete r.config then (r.stored.map Stored.request).toList else []) ++ r.automaticRequests

/-- The highest of a list of requests, CLEAR when it is empty (R89). -/
def topRequest (l : List Request) : Request :=
  l.foldl (fun best x => if x.beats best then x else best) Request.clear

/-- The highest level of a list of requests, 0 when it is empty. -/
def topLevel (l : List Request) : Nat := (topRequest l).level

/-! ## MANUAL, WAIT and STAY (R86 to R88) -/

/-- A stored MANUAL is removed and a COMMAND event reports it (R86, R107). -/
def State.cancelManual (s : State) (g : GroupId) : State :=
  match s.group[g].stored with
  | some (.manual _) => (s.setGroup g { s.group[g] with stored := none }).putEvent g (.command 3 .refusedLevel)
  | some .bar => s
  | some (.force _) => s
  | none => s

/-- A local request of level 2 or above is held. -/
def Group.heldAboveEntry (r : Group) : Bool := 2 ≤ topLevel r.localRequests

/-- The channel whose own FAIL or DEGRADE was the winner (R87). -/
def Group.ownFailure (r : Group) : Option ChannelIx :=
  if r.source = .local ∧ (r.winner.level = 4 ∨ r.winner.level = 3) then
    if h : 1 ≤ r.winner.channel.val ∧ r.winner.channel.val ≤ 4 then some ⟨r.winner.channel - 1, by omega⟩ else none
  else none

/-- The conditions of R87 hold for channel `k`. -/
def State.entersEntry (s : State) (r : Group) (k : ChannelIx) : Bool :=
  r.evaluated && GroupConfig.complete r.config && r.channel[k].request = .clear && !r.heldAboveEntry
  && (GroupConfig.selector r.config).any (fun e => (s.element e).commanded.val = k.val + 1)

/-- The entry made for channel `k`, with its restore-wait timer (R87). -/
def State.enterEntry (s : State) (r : Group) (k : ChannelIx) : Group :=
  if GroupConfig.kind r.config = .shared ∨ GroupConfig.revertive r.config then
    { r with entry := some (.wait k), restoreWait := some (s.after (restoreWaitTime r.config)) }
  else { r with entry := some .stay }

/-- The removal or the making of an entry (R87, R88). -/
def State.settleEntry (s : State) (r : Group) : Group :=
  if r.heldAboveEntry then { r with entry := none, restoreWait := none }
  else if r.entry.isSome then r
  else match r.ownFailure with
    | some k => if s.entersEntry r k then s.enterEntry r k else r
    | none => r

/-- Steps 1 to 3 of a group's update (R90). -/
def State.bringRequests (s : State) (g : GroupId) : State :=
  let s := s.setGroup g (s.refreshGroup s.group[g])
  let s := if s.group[g].conditionRequests ≠ [] then s.cancelManual g else s
  let r := s.settleEntry s.group[g]
  s.setGroup g { r with top := topRequest r.localRequests }

/-! ## Evaluation (R91, R92, R105, R108, R110) -/

/-- The far-end request and bridged channel (R103, R105, R108). -/
def Group.farRequest (r : Group) : Request := (r.accepted.map bridgeRequest).getD Request.clear
def Group.farBridged (r : Group) : Fin 8 := (r.accepted.map bridgeBridged).getD 0

/-- The winner and its source (R91, R105). -/
def Group.choose (r : Group) : Request × Source :=
  if GroupConfig.complete r.config then
    match GroupConfig.kind r.config with
    | .shared => if r.farRequest.beats r.top then (r.farRequest, .farEnd) else (r.top, .local)
    | .paired => (r.top, .local)
    | .none => (Request.clear, .local)
  else (Request.clear, .local)

/-- The position of a channel number; 0 when there is none of that number. -/
def positionOf (n : Fin 8) : Position := if h : n.val < 5 then ⟨n, h⟩ else 0

/-- The channel a winner moves: its channel at levels 1 to 5, none otherwise. -/
def Request.moves (w : Request) : Option (Fin 8) := if 1 ≤ w.level.val ∧ w.level.val ≤ 5 then some w.channel else none

/-- Where the winner puts the selector element (R91, R108). -/
def Group.selectorTarget (r : Group) : Position :=
  if GroupConfig.complete r.config then
    match GroupConfig.kind r.config, r.winner.moves with
    | .paired, some k => if k = 1 then 1 else 0
    | .shared, some k => if r.farBridged = k then positionOf k else 0
    | _, _ => 0
  else 0

/-- Where the winner puts the bridge element; only a complete SHARED group commands one (R91, R108). -/
def Group.bridgeTarget (r : Group) : Option Position :=
  if GroupConfig.complete r.config ∧ GroupConfig.kind r.config = .shared then
    some ((r.winner.moves.map positionOf).getD 0)
  else none

/-- The element commands of an evaluation (R91, R108). -/
def State.commandGroup (s : State) (g : GroupId) : State :=
  let r := s.group[g]
  let s := match r.bridgeTarget, GroupConfig.bridge r.config with
    | some p, some e => s.commandElement e p
    | _, _ => s
  match GroupConfig.selector r.config with
  | some e => s.commandElement e r.selectorTarget
  | none => s

/-- The channel of a disagreement (R110). -/
def Group.disagreement (r : Group) : Option (Fin 8) :=
  if GroupConfig.kind r.config = .shared then
    r.winner.moves.bind (fun k => if r.farBridged = k then none else some k)
  else none

/-- The confirmation timer at the end of an evaluation (R110). -/
def Group.confirm (r : Group) (now : Nat) : Group :=
  match r.disagreement with
  | none => { r with confirmation := none, timeout := false }
  | some k =>
    if r.timeout then r
    else match r.confirmation with
      | none => { r with confirmation := some (k, now + Config.confirmationTime) }
      | some (k', _) => if k' = k then r else { r with confirmation := some (k, now + Config.confirmationTime) }

/-- A group evaluated for the first time starts the timer of a WAIT entry (R96). -/
def Group.firstEvaluated (r : Group) (now : Nat) : Group :=
  match r.entry with
  | some (.wait _) => { r with restoreWait := some (now + restoreWaitTime r.config) }
  | some .stay => r
  | none => r

/-- Step 4 of a group's update: winner, commands, SWITCH event, confirmation timer (R90). -/
def State.evaluate (s : State) (first : Bool) (g : GroupId) : State :=
  let old := s.group[g].winner
  let chosen := s.group[g].choose
  let s := s.setGroup g { s.group[g] with winner := chosen.1, source := chosen.2 }
  let s := s.commandGroup g
  let s := if old = chosen.1 then s else s.putEvent g (.switch old chosen.1)
  let r := s.group[g].confirm s.now
  let r := if first then r.firstEvaluated s.now else r
  s.setGroup g { r with evaluated := true }

/-! ## Conditions and the transmit word (R93, R99, R100) -/

/-- The selector's report changes ON PROTECT only when it is settled (R93). -/
def Report.onProtect (rep : Report) (held : Bool) : Bool :=
  match rep with
  | .settled p => p.val ≠ 0
  | .travelling => held
  | .faulted => held
  | .none => held

/-- The group records a report on one of its elements, `heard` being the driver that made it: ON PROTECT follows the selector's
(R93). -/
def State.noteReport (s : State) (heard : Driver) (g : GroupId) (e : ElementId) : State :=
  let r := s.group[g]
  if GroupConfig.selector r.config = some e then
    s.setGroup g { r with conditions := { r.conditions with
      onProtect := (heard.report e).onProtect r.conditions.onProtect } }
  else s

/-- The six conditions, with those that follow the record and the elements as last heard of brought up to date (R83, R93,
R111). -/
def Group.conditionsFor (r : Group) (heard : Driver) : GroupConditions :=
  { r.conditions with
    protectUnavailable := r.pfail || (GroupConfig.kind r.config ≠ .none && !GroupConfig.complete r.config)
    protocolFailure := GroupConfig.kind r.config = .shared && (r.invalidWord || r.timeout || r.unusable)
    switchFault := heard.faulted (GroupConfig.selector r.config) || heard.faulted (GroupConfig.bridge r.config) }

/-- A condition by its alarm point. -/
def GroupConditions.get (q : GroupConditions) (k : Fin 6) : Bool :=
  match k with
  | 0 => q.protectUnavailable
  | 1 => q.onProtect
  | 2 => q.crossShelf
  | 3 => q.swapped
  | 4 => q.protocolFailure
  | 5 => q.switchFault

/-- Step 5 of a group's update: the changed conditions are handed to the alarm unit (R90, R93). That several conditions go in
the order of their kinds, 8 to 13, is the model's choice: no rule orders them (R93, R175; log entry 16). -/
def State.handConditions (s : State) (heard : Driver) (g : GroupId) : State :=
  let q := s.group[g].conditionsFor heard
  let s := s.setGroup g { s.group[g] with conditions := q }
  (List.finRange 6).foldl (fun s k => s.setPoint (.group g k) (q.get k)) s

/-- The bridged channel of a group, by the last report heard on its bridge element (R99). -/
def Driver.bridgedChannel (heard : Driver) (cfg : Vector Word 8) : Fin 8 :=
  match GroupConfig.bridge cfg with
  | none => 0
  | some e =>
    match heard.report e with
    | .settled p => if p.val ≤ GroupConfig.count cfg then ⟨p, by omega⟩ else 0
    | .travelling => 0
    | .faulted => 0
    | .none => 0

/-- The transmit bridge word of a port set in the scan controller (R21). -/
def State.setTransmit (s : State) (p : Port) (w : Word) : State :=
  { s with scan := { s.scan with transmit := put s.scan.transmit p w } }

/-- The formed word set as the protect port's transmit word (R100). -/
def State.formTransmit (s : State) (heard : Driver) (g : GroupId) : State :=
  let r := s.group[g]
  match GroupConfig.kind r.config, GroupConfig.protect r.config with
  | .shared, some p => s.setTransmit p (bridgeWord r.top (heard.bridgedChannel r.config))
  | _, _ => s

/-! ## The update (R90) -/

/-- One update of a group, whole (R90), for an input already recorded; `heard` is the driver as the reports the group has taken
show it, and `first` the first evaluation (R96). A report that the update's own commands make is no part of it (R121). -/
def State.takeUpdate (s : State) (heard : Driver) (first : Bool) (g : GroupId) : State :=
  let s1 := s.bringRequests g
  let s2 := if first || s1.group[g].evaluated then s1.evaluate first g else s1
  (s2.handConditions heard g).formTransmit heard g

/-- The group takes the report, if one was made between `old` and `heard`, that its own commands brought on one of its elements:
an input of its own, with an update of its own (R90, R109, R121). -/
def State.takeOwnReport (s : State) (old heard : Driver) (g : GroupId) (e : Option ElementId) : State :=
  match e with
  | some e => if Driver.reported old heard e then (s.noteReport heard g e).takeUpdate heard false g else s
  | none => s

/-- The timing unit takes the report an update's own commands made on the selector (R121; log entry 17). -/
def State.reportSelector (before s : State) (g : GroupId) : State :=
  match GroupConfig.selector s.group[g].config with
  | some e => if State.reported before s e then s.timingReport e else s
  | none => s

/-- A group's update, and after it the inputs that its own commands make: the report on the bridge element, then the report on the
selector, to the group and then to the timing unit (R90, R121). `first` is the first evaluation (R96). That these reports are taken in
that order and before any other input, the record of a command's result among them, is the model's choice (log entry 17). -/
def State.groupUpdate (s : State) (first : Bool) (g : GroupId) : State :=
  let cfg := s.group[g].config
  let u := s.takeUpdate s.driver first g
  let bridged := s.driver.hearing u.driver (GroupConfig.bridge cfg)
  let v := u.takeOwnReport s.driver bridged g (GroupConfig.bridge cfg)
  State.reportSelector s (v.takeOwnReport bridged u.driver g (GroupConfig.selector cfg)) g

/-- An update for an input already recorded. -/
def State.updateGroup (s : State) (g : GroupId) : State := s.groupUpdate false g

/-- The group that names an element as its selector or bridge. -/
def State.elementGroup (s : State) (e : ElementId) : Option GroupId :=
  firstWhere (fun g : GroupId =>
    GroupConfig.selector s.group[g].config = some e || GroupConfig.bridge s.group[g].config = some e)

/-- The protection controller and then the timing unit take a report made on an element (R121). -/
def State.takeReport (s : State) (e : ElementId) : State :=
  let s := match s.elementGroup e with
    | some g => (s.noteReport s.driver g e).updateGroup g
    | none => s
  s.timingReport e

/-- The report on an element, if one was made between two states. -/
def State.takeReportIf (before s : State) (e : ElementId) : State :=
  if State.reported before s e then s.takeReport e else s

/-- An element's sense output changes (R115, R116, R118, R120); with the drive off only the record follows it. -/
def State.senseChange (s : State) (e : ElementId) (sensed : Option Position) : State :=
  let el := s.element e
  if sensed = el.sensed then s
  else if s.driver.on then
    State.takeReportIf s (s.setElement e (el.senseOn sensed (s.after Config.travelTime))) e
  else s.setElement e { el with sensed := sensed }

/-- An element's travel timer expires (R119). -/
def State.travelExpire (s : State) (e : ElementId) : State :=
  match (s.element e).travel with
  | none => s
  | some t =>
    let s := s.passTo t
    State.takeReportIf s (s.setElement e (s.element e).expire) e

/-! ## Received bridge words (R101, R102, R107) -/

/-- The SHARED group whose protect port a port is. -/
def State.sharedGroupOf (s : State) (p : Port) : Option GroupId :=
  firstWhere (fun g : GroupId =>
    GroupConfig.kind s.group[g].config = .shared && GroupConfig.protect s.group[g].config = some p)

/-- A candidate that has been received three times is judged (R102, R107). A newly accepted word with a request above MANUAL
cancels a stored MANUAL even where only its bridged channel is new; R107 leaves that case open (log entry 47). -/
def State.judgeCandidate (s : State) (g : GroupId) (w : Word) : State :=
  let r := s.group[g]
  if bridgeValid (GroupConfig.count r.config) w then
    if r.accepted = some w then
      if r.invalidWord then (s.setGroup g { r with invalidWord := false }).updateGroup g else s
    else
      let s := s.setGroup g { r with accepted := some w, invalidWord := false }
      let s := if 2 < (bridgeRequest w).level.val then s.cancelManual g else s
      s.updateGroup g
  else if r.invalidWord then s
  else (s.setGroup g { r with invalidWord := true }).updateGroup g

/-- A received word enters the persistence check (R102). -/
def State.takeWord (s : State) (g : GroupId) (w : Word) : State :=
  let r := s.group[g]
  let run := if r.candidate = some w then min 3 (r.run + 1) else 1
  let s := s.setGroup g { r with candidate := some w, run := run }
  if run = 3 then s.judgeCandidate g w else s

/-- A received bridge word handed on with a port's update (R101). -/
def State.takeBridgeWord (s : State) (p : Port) (w : Word) : State :=
  match s.sharedGroupOf p with
  | none => s
  | some g => if s.sup.unusable s.group[g].config || s.sup.record[p].grade = .failed then s else s.takeWord g w

/-! ## Timer expiries (R81, R88, R110) -/

/-- A channel's hold-off timer expires (R81). -/
def State.holdOffExpire (s : State) (g : GroupId) (k : ChannelIx) : State :=
  match s.group[g].channel[k].holdOff with
  | none => s
  | some t =>
    let s := s.passTo t
    let r := s.group[g]
    let c : Channel := { r.channel[k] with raised := s.channelCondition r.config k, holdOff := none }
    (s.setGroup g { r with channel := put r.channel k c }).updateGroup g

/-- The restore-wait timer expires (R88). -/
def State.restoreWaitExpire (s : State) (g : GroupId) : State :=
  match s.group[g].restoreWait with
  | none => s
  | some t =>
    let s := s.passTo t
    (s.setGroup g { s.group[g] with entry := none, restoreWait := none }).updateGroup g

/-- The confirmation timer expires (R110). -/
def State.confirmationExpire (s : State) (g : GroupId) : State :=
  match s.group[g].confirmation with
  | none => s
  | some (_, t) =>
    let s := s.passTo t
    (s.setGroup g { s.group[g] with confirmation := none, timeout := true }).updateGroup g

/-! ## Commands (R84, R85) -/

/-- BAR, FORCE and MANUAL (R79). -/
inductive StoredKind where
  | bar | force | manual
  deriving DecidableEq, Repr

def StoredKind.level : StoredKind → Nat
  | .bar => 7
  | .force => 5
  | .manual => 2

/-- The level of the stored command, 0 when none is stored. -/
def Group.storedLevel (r : Group) : Nat := (r.stored.map (fun c => c.request.level.val)).getD 0

/-- The channel index of a command's channel number. -/
def channelIx (n : Nat) : Option ChannelIx := if h : 1 ≤ n ∧ n ≤ 4 then some ⟨n - 1, by omega⟩ else none

/-- The command a kind and a channel store. -/
def StoredKind.make (c : StoredKind) (n : Nat) : Option Stored :=
  match c with
  | .bar => if n = 0 then some .bar else none
  | .force => (channelIx n).map .force
  | .manual => (channelIx n).map .manual

/-- The channel a command names. -/
def Stored.channel : Stored → Option ChannelIx
  | .bar => none
  | .force k => some k
  | .manual k => some k

/-- The command's level is not above the highest automatic request, or is below the stored command's (R84). -/
def Group.outranks (r : Group) (level : Nat) : Bool :=
  level ≤ topLevel r.automaticRequests || level < r.storedLevel

/-- The tests of R84 that look at the group, in order; `ok` gives the command to be stored. -/
def Group.testCommand (r : Group) (c : StoredKind) (n : Nat) : Except CommandResult Stored :=
  let cfg := r.config
  if GroupConfig.kind cfg = .none then .error .refusedState
  else if GroupConfig.count cfg < n then .error .refusedInvalid
  else match c.make n with
    | none => .error .refusedInvalid
    | some st =>
      if ¬ (GroupConfig.complete cfg ∧ r.evaluated) then .error .refusedState
      else if st.channel.any (fun k => GroupConfig.working cfg k = none) then .error .refusedState
      else if r.outranks c.level then .error .refusedLevel
      else .ok st

/-- BAR g, FORCE g k or MANUAL g k (R84). -/
def State.storeCommand (s : State) (c : StoredKind) (object channel : Nat) : State × CommandResult :=
  if h : object < 12 then
    let g : GroupId := ⟨object, h⟩
    match s.group[g].testCommand c channel with
    | .error e => (s, e)
    | .ok st => ((s.setGroup g { s.group[g] with stored := some st }).updateGroup g, .done)
  else (s, .refusedInvalid)

/-- CLEAR g (R85). -/
def State.clearGroup (s : State) (object channel : Nat) : State × CommandResult :=
  if h : object < 12 ∧ channel = 0 then
    let g : GroupId := ⟨object, h.1⟩
    if s.group[g].evaluated then
      ((s.setGroup g { s.group[g] with stored := none, entry := none, restoreWait := none }).updateGroup g, .done)
    else (s, .refusedState)
  else (s, .refusedInvalid)

/-! ## Configuration changes (R77, R106, R122) -/

/-- The protocol state afresh (R106). -/
def Group.newProtocol (r : Group) : Group :=
  { r.dropFarEnd with invalidWord := false, timeout := false, confirmation := none, unusable := false }

/-- A change R106 treats as a new protocol. -/
def newProtocolCase (old new : Vector Word 8) : Bool :=
  (GroupConfig.kind old = .shared || GroupConfig.kind new = .shared)
  && (GroupConfig.kind old ≠ GroupConfig.kind new || GroupConfig.count old ≠ GroupConfig.count new
      || GroupConfig.protect old ≠ GroupConfig.protect new)

/-- The channels whose working port changed lose their raised request and timer (R77). -/
def Group.changeWorkings (r : Group) (old : Vector Word 8) : Group :=
  { r with channel := Vector.ofFn (fun k : ChannelIx =>
      if GroupConfig.working old k = GroupConfig.working r.config k then r.channel[k] else ⟨.clear, none, .clear⟩) }

/-- A changed revertive flag of a PAIRED group turns STAY 1 into WAIT 1 and back (R77). -/
def Group.changeRevertive (r : Group) (now : Nat) : Group :=
  if GroupConfig.kind r.config = .paired then
    match GroupConfig.revertive r.config, r.entry with
    | true, some .stay =>
      { r with entry := some (.wait 0)
               restoreWait := if r.evaluated then some (now + restoreWaitTime r.config) else none }
    | false, some (.wait _) => { r with entry := some .stay, restoreWait := none }
    | _, _ => r
  else r

/-- ON PROTECT taken from the element a selector field newly names (R93, R122). -/
def State.takeSelector (s : State) (r : Group) : Group :=
  { r with conditions := { r.conditions with
      onProtect := (GroupConfig.selector r.config).any (fun e => (s.report e).onProtect false) } }

/-- The state of the elements that changed fields newly name, taken as a report would be (R93, R122): ON PROTECT with the
selector, SWITCH FAULT with either. -/
def State.takeElements (s : State) (old : Vector Word 8) (r : Group) : Group :=
  let r := if GroupConfig.selector old = GroupConfig.selector r.config then r else s.takeSelector r
  if GroupConfig.selector old = GroupConfig.selector r.config ∧ GroupConfig.bridge old = GroupConfig.bridge r.config then r
  else { r with conditions := { r.conditions with
    switchFault := s.driver.faulted (GroupConfig.selector r.config) || s.driver.faulted (GroupConfig.bridge r.config) } }

/-- ON PROTECT and SWITCH FAULT, taken at a change of the element fields, followed by their points at once (R93, R122): an
element found FAULTED raises SWITCH FAULT before the group's update drives it again. That their ALARM events so come before those of
the update, PROTECT UNAVAILABLE's among them, is the model's choice (log entry 16). -/
def State.handElements (s : State) (g : GroupId) : State :=
  (s.setPoint (.group g 1) s.group[g].conditions.onProtect).setPoint (.group g 5) s.group[g].conditions.switchFault

/-- The transmit word of a port that stops being the protect port of a SHARED group (R100). -/
def State.endTransmit (s : State) (old new : Vector Word 8) : State :=
  match GroupConfig.kind old, GroupConfig.protect old with
  | .shared, some p =>
    if GroupConfig.kind new = .shared ∧ GroupConfig.protect new = some p then s else s.setTransmit p 0
  | _, _ => s

/-- The structure, words 0 to 6, differs. -/
def structureChanged (old new : Vector Word 8) : Bool := (List.finRange 7).any (fun j => old[j.val] ≠ new[j.val])

/-- An accepted change of a group's word takes effect (R77). The configuration already holds the new value. Where the update commands
a newly named selector, the timing unit takes the report of that first and decides on the changed structure after it; no rule orders
the two, and that order is the model's choice (log entry 51). -/
def State.groupChanged (s : State) (g : GroupId) (old : Vector Word 8) : State :=
  let r := s.group[g]
  let new := r.config
  let r := r.changeWorkings old
  let r := if newProtocolCase old new then r.newProtocol else r
  let r := if GroupConfig.revertive old = GroupConfig.revertive new then r else r.changeRevertive s.now
  let s := s.setGroup g (s.takeElements old r)
  let s := if old[6] = new[6] then s else s.handElements g
  let s := (s.endTransmit old new).updateGroup g
  if structureChanged old new then s.timingGroupChange g else s

/-! ## Adoption and first evaluation (R95, R96) -/

/-- The entry a group takes at adoption (R95). -/
def State.adoptedEntry (s : State) (cfg : Vector Word 8) : Option Entry :=
  if GroupConfig.complete cfg then
    match (GroupConfig.selector cfg).map s.report with
    | some (.settled p) =>
      match channelIx p with
      | some k =>
        if GroupConfig.working cfg k = none then none
        else match GroupConfig.kind cfg with
          | .paired => if k = 0 then some (if GroupConfig.revertive cfg then .wait 0 else .stay) else none
          | .shared => if p.val ≤ GroupConfig.count cfg then some (.wait k) else none
          | .none => none
      | none => none
    | _ => none
  else none

/-- A group takes adoption at the start of RUNNING (R95, R100). -/
def State.adoptGroup (s : State) (g : GroupId) : State :=
  let entry := s.adoptedEntry s.group[g].config
  let top := (entry.map Entry.request).getD Request.clear
  let r := s.takeSelector { s.group[g] with entry := entry, winner := top, top := top, source := .local }
  ((s.setGroup g r).handConditions s.driver g).formTransmit s.driver g

/-- A group reaches its first evaluation point at the end of processed round `n` (R96; log entry 18). -/
def Group.firstDue (r : Group) (n : Nat) : Bool :=
  !r.evaluated && (if GroupConfig.kind r.config = .shared then 3 ≤ n else 1 ≤ n)

/-- The first evaluations at the end of processed round `n` (R96). -/
def State.firstEvaluations (s : State) (n : Nat) : State :=
  (List.finRange 12).foldl (fun s g => if s.group[g].firstDue n then s.groupUpdate true g else s) s

end Sys2Proof.Machine
end

