-- ==== Sys2Proof/Machine/Supervisor.lean ====
section
/-! DEFINITION. The port supervisor's hand-over of record changes to the other blocks, its updates and round ends, and
the MAINT and RELEASE commands (R25, R50, R69 to R71). -/

namespace Sys2Proof.Machine

/-! ## Hand-over (R25) -/

/-- What is handed on when a port's record changes: the record less its histories and trace run. -/
structure HandedOn where
  presence    : Presence
  caps        : Option Caps
  grade       : Grade
  cause       : Option Cause
  reduced     : Bool
  accepted    : Option Word
  trace       : TraceState
  maintenance : Bool
  deriving DecidableEq, Repr

def PortRecord.handedOn (r : PortRecord) : HandedOn :=
  ⟨r.presence, r.caps, r.grade, r.cause, r.reduced, r.accepted, r.trace, r.maintenance⟩

/-- A port changed between two states in what is handed on, or in its kind, action flag or expected trace (R54, R62). -/
def State.portChanged (old s : State) (p : Port) : Bool :=
  s.sup.record[p].handedOn ≠ old.sup.record[p].handedOn
  || s.sup.config[p][0] ≠ old.sup.config[p][0] || s.sup.config[p][1] ≠ old.sup.config[p][1]

/-- A member port of a group changed. -/
def State.memberChanged (old s : State) (g : GroupId) : Bool :=
  (GroupConfig.ports s.group[g].config).any (State.portChanged old s)

/-- The condition of a port's alarm point (R27, R50, R69). -/
def PortRecord.condition (r : PortRecord) (k : Fin 7) : Bool :=
  match k with
  | 0 => r.grade = .failed && r.cause = some .light
  | 1 => r.grade = .degraded
  | 2 => r.grade = .overload
  | 3 => r.presence = .absent
  | 4 => r.trace = .mismatch
  | 5 => r.trace = .duplicate
  | 6 => r.reduced

/-- The alarm unit takes a port's conditions (R50). -/
def State.portPoints (s : State) (p : Port) : State :=
  (List.finRange 7).foldl (fun s k => s.setPoint (.port p k) (s.sup.record[p].condition k)) s

/-- The hand-over of the changes between two states (R25): the protection controller group by group, the received bridge
word after the grades (R101), the timing unit, the alarm unit (log entries 16, 42). -/
def State.handOver (old s : State) (word : Option (Port × Word)) : State :=
  let s1 := (List.finRange 12).foldl (fun t g => if State.memberChanged old s g then t.updateGroup g else t) s
  let s2 := match word with
    | some (p, w) => s1.takeBridgeWord p w
    | none => s1
  (List.finRange 24).foldl (fun t p => if State.portChanged old s p then t.portPoints p else t) s2.retime

/-! ## Updates and round ends (R25, R96, R170) -/

/-- The record work of one result (R26, R28): the update of one port before its hand-over. -/
def Supervisor.updated (u : Supervisor) (p : Port) (a : Option Answer) : Supervisor :=
  match a with
  | some a => u.tookAnswer p a
  | none => u.missed p

/-- One port's update, whole; the result of a port that has become NONE is discarded (R25). The kind is looked at now alone:
a port that was NONE since its slot and is NONE no longer takes the old result (log entry 45). -/
def State.takeResult (s : State) (p : Port) (a : Option Answer) : State :=
  if s.sup.kind p = .none then s
  else
    State.handOver s { s with sup := s.sup.updated p a }
      (a.bind (fun a => a.overhead.map (fun o => (p, o.2))))

/-- The end of processed round `n` (R25): the first evaluations (R96), and FOLLOW at the first complete one (R170). -/
def State.roundEnd (s : State) (n : Nat) : State :=
  let s := s.firstEvaluations n
  if n = 1 then s.enterFollow else s

/-- The rounds waiting, with every round at the front that has no result left ended (R25; log entry 19). -/
def State.drain (s : State) : List ProcessedRound → State
  | [] => { s with sup := { s.sup with rounds := [] } }
  | r :: rest =>
    if r.results = [] then (s.roundEnd r.number).drain rest
    else { s with sup := { s.sup with rounds := r :: rest } }

/-- The next result of the oldest processed round is taken (R25). -/
def State.portUpdate (s : State) : State :=
  match s.sup.rounds with
  | [] => s
  | r :: rest =>
    match r.results with
    | [] => s.drain (r :: rest)
    | (p, a) :: more => (s.takeResult p a).drain ({ r with results := more } :: rest)

/-- A processed round is delivered (R23, R25). -/
def State.deliverRound (s : State) (r : ProcessedRound) : State := s.drain (s.sup.rounds ++ [r])

/-! ## Maintenance (R70, R71) -/

/-- The port is the protect port of a group whose selector is commanded away from 0 (R70; log entry 41). -/
def State.protectInUse (s : State) (p : Port) : Bool :=
  (List.finRange 12).any (fun g : GroupId =>
    GroupConfig.protect s.group[g].config = some p
    && (GroupConfig.selector s.group[g].config).any (fun e => (s.element e).commanded ≠ 0))

/-- A change of maintenance: the relays are judged afresh (R167) and the change is handed on (R70). -/
def State.changeMaintenance (s : State) (p : Port) (v : Bool) : State :=
  let s' := { s with sup := s.sup.setMaintenance p v }
  State.handOver s (State.judgeRelays s s') none

/-- MAINT p (R70). -/
def State.maint (s : State) (object : Nat) : State × CommandResult :=
  if h : object < 24 then
    let p : Port := ⟨object, h⟩
    if s.sup.kind p = .none then (s, .refusedState)
    else if s.protectInUse p then (s, .refusedState)
    else if s.sup.record[p].maintenance then (s, .done)
    else (s.changeMaintenance p true, .done)
  else (s, .refusedInvalid)

/-- RELEASE p (R71). -/
def State.release (s : State) (object : Nat) : State × CommandResult :=
  if h : object < 24 then
    let p : Port := ⟨object, h⟩
    if s.sup.record[p].maintenance then (s.changeMaintenance p false, .done) else (s, .done)
  else (s, .refusedInvalid)

end Sys2Proof.Machine
end

