-- ==== Sys2Proof/Machine/Poster.lean ====
section
/-! DEFINITION. The event poster's ring (10): the ring check, the five cycles of a posting, the index and RESUME. -/

namespace Sys2Proof.Machine

/-! ## The ring (R178, R179) -/

/-- The first word address of a ring. -/
def ringStart (base : Word) : Nat := 8 * base.toNat

/-- The ring of `size` descriptors would place a word inside the shelf image (R178). -/
def ringInImage (image : Addr) (base : Word) (size : Nat) : Bool :=
  0 < size && ringStart base ≤ image.toNat + 0xFFF && image.toNat + 1 ≤ ringStart base + 4 * size

/-- A usable ring (R179): every word at or below 0x7FFFF and outside the shelf image. -/
def ringUsable (image : Addr) (base : Word) (size : Nat) : Bool :=
  ringStart base + 4 * size ≤ 0x80000 && !ringInImage image base size

/-- The held ring is usable. -/
def State.ringOk (s : State) : Bool := ringUsable s.base s.poster.ringBase s.poster.ringSize.toNat

/-- POSTING with an event queued, IDLE with none (R179). -/
def Poster.ready (p : Poster) : PosterState := if p.queue = [] then .idle else .posting

/-- The poster takes up the held ring (R179): index 0 and the state given with a usable ring, DISABLED otherwise. That an
unusable ring leaves the index as it stands is the model's choice (R182; log entry 50). -/
def State.takeRing (s : State) (usable : PosterState) : State :=
  if s.ringOk then
    { s with poster := { s.poster with ringChange := false, index := 0, step := .readWord0, state := usable } }
  else { s with poster := { s.poster with ringChange := false, state := .disabled } }

/-- RING FORMAT handed over: raised while the wrap-fault flag is set or the poster is DISABLED (R181; log entry 13). -/
def State.handRingFormat (s : State) : State :=
  s.setPoint Point.ringFormat (s.poster.wrapFault || s.poster.state = .disabled)

/-- The ring check when RUNNING begins (R179). -/
def State.startRing (s : State) : State := (s.takeRing s.poster.ready).handRingFormat

/-! ## Posting (R12, R180 to R182) -/

/-- The word address of word `j` of the current descriptor (R180; log entry 34). -/
def State.descriptorAddr (s : State) (j : Nat) : Addr :=
  BitVec.ofNat 19 (ringStart s.poster.ringBase + 4 * s.poster.index + j)

/-- Overflow-pending as the poster's granted cycle found it; `none` while the port is not the poster's (R11). -/
def State.posterGrant (s : State) : Option Bool :=
  match s.path.grant with
  | some (.poster b) => some b
  | some .processor => none
  | some .memoryPath => none
  | none => none

/-- The event being posted, when the poster is posting in RUNNING, holds the port, and its next cycle is `step`. -/
def State.posting (s : State) (step : PostStep) : Option Event :=
  if s.path.op = .running ∧ s.poster.state = .posting ∧ s.poster.step = step ∧ s.posterGrant.isSome then
    s.poster.queue.head?
  else none

/-- The poster enters BUSY (R182). -/
def State.enterBusy (s : State) : State :=
  State.setPoint
    { s with poster := { s.poster with state := .busy }, alarm := { s.alarm with ringBusy := true } }
    Point.ringBusy true

/-- The read of word 0 completes (R180 step 1). -/
def State.readWord0 (s : State) : State :=
  match s.posting .readWord0 with
  | none => s
  | some _ =>
    let w := s.memWord (s.descriptorAddr 0)
    if flag w 0 then { s with poster := { s.poster with wrapKept := flag w 1, step := .writeWord1 } }
    else s.enterBusy

/-- A master write of one whole word of the current descriptor (R12). -/
def State.writeDescriptor (s : State) (j : Nat) (w : Word) (next : PostStep) : State :=
  let s := s.memWrite (s.descriptorAddr j) .word w
  { s with poster := { s.poster with step := next } }

/-- The write of word 1, 2 or 3 completes (R180 step 2). -/
def State.writeWord (s : State) : State :=
  match s.posting .writeWord1, s.posting .writeWord2, s.posting .writeWord3 with
  | some e, _, _ => s.writeDescriptor 1 e.word1 .writeWord2
  | none, some e, _ => s.writeDescriptor 2 e.detail.word .writeWord3
  | none, none, some e => s.writeDescriptor 3 e.stamp .writeWord0
  | none, none, none => s

/-- The index moves on (R181). -/
def Poster.advance (p : Poster) : Poster :=
  if p.wrapKept then { p with index := 0 }
  else if p.index + 1 = p.ringSize.toNat then { p with index := 0, wrapFault := true }
  else { p with index := p.index + 1 }

/-- The head event leaves the queue when its word 0 has been written, and overflow-pending clears if it went out in that
word: a discard taken while a word 0 without OVERFLOWED is written leaves it set (R175, R180). -/
def Poster.posted (p : Poster) (overflowed : Bool) : Poster :=
  let p := { p.advance with queue := p.queue.tail, overflow := p.overflow && !overflowed, step := .readWord0 }
  { p with state := p.ready }

/-- The write of word 0 completes (R180 step 3, R181); OVERFLOWED is as the cycle's grant found it (log entry 38). -/
def State.writeWord0 (s : State) : State :=
  match s.posting .writeWord0, s.posterGrant with
  | some e, some overflowed =>
    let s := s.memWrite (s.descriptorAddr 0) .word (e.word0 s.poster.wrapKept overflowed)
    State.handRingFormat
      { s with poster := s.poster.posted overflowed, alarm := { s.alarm with eventPosted := true } }
  | _, _ => s

/-! ## RESUME (R138, R182) -/

/-- BUSY ends: the point and the attention cause clear. -/
def State.endBusy (s : State) : State :=
  State.setPoint { s with alarm := { s.alarm with ringBusy := false } } Point.ringBusy false

/-- RESUME (R138, R182). One that clears RING BUSY and RING FORMAT hands on RING BUSY first: no rule orders the two, and this order
is the model's (DESIGN CHOICE, log entry 16). -/
def State.resume (s : State) : State :=
  let s := { s with poster := { s.poster with wrapFault := false } }
  match s.poster.state with
  | .busy =>
    let s := if s.poster.ringChange then s.takeRing .posting
      else { s with poster := { s.poster with state := .posting, step := .readWord0 } }
    s.endBusy.handRingFormat
  | .disabled => (s.takeRing s.poster.ready).handRingFormat
  | .idle => s.handRingFormat
  | .posting => s.handRingFormat

end Sys2Proof.Machine
end

