-- ==== Sys2Proof/Machine/Screening.lean ====
section
/-! DEFINITION. Screening of watched words (R5 to R7, R184): the owners' tests, the effective value, the taking of an
accepted change, and a watched write in RUNNING. -/

namespace Sys2Proof.Machine

/-- What the fields of a written word answer: a refusal, a prohibition, ONCE-HELD, and the value brought into range with
its spare bits cleared. -/
structure Answers where
  refused    : Bool := false
  prohibited : Bool := false
  onceHeld   : Bool := false
  value      : Word
  deriving DecidableEq, Repr

/-- The one verdict of a word and its effective value (R5, R76, R184). -/
def Answers.verdict (a : Answers) (held written : Word) : Verdict × Word :=
  if a.refused then (.refused, held)
  else if a.prohibited then (.prohibited, held)
  else if a.onceHeld then (.onceHeld, held)
  else if a.value ≠ written then (.clamped, a.value)
  else (.accepted, written)

/-! ## Header and alarm words (R20, R163, R173, R178) -/

def answerShelfNumber (v : Word) : Answers := { value := wordOf (min 1023 v.toNat) }

def answerMask (v : Word) : Answers := { refused := v &&& 0xFFF0 ≠ 0, value := v }

def answerProfile (v : Word) : Answers := { refused := v &&& 0xFFCC ≠ 0, value := v }

/-- A ring word may change only in BUSY or DISABLED (R178). -/
def State.ringClosed (s : State) : Bool := s.poster.state ≠ .busy && s.poster.state ≠ .disabled

def State.answerRingBase (s : State) (v : Word) : Answers :=
  { refused := ringInImage s.base v s.poster.ringSize.toNat, prohibited := s.ringClosed, value := v }

/-- RING SIZE in the order of R178's table: as written, the poster's state, then clamped and tested again (log entry
14). -/
def State.answerRingSize (s : State) (v : Word) : Answers :=
  let clamped := clampNat 2 256 v.toNat
  { refused := ringInImage s.base s.poster.ringBase v.toNat
      || (!s.ringClosed && ringInImage s.base s.poster.ringBase clamped)
    prohibited := s.ringClosed
    value := wordOf clamped }

/-! ## Calibration and port configuration (R31 to R33, R37, R44, R45, R54) -/

/-- A power clamped into -500 to +100. -/
def clampPower (v : Word) : Int := clampInt (-500) 100 v.toInt

def answerCalibration (field : Fin 4) (v : Word) : Answers :=
  match field with
  | 0 | 2 => { value := wordOf (min 4095 v.toNat) }
  | 1 | 3 => { value := signedWord (clampPower v) }

/-- The groups name a port, as protect port or as a working port. -/
def State.portNamed (s : State) (p : Port) : Bool :=
  (List.finRange 12).any (fun g : GroupId => (GroupConfig.ports s.group[g].config).contains p)

/-- Port configuration word 0: the tests of R32 in order. -/
def State.answerMonitorKind (s : State) (p : Port) (v : Word) : Answers :=
  { refused := bits v 0 2 = 3 || (bits v 0 2 = 0 && s.portNamed p)
    prohibited := bits v 0 2 = 0 && s.sup.record[p].maintenance
    value := v &&& 0x0013 }

/-- DEGRADE (R44). -/
def degradeValue (fail : Int) (v : Word) : Int := if clampPower v ≤ fail then fail else clampPower v

/-- OVERLOAD (R44). -/
def overloadValue (degrade : Int) (v : Word) : Int := if clampPower v ≤ degrade then 100 else clampPower v

def State.answerPort (s : State) (p : Port) (field : Fin 8) (v : Word) : Answers :=
  let cfg := s.sup.config[p]
  match field with
  | 0 => s.answerMonitorKind p v
  | 1 => { refused := !traceWellFormed v, value := v }
  | 2 => { value := signedWord (clampPower v) }
  | 3 => { value := signedWord (degradeValue (PortConfig.fail cfg) v) }
  | 4 => { value := signedWord (overloadValue (PortConfig.degrade cfg) v) }
  | 5 => { value := wordOf (min 50 v.toNat) }
  | 6 => { value := v &&& 0x0007 }
  | 7 => { value := wordOf (clampNat 3 7 (bits v 0 4)) }

/-! ## The group table (R74 to R76) -/

/-- A change of structure while the winner is not CLEAR (R76). -/
def Group.structureHeld (r : Group) (j : Fin 8) (value : Word) : Bool :=
  value ≠ r.config[j] && r.winner ≠ Request.clear

/-- The count R75 gives for a kind and a written count. -/
def clampCount (kind : GroupKind) (n : Nat) : Nat :=
  match kind with
  | .paired => 1
  | .shared => clampNat 1 4 n
  | .none => clampNat 1 4 n

/-- Group word 0 (R75). -/
def Group.answerKind (r : Group) (v : Word) : Answers :=
  let n := clampCount (GroupConfig.kindOf v) (bits v 4 3)
  let value := wordOf (bits v 0 2 + 16 * n)
  { refused := bits v 0 2 = 3
      || (List.finRange 4).any (fun k => n < k.val + 1 && bits r.config[2 + k.val] 0 6 ≠ 63)
    prohibited := r.structureHeld 0 value
    value := value }

/-- Another port field, of this group or of any other, names a port: word 1 to 5 of each group but the one written. -/
def State.portTaken (s : State) (g : GroupId) (j : Fin 8) (n : Nat) : Bool :=
  (List.finRange 12).any (fun h : GroupId => (List.finRange 5).any (fun i : Fin 5 =>
    !(h = g && i.val + 1 = j.val) && bits s.group[h].config[i.val + 1] 0 6 = n))

/-- The port a number names is of monitor kind NONE. -/
def Supervisor.unmonitored (u : Supervisor) (n : Nat) : Bool :=
  if h : n < 24 then u.kind ⟨n, h⟩ = .none else false

/-- A port field (R74, R75): words 1 to 5. -/
def State.answerPortField (s : State) (g : GroupId) (j : Fin 8) (v : Word) : Answers :=
  let r := s.group[g]
  let n := bits v 0 6
  let value := v &&& 0x003F
  { refused := n ≠ 63 && (24 ≤ n || s.portTaken g j n || s.sup.unmonitored n
      || GroupConfig.count r.config + 1 < j.val)
    prohibited := r.structureHeld j value
    value := value }

/-- Another element field names an element: `lo` is the position of the field written in word 6. -/
def State.elementTaken (s : State) (g : GroupId) (lo n : Nat) : Bool :=
  (List.finRange 12).any (fun h : GroupId => [0, 8].any (fun l =>
    !(h = g && l = lo) && bits s.group[h].config[6] l 6 = n))

/-- An element field is refused (R74). -/
def State.elementRefused (s : State) (g : GroupId) (lo n : Nat) : Bool :=
  n ≠ 63 && (32 ≤ n || s.elementTaken g lo n)

/-- Group word 6 (R74; log entry 28). -/
def State.answerElements (s : State) (g : GroupId) (v : Word) : Answers :=
  let sel := bits v 0 6
  let bri := bits v 8 6
  let value := v &&& 0x3F3F
  { refused := s.elementRefused g 0 sel || s.elementRefused g 8 bri || (sel = bri && sel ≠ 63)
    prohibited := s.group[g].structureHeld 6 value
    value := value }

/-- Group word 7 (R76). -/
def answerPolicy (v : Word) : Answers :=
  { value := wordOf (min 100 (bits v 0 7) + 256 * clampNat 1 12 (bits v 8 4) + 4096 * bits v 12 2) }

def State.answerGroup (s : State) (g : GroupId) (j : Fin 8) (v : Word) : Answers :=
  match j with
  | 0 => s.group[g].answerKind v
  | 1 | 2 | 3 | 4 | 5 => s.answerPortField g j v
  | 6 => s.answerElements g v
  | 7 => answerPolicy v

/-! ## The timing table (R142, R143) -/

def answerSlot (field : Fin 3) (v : Word) : Answers :=
  match field with
  | 0 => { refused := 4 < bits v 0 3, value := v &&& 0x0007 }
  | 1 => { value := wordOf (clampNat 10 2000 v.toNat) }
  | 2 => { value := wordOf (clampNat 1 60 (bits v 0 6) + 256 * clampNat 2 15 (bits v 8 4)) }

/-- A line slot's source word (R142, R191). -/
def answerSource (v : Word) : Answers :=
  let channel := bits v 2 3
  let port := bits v 10 6
  { refused := bits v 0 2 = 3
      || (bits v 0 2 = 1 && (11 < bits v 5 4 || channel < 1 || 4 < channel))
      || (bits v 0 2 = 2 && 24 ≤ port && port ≠ 63)
    value := v &&& 0xFDFF }

/-- The station input kind (R143). -/
def answerStation (held v : Word) : Answers :=
  { refused := bits v 0 2 = 3
    onceHeld := bits held 0 2 ≠ 0 && bits v 0 2 ≠ bits held 0 2
    value := v &&& 0x0003 }

/-! ## Screening (R5) -/

/-- What the owner of a watched word answers for a written value. -/
def State.answers (s : State) (w : Watched) (v : Word) : Answers :=
  match w with
  | .shelfNumber => answerShelfNumber v
  | .attentionMask => answerMask v
  | .ringBase => s.answerRingBase v
  | .ringSize => s.answerRingSize v
  | .profile _ => answerProfile v
  | .calibration _ j => answerCalibration j v
  | .port p j => s.answerPort p j v
  | .group g j => s.answerGroup g j v
  | .slot _ j => answerSlot j v
  | .source _ => answerSource v
  | .stationKind => answerStation s.timing.stationKind v

/-- The verdict and the effective value of a written word; the held value is not screened (R5). -/
def State.screen (s : State) (w : Watched) (v : Word) : Verdict × Word :=
  if v = s.heldWord w then (.accepted, v) else (s.answers w v).verdict (s.heldWord w) v

/-! ## Accepted changes -/

/-- What an owner does at the change of a port configuration word from `old` (R31, R33, R34, R43, R54, R62). -/
def Supervisor.portChanged (u : Supervisor) (p : Port) (field : Fin 8) (old : Vector Word 8) : Supervisor :=
  match field with
  | 0 => if u.kind p = PortConfig.kind old then u else u.kindChanged p (PortConfig.kind old)
  | 1 => u.expectedChanged p
  | 2 | 3 | 4 | 5 => u
  | 6 => u.setRecord p { u.record[p] with power := [] }
  | 7 => u.persistenceChanged p

/-- The consequences of a changed held value; `old` is the state before the change. -/
def State.changed (old s : State) (w : Watched) : State :=
  match w with
  | .shelfNumber => s
  | .attentionMask => s
  | .ringBase => { s with poster := { s.poster with ringChange := true } }
  | .ringSize => { s with poster := { s.poster with ringChange := true } }
  | .profile _ => State.judgeRelays old s
  | .calibration n _ => { s with sup := s.sup.calibrationChanged n }
  | .port p j => State.handOver old { s with sup := s.sup.portChanged p j old.sup.config[p] } none
  | .group g _ => s.groupChanged g old.group[g].config
  | .slot _ _ => State.retimeFrom old s
  | .source l => State.retimeFrom old (if s.path.op = .running then s.takeDecision l else s)
  | .stationKind => s

/-- The owner takes an effective value as its held value (R5). -/
def State.takeHeld (s : State) (w : Watched) (v : Word) : State :=
  if v = s.heldWord w then s else State.changed s (s.setHeld w v) w

/-- The PROVISION event of a verdict other than ACCEPTED (R7). -/
def State.provision (s : State) (w : Watched) (v : Verdict) : State :=
  if v = .accepted then s else s.putEvent w.object (.provision w.offset v)

/-- A write of a watched word in RUNNING (R5 to R7). -/
def State.watchedWrite (s : State) (w : Watched) (lanes : Lanes) (data : Word) : State :=
  let answer := s.screen w (mergeLanes lanes (s.heldWord w) data)
  let s := s.memWrite (s.imageAddr w.offset) .word answer.2
  (s.takeHeld w answer.2).provision w answer.1

end Sys2Proof.Machine
end

