-- ==== Sys2Proof/Machine/LiveWords.lean ====
section
/-! DEFINITION. The live words: what each block shows of its state (R9, R36, R69, R94, R133, R160, R168, R169, R183,
R186, R187, R193 to R196). -/

namespace Sys2Proof.Machine

/-- IDENTITY (R186). -/
def Path.identity (p : Path) : Word :=
  wordOf (p.straps.toNat + 4 * p.op.code + 16 * Config.revision.toNat + 256 * Config.partCode)

/-- STATUS (R133, R187). -/
def Mailbox.status (m : Mailbox) : Word :=
  wordOf (m.state.code + 4 * m.lastResult.code + 64 * m.lastCode.toNat + 1024 * m.count.toNat)

/-- Summary word 0: the CRITICAL and MAJOR counts (R169, R195). -/
def State.summary0 (s : State) : Word := wordOf (s.countOf .critical + 256 * s.countOf .major)

/-- Summary word 1: the MINOR count, the relays and the mode (R169, R195). -/
def State.summary1 (s : State) : Word :=
  wordOf (s.countOf .minor
    + 256 * bitOf s.alarm.critical.visual + 512 * bitOf s.alarm.major.visual + 1024 * bitOf s.alarm.minor.visual
    + 2048 * bitOf s.alarm.critical.audible + 4096 * bitOf s.alarm.major.audible
    + 8192 * bitOf s.alarm.minor.audible + 16384 * s.alarm.mode.code)

/-- The queue field of the poster word (R196). -/
def Poster.queueField (p : Poster) : Nat :=
  if p.overflow then (if p.queue.length = 15 then 18 else 17) else p.queue.length

/-- The condition code of the poster word (R196). -/
def Poster.conditionCode (p : Poster) : Nat :=
  match p.state with
  | .idle => bitOf p.wrapFault
  | .posting => bitOf p.wrapFault
  | .busy => 2 + bitOf p.wrapFault + 2 * bitOf p.ringChange
  | .disabled => 6 + bitOf p.ringChange

/-- The poster word (R183, R196). -/
def Poster.word (p : Poster) : Word := wordOf (p.index + 256 * p.queueField + 8192 * p.conditionCode)

/-- The live port word (R36, R193). -/
def portWord (kind : MonitorKind) (r : PortRecord) : Word :=
  wordOf (kind.code + 4 * r.presence.code + 16 * bitOf r.caps.isSome + 32 * bitOf (r.caps.any Caps.power)
    + 64 * bitOf (r.caps.any Caps.overhead) + 256 * r.grade.code + 2048 * bitOf r.reduced + 4096 * r.trace.code
    + 32768 * bitOf r.maintenance)

/-- The smoothed power word: -32768 while absent (R36, R193). -/
def smoothedWord (r : PortRecord) : Word := signedWord ((smoothedPower r.power).getD (-32768))

/-- The accepted trace word: 0xFFFF while absent (R69, R193). -/
def acceptedWord (r : PortRecord) : Word := r.accepted.getD 0xFFFF

/-- The group state word (R94, R193). -/
def Group.stateWord (r : Group) : Word :=
  wordOf (r.winner.level + 8 * r.winner.channel + 64 * bitOf r.evaluated
    + 256 * bitOf r.conditions.protectUnavailable + 512 * bitOf r.conditions.onProtect
    + 1024 * bitOf r.conditions.crossShelf + 2048 * bitOf r.conditions.swapped
    + 4096 * bitOf r.conditions.protocolFailure + 8192 * bitOf r.conditions.switchFault)

/-- Code and channel of the stored command (R193). -/
def storedCodes : Option Stored → Nat × Nat
  | none => (0, 0)
  | some .bar => (1, 0)
  | some (.force k) => (2, k + 1)
  | some (.manual k) => (3, k + 1)

/-- Code and channel of the entry (R193). -/
def entryCodes : Option Entry → Nat × Nat
  | none => (0, 0)
  | some (.wait k) => (1, k + 1)
  | some .stay => (2, 1)

/-- The group request word (R94, R193). -/
def Group.requestWord (r : Group) : Word :=
  let st := storedCodes r.stored
  let en := entryCodes r.entry
  wordOf (r.top.level + 8 * r.top.channel + 64 * st.1 + 256 * st.2 + 2048 * en.1 + 8192 * en.2)

/-- The restore-wait word: whole seconds left, rounded up; 0 while idle (R94). -/
def restoreWaitWord (now : Nat) : Timer → Word
  | none => 0
  | some t => wordOf ((t - now + 7999) / 8000)

/-- The slot word (R160, R193). -/
def slotWord (priority : Nat) (r : Slot) : Word := wordOf (r.state.code + 16 * r.measured.code + 256 * priority)

/-- The generator word (R160, R193). -/
def Timing.generatorWord (t : Timing) : Word :=
  wordOf (t.gen.code + 16 * slotCode t.selected + 256 * slotCode t.forced + 2048 * t.history.length
    + 16384 * bits t.stationKind 0 2)

/-- The word an owner supplies for a live word (R9). -/
def State.liveWord (s : State) (l : LiveWord) : Word :=
  match l with
  | .identity => s.path.identity
  | .status => s.mailbox.status
  | .condition w => s.alarm.conditionWord w
  | .summary w => if w = 0 then s.summary0 else s.summary1
  | .identification => s.alarm.identification
  | .shelfTime => s.poster.shelfTime
  | .poster => s.poster.word
  | .port p => portWord (s.sup.kind p) s.sup.record[p]
  | .smoothed p => smoothedWord s.sup.record[p]
  | .acceptedTrace p => acceptedWord s.sup.record[p]
  | .groupState g => s.group[g].stateWord
  | .groupRequest g => s.group[g].requestWord
  | .restoreWait g => restoreWaitWord s.now s.group[g].restoreWait
  | .slot i => slotWord (slotPriority s.timing.config[i]) s.timing.slot[i]
  | .slotOffset i => signedWord s.timing.slot[i].lastOffset
  | .generator => s.timing.generatorWord
  | .generatorOffset => signedWord s.timing.offset

end Sys2Proof.Machine
end

