-- ==== Sys2Proof/Machine/Mailbox.lean ====
section
/-! DEFINITION. The command unit (08): the exchange, results, the owners' answers and STATUS. -/

namespace Sys2Proof.Machine

/-! ## Results (R134) -/

/-- A result is recorded (R134): last result and code, the completion count, the COMMAND event, COMMAND-DONE. -/
def State.recordResult (s : State) (code : BitVec 4) (object : Nat) (result : CommandResult) : State :=
  let s := { s with mailbox := { s.mailbox with lastResult := result, lastCode := code, count := s.mailbox.count + 1 } }
  let s := s.putEvent object (.command code result)
  { s with alarm := { s.alarm with commandDone := true } }

/-- A result recorded with the code and object of a command word. -/
def State.recordWord (s : State) (w : Word) (result : CommandResult) : State :=
  s.recordResult (w.extractLsb' 0 4) (commandObject w) result

/-- The mailbox in a state in which no command is pending: the window stops with it (R126). -/
def Mailbox.settle (m : Mailbox) (state : MailboxState) : Mailbox :=
  { m with state := state, pending := none, window := none }

def State.settleMailbox (s : State) (state : MailboxState) : State := { s with mailbox := s.mailbox.settle state }

/-! ## Owners (R135 to R139) -/

/-- FORCE-REF s (R137). -/
def State.forceRef (s : State) (object : Nat) : State × CommandResult :=
  if h : object < 4 then
    if s.slotDisabled ⟨object, h⟩ then (s, .refusedState) else (s.setForce (some ⟨object, h⟩), .done)
  else (s, .refusedInvalid)

/-- A command handed to its owner, and the owner's answer (R127, R135). RESTART goes to the memory path (R140). -/
def State.handToOwner (s : State) (c : Command) (object channel : Nat) : State × CommandResult :=
  match c with
  | .bar => s.storeCommand .bar object channel
  | .force => s.storeCommand .force object channel
  | .manual => s.storeCommand .manual object channel
  | .clear => s.clearGroup object channel
  | .forceRef => s.forceRef object
  | .clearRef => (s.setForce none, .done)
  | .maint => s.maint object
  | .release => s.release object
  | .resume => (s.resume, .done)
  | .aco => (s.cutOff, .done)
  | .restart => (s, .done)

/-- A command word that passed the form check is executed by its owner and its result recorded (R134, R135). -/
def State.executeWord (s : State) (c : Command) (w : Word) : State :=
  let answer := s.handToOwner c (commandObject w) (commandChannel w)
  answer.1.recordWord w answer.2

/-! ## The exchange (R128 to R132) -/

/-- The object recorded for a word that the form check refuses (R127, R134): 0 for a command without an object, and else the word's
object field. That a word of an unknown code, which names no command, records its field is the model's choice (log entry 48). -/
def refusedObject (w : Word) : Nat := if (commandOf (commandCode w)).any Command.objectZero then 0 else commandObject w

/-- A COMMAND word write taken in READY (R127, R128). -/
def State.newCommand (s : State) (w : Word) : State :=
  match formCheck w with
  | none => s.recordResult (w.extractLsb' 0 4) (refusedObject w) .refusedInvalid
  | some c =>
    if c.operate then
      { s with mailbox := { s.mailbox with
          state := .awaitConfirm, pending := some w, window := some (s.after Config.confirmWindow) } }
    else s.executeWord c w

/-- The mailbox blocks, and the result is recorded with the code and object given (R129, R131, R132). -/
def State.block (s : State) (w : Word) (result : CommandResult) : State :=
  (s.settleMailbox .blocked).recordWord w result

/-- The pending command word; 0, which names no command, where none is pending. -/
def State.pendingWord (s : State) : Word := s.mailbox.pending.getD 0

/-- A word write to COMMAND (R128, R131). -/
def State.commandWrite (s : State) (w : Word) : State :=
  match s.mailbox.state with
  | .ready => s.newCommand w
  | .awaitConfirm => s.block s.pendingWord .access
  | .executing => s
  | .blocked => s.recordWord w .blocked

/-- The pending command is confirmed (R129): RESTART makes the mailbox EXECUTING (R140). -/
def State.confirmed (s : State) (w : Word) : State :=
  match formCheck w with
  | some .restart => { s with mailbox := { s.mailbox with state := .executing, window := none } }
  | some c => (s.settleMailbox .ready).executeWord c w
  | none => s.settleMailbox .ready

/-- A word write to CONFIRM (R129, R131). -/
def State.confirmWrite (s : State) (w : Word) : State :=
  match s.mailbox.state with
  | .ready => s.recordWord w .strayConfirm
  | .awaitConfirm => if s.mailbox.pending = some w then s.confirmed w else s.block s.pendingWord .confirmMismatch
  | .executing => s
  | .blocked => s.recordWord w .blocked

/-- A byte write to COMMAND or CONFIRM (R132). -/
def State.mailboxByte (s : State) : State :=
  match s.mailbox.state with
  | .executing => s
  | .awaitConfirm => s.block s.pendingWord .byteWrite
  | .ready => s.block 0 .byteWrite
  | .blocked => s.block 0 .byteWrite

/-- The confirm window expires (R130). -/
def State.windowExpire (s : State) : State :=
  match s.mailbox.state, s.mailbox.window with
  | .awaitConfirm, some t => ((s.passTo t).settleMailbox .ready).recordWord s.pendingWord .lapsed
  | _, _ => s

/-- A write to STATUS, merged with the mailbox's own value (R9, R133). -/
def State.writeStatus (s : State) (lanes : Lanes) (data : Word) : State :=
  if flag (mergeLanes lanes s.mailbox.status data) 15 ∧ s.mailbox.state = .blocked then
    { s with mailbox := { s.mailbox with state := .ready } }
  else s

/-! ## Restart (R126, R140) -/

/-- The restart values, taken when the restart's start check ends. -/
def Mailbox.restarted (m : Mailbox) : Mailbox where
  state := .ready
  pending := none
  window := none
  lastResult := .restarted
  lastCode := 11
  count := m.count + 1
  restartOwed := true

/-- The COMMAND event and COMMAND-DONE of a restart, put when RUNNING begins (R140). -/
def State.completeRestart (s : State) : State :=
  if s.mailbox.restartOwed then
    let s := { s with mailbox := { s.mailbox with restartOwed := false } }
    let s := s.putEvent 0 (.command 11 .restarted)
    { s with alarm := { s.alarm with commandDone := true } }
  else s

end Sys2Proof.Machine
end

