-- ==== Sys2Proof/Machine/Path.lean ====
section
/-! DEFINITION. The memory path (01): processor cycles, the arbiter, operating states, the loader, restart and
power-on. -/

namespace Sys2Proof.Machine

/-! ## Serving a cycle in RUNNING (R3 to R10) -/

/-- What a cycle touches: an image word that is not PASS, or plain memory. -/
def State.touched (s : State) (c : Cycle) : Option ImageWord :=
  match c.place with
  | .addr a => classify s.base a
  | .image w => some w

/-- The word address of a cycle. -/
def State.cycleAddr (s : State) (c : Cycle) : Addr :=
  match c.place with
  | .addr a => a
  | .image w => s.imageAddr w.offset

/-- A cycle that goes to memory unchanged (R1, R4). -/
def State.passCycle (s : State) (c : Cycle) : State :=
  if c.write then s.memWrite (s.cycleAddr c) c.lanes c.data else s.drive c.lanes (s.memWord (s.cycleAddr c))

/-- Every block's restart values, the mailbox's apart (R18, R140; log entries 11, 12). -/
def State.beginRestart (s : State) : State :=
  { s with
    path := { Path.reset s.path.straps s.path.mem s.path.upstream with held := s.path.held }
    scan := Scan.reset s.scan.lastPoll
    sup := Supervisor.reset
    group := Vector.replicate 12 Group.reset
    driver := s.driver.off
    timing := s.timing.restart
    alarm := { Alarm.reset with
      mode := .hold, critical := s.alarm.critical, major := s.alarm.major, minor := s.alarm.minor }
    poster := Poster.reset s.poster.shelfTime s.poster.intervalEnd }

/-- A CONFIRM that makes the mailbox EXECUTING starts the restart in the same step (R18, R140). -/
def State.confirmCycle (s : State) (w : Word) : State :=
  let t := s.confirmWrite w
  if s.mailbox.state = .awaitConfirm ∧ t.mailbox.state = .executing then t.beginRestart else t

/-- The owner of a trigger word is told of a write (R8). -/
def State.triggered (s : State) (t : Trigger) (lanes : Lanes) (data : Word) : State :=
  match t, lanes with
  | .imageReady, _ => s
  | .mailbox .command, .word => s.commandWrite data
  | .mailbox .confirm, .word => s.confirmCycle data
  | .mailbox _, .low => s.mailboxByte
  | .mailbox _, .high => s.mailboxByte

/-- SHELF TIME is set and a new interval starts (R177). -/
def State.setShelfTime (s : State) (w : Word) : State :=
  { s with poster := { s.poster with shelfTime := w, intervalEnd := s.after Config.shelfTimeStep } }

/-- The end of a 10 ms interval (R177): the counter advances by one, wrapping, and the next interval starts. -/
def State.advanceShelfTime (s : State) : State :=
  let s := s.passTo s.poster.intervalEnd
  { s with poster := { s.poster with
      shelfTime := s.poster.shelfTime + 1, intervalEnd := s.poster.intervalEnd + Config.shelfTimeStep } }

/-- A write to a live word (R9): SHELF TIME and STATUS act, every other live word absorbs it. -/
def State.writeLive (s : State) (l : LiveWord) (lanes : Lanes) (data : Word) : State :=
  match l with
  | .shelfTime => s.setShelfTime (mergeLanes lanes s.poster.shelfTime data)
  | .status => s.writeStatus lanes data
  | .identity => s
  | .condition _ => s
  | .summary _ => s
  | .identification => s
  | .poster => s
  | .port _ => s
  | .smoothed _ => s
  | .acceptedTrace _ => s
  | .groupState _ => s
  | .groupRequest _ => s
  | .restoreWait _ => s
  | .slot _ => s
  | .slotOffset _ => s
  | .generator => s
  | .generatorOffset => s

/-- A read of a live word (R9); only IDENTIFICATION acts on it (R174). -/
def State.readLive (s : State) (l : LiveWord) (lanes : Lanes) : State :=
  let t := s.drive lanes (s.liveWord l)
  if l = .identification then { t with alarm := t.alarm.identificationRead lanes } else t

/-- A read of a change word (R10). -/
def State.readChange (s : State) (w : Fin 16) (lanes : Lanes) : State :=
  let t := s.drive lanes (s.alarm.changeWord w)
  { t with alarm := t.alarm.changeRead w lanes }

/-- A processor cycle served in RUNNING, by the class of the word (R3). -/
def State.serveRunning (s : State) (c : Cycle) : State :=
  match s.touched c with
  | none => s.passCycle c
  | some (.watched w) => if c.write then s.watchedWrite w c.lanes c.data else s.passCycle c
  | some (.trigger t) => if c.write then (s.passCycle c).triggered t c.lanes c.data else s.passCycle c
  | some (.live l) => if c.write then s.writeLive l c.lanes c.data else s.readLive l c.lanes
  | some (.change w) => if c.write then s else s.readChange w c.lanes

/-! ## Serving a cycle in every operating state (R3, R13, R15) -/

/-- A cycle waits on the ready line (R13). -/
def State.holdCycle (s : State) (c : Cycle) : State :=
  { s with path := { s.path with held := s.path.held ++ [c] } }

/-- A cycle in STANDBY: all image words pass but a read of IDENTITY; a write of IMAGE READY owes a read-back (R3,
R15); a cycle that meets the read-back waits for it (log entry 39). -/
def State.serveStandby (s : State) (c : Cycle) : State :=
  let touched := s.touched c
  if touched = some (.live .identity) ∧ c.write = false then s.readLive .identity c.lanes
  else if s.path.readBackOwed then s.holdCycle c
  else
    let t := s.passCycle c
    if touched = some (.trigger .imageReady) ∧ c.write then { t with path := { t.path with readBackOwed := true } }
    else t

/-- A processor cycle (R3, R13). -/
def State.processorCycle (s : State) (c : Cycle) : State :=
  match s.path.op with
  | .running => s.serveRunning c
  | .standby => s.serveStandby c
  | .startCheck => s.holdCycle c
  | .loading => s.holdCycle c

/-! ## Processor commands as cycles -/

/-- A processor cycle of a word written by lanes. -/
def writeCycle (w : ImageWord) (lanes : Lanes) (data : Word) : Cycle := ⟨.image w, true, lanes, data⟩

/-- The cycle of a whole-word write to COMMAND, for a command word's fields. -/
def commandCycle (code : Command) (object : BitVec 6) (channel spare : BitVec 3) : Cycle :=
  writeCycle (.trigger (.mailbox .command)) .word (commandWord code.code object channel spare)

/-- The word of a port's threshold (R189). -/
def thresholdField : Threshold → Fin 8
  | .fail => 2
  | .degrade => 3
  | .overload => 4

/-- The lanes of a byte write. -/
def laneOf : Lane → Lanes
  | .low => .low
  | .high => .high

/-- A byte placed in its lane; the other lane is not written. -/
def laneWord (lane : Lane) (b : Byte) : Word :=
  match lane with
  | .low => (0 : Byte) ++ b
  | .high => b ++ (0 : Byte)

/-- The index of word `j + 1` of a group, for the words 1 to 6. -/
def memberField (j : Fin 6) : Fin 8 := ⟨j + 1, by omega⟩

/-- The processor cycle a command is, if it is one. -/
def cycleOf (i : Instr) : Option Cycle :=
  match i with
  | .passWrite a l d => some ⟨.addr a, true, l, d⟩
  | .shelfNumberWrite l d => some (writeCycle (.watched .shelfNumber) l d)
  | .attentionMaskWrite l d => some (writeCycle (.watched .attentionMask) l d)
  | .ringBaseWrite l d => some (writeCycle (.watched .ringBase) l d)
  | .ringSizeWrite l d => some (writeCycle (.watched .ringSize) l d)
  | .alarmProfileWrite k l d => some (writeCycle (.watched (.profile k)) l d)
  | .calibrationWrite n j l d => some (writeCycle (.watched (.calibration n j)) l d)
  | .monitorKindWrite p l d => some (writeCycle (.watched (.port p 0)) l d)
  | .expectedTraceWrite p l d => some (writeCycle (.watched (.port p 1)) l d)
  | .thresholdWrite p t l d => some (writeCycle (.watched (.port p (thresholdField t))) l d)
  | .hysteresisWrite p l d => some (writeCycle (.watched (.port p 5)) l d)
  | .calibrationSetWrite p l d => some (writeCycle (.watched (.port p 6)) l d)
  | .persistenceWrite p l d => some (writeCycle (.watched (.port p 7)) l d)
  | .groupKindWrite g l d => some (writeCycle (.watched (.group g 0)) l d)
  | .groupMemberWrite g j l d => some (writeCycle (.watched (.group g (memberField j))) l d)
  | .groupPolicyWrite g l d => some (writeCycle (.watched (.group g 7)) l d)
  | .slotConfigurationWrite i j l d => some (writeCycle (.watched (.slot i j)) l d)
  | .slotSourceWrite i l d => some (writeCycle (.watched (.source i)) l d)
  | .stationInputKindWrite l d => some (writeCycle (.watched .stationKind) l d)
  | .imageReadyWrite l d => some (writeCycle (.trigger .imageReady) l d)
  | .bar o c x => some (commandCycle .bar o c x)
  | .force o c x => some (commandCycle .force o c x)
  | .manual o c x => some (commandCycle .manual o c x)
  | .clear o c x => some (commandCycle .clear o c x)
  | .forceRef o c x => some (commandCycle .forceRef o c x)
  | .clearRef o c x => some (commandCycle .clearRef o c x)
  | .maint o c x => some (commandCycle .maint o c x)
  | .release o c x => some (commandCycle .release o c x)
  | .resume o c x => some (commandCycle .resume o c x)
  | .aco o c x => some (commandCycle .aco o c x)
  | .restart o c x => some (commandCycle .restart o c x)
  | .confirm d => some (writeCycle (.trigger (.mailbox .confirm)) .word d)
  | .mailboxByteWrite t lane b => some (writeCycle (.trigger (.mailbox t)) (laneOf lane) (laneWord lane b))
  | .unknownCommandWrite d => some (writeCycle (.trigger (.mailbox .command)) .word d)
  | .statusWrite l d => some (writeCycle (.live .status) l d)
  | .shelfTimeWrite l d => some (writeCycle (.live .shelfTime) l d)
  | .changeWordRead w l => some ⟨.image (.change w), false, l, 0⟩
  | .identificationRead l => some ⟨.image (.live .identification), false, l, 0⟩
  | .powerOn _ | .startCheck | .loaderRead | .loaderWriteBack | .imageReadyReadBack | .confirmWindowExpiry
  | .shelfTimeAdvance | .scanRoundStart | .portSlotStart | .moduleAnswer _ _ | .portSlotEnd | .portUpdate
  | .holdOffExpiry _ _ | .restoreWaitExpiry _ | .confirmationTimerExpiry _ | .senseChange _ _ | .travelTimerExpiry _
  | .settleTimerExpiry _ | .slotPulse _ | .lossWindowExpiry _ | .gateComplete _ _ | .gateOverrun _
  | .qualifyTimerExpiry _ | .acoInput | .descriptorWord0Read | .descriptorWordWrite | .descriptorWord0Write => none

/-- A cycle that needs the memory port (R9, R10, R13). -/
def State.needsPort (s : State) (c : Cycle) : Bool :=
  match s.path.op, s.touched c with
  | .running, some (.live _) => false
  | .running, some (.change _) => false
  | _, some (.live .identity) => c.write
  | _, _ => true

/-! ## The arbiter (R11, R13; log entry 9) -/

/-- A processor cycle held on the ready line waits for the port. -/
def State.processorWaiting (s : State) : Bool := s.path.held.any s.needsPort

/-- The master side's next cycle, if it has one (R11). -/
def State.masterWaiting (s : State) : Option Requester :=
  match s.path.op with
  | .startCheck => some .memoryPath
  | .loading => some .memoryPath
  | .standby => if s.path.readBackOwed then some .memoryPath else none
  | .running => if s.poster.state = .posting then some (.poster s.poster.overflow) else none

/-- The cycle granted when the port is free, given whether the processor waits for it (R11): the processor's before the
poster's, unless 12 or more events are queued; the memory path's master side has the port throughout. -/
def State.arbitrate (s : State) (processor : Bool) : Option Requester :=
  match s.masterWaiting with
  | some (.poster b) =>
    if processor && s.poster.queue.length < Config.urgentQueue then some .processor else some (.poster b)
  | some r => some r
  | none => if processor then some .processor else none

/-- A free port is granted to whoever waits for it. -/
def State.grantAfresh (s : State) : State :=
  { s with path := { s.path with grant := s.arbitrate s.processorWaiting } }

/-- A held cycle meets a free port: it is served if it needs no port or the arbiter grants it, and is held on otherwise
(R11, R13). -/
def State.serve (s : State) (c : Cycle) : State :=
  if s.needsPort c ∧ s.arbitrate true ≠ some .processor then s.holdCycle c else s.processorCycle c

/-- The port falls free: the cycles held meet it, oldest first, each by the rules of the state it meets (R11, R13; log
entry 10). -/
def State.serveHeld (s : State) : State :=
  s.path.held.foldl State.serve { s with path := { s.path with held := [] } }

/-- The end of a command whenever the port may be free: a free port is granted (R11). -/
def State.eventDone (s : State) : State := if s.path.grant = none then s.grantAfresh else s

/-- A processor's command: a cycle that needs the port waits on the ready line while the port is busy (R11, R13); any other
is served, and its memory cycle is whole in this command. -/
def State.processor (s : State) (c : Cycle) : State :=
  if s.needsPort c then
    if s.path.grant = none then (s.processorCycle c).grantAfresh else s.holdCycle c
  else (s.processorCycle c).eventDone

/-- What a command answers. -/
abbrev Result := Host.Outcome State Fault Refusal

/-- A processor's command is done. -/
def State.answerCycle (s : State) (c : Cycle) : Result := .next (s.processor c)

/-- A command that is no memory cycle is done. -/
def State.finish (s : State) : Result := .next s.eventDone

/-- A master cycle is done and the port falls free; one that was not `due` left `s` as it was. -/
def State.finishMaster (s : State) (due : Bool) : Result :=
  .next (if due then s.serveHeld.grantAfresh else s.eventDone)

/-! ## Operating states (R14 to R17) -/

/-- The word IMAGE READY holds in memory reads as set (R14). -/
def State.imageReady (s : State) : Bool := s.memWord (s.imageAddr Trigger.imageReady.offset) = 1

/-- Entry to STANDBY (R15): ALL-ALARM, IMAGE NOT READY. -/
def State.enterStandby (s : State) : State :=
  let s := { s with path := { s.path with op := .standby } }
  s.enterAllAlarm.setPoint Point.imageNotReady true

/-- Entry to LOADING with the loader at the first watched word (R14, R15). -/
def State.enterLoading (s : State) : State :=
  { s with path := { s.path with op := .loading, loaderAt := 0, writeBack := none, readBackOwed := false } }

/-- A round in progress at port 0's slot (R19). -/
def Round.first : Round := ⟨0, .waiting, []⟩

/-- The scan controller begins a round (R19). -/
def State.beginRound (s : State) : State := { s with scan := { s.scan with round := some Round.first } }

/-- RUNNING begins (R17): the switch driver, the groups, the timing unit, the scan controller, the poster, and a restart's
completion. -/
def State.beginRunning (s : State) : State :=
  let s := { s with path := { s.path with op := .running } }
  let s := s.setPoint Point.imageNotReady false
  let s := s.adoptElements
  let s := (List.finRange 12).foldl State.adoptGroup s
  let s := s.timingStart.beginRound.startRing
  s.completeRestart

/-- The start check completes (R14, R126); the DISABLED poster hands RING FORMAT over (R181; log entry 13). -/
def State.endStartCheck (s : State) : State :=
  if s.path.op = .startCheck then
    let s := if s.mailbox.state = .executing then { s with mailbox := s.mailbox.restarted } else s
    let s := s.handRingFormat
    if s.imageReady then s.enterLoading else s.enterStandby
  else s

/-- The loader moves on; after the last word RUNNING begins (R16, R17). -/
def State.loaderNext (s : State) : State :=
  let n := s.path.loaderAt + 1
  let s := { s with path := { s.path with loaderAt := n, writeBack := none } }
  if n = loaderOrder.length then s.beginRunning else s

/-- A loader read completes (R16). -/
def State.loadWord (s : State) : State :=
  if s.path.op = .loading ∧ s.path.writeBack = none then
    match loaderOrder[s.path.loaderAt]? with
    | none => s
    | some w =>
      let v := s.memWord (s.imageAddr w.offset)
      let answer := s.screen w v
      if answer.2 = v then ((s.takeHeld w v).provision w answer.1).loaderNext
      else { s with path := { s.path with writeBack := some ⟨w, answer.2, answer.1⟩ } }
  else s

/-- The loader's write-back completes (R7, R16). -/
def State.writeBackWord (s : State) : State :=
  match s.path.op, s.path.writeBack with
  | .loading, some b =>
    let s := s.memWrite (s.imageAddr b.word.offset) .word b.value
    ((s.takeHeld b.word b.value).provision b.word b.verdict).loaderNext
  | _, _ => s

/-- The read-back of IMAGE READY completes (R15). -/
def State.readBack (s : State) : State :=
  if s.path.op = .standby ∧ s.path.readBackOwed then
    let s := { s with path := { s.path with readBackOwed := false } }
    if s.imageReady then s.enterLoading else s
  else s

/-! ## Power-on (R2, R14) -/

/-- The state at the release of the reset line: every block's power-on values; shelf memory, the sense outputs, what the
modules repeat and the queue are outside the part and stay (log entry 40). -/
def State.releaseReset (s : State) (straps : BitVec 2) : State where
  pending := s.pending
  now := 0
  path := Path.reset straps s.path.mem 0
  mailbox := Mailbox.reset
  scan := Scan.reset s.scan.lastPoll
  sup := Supervisor.reset
  group := Vector.replicate 12 Group.reset
  driver := ⟨false, s.driver.element.map (fun el => Element.reset el.sensed)⟩
  timing := Timing.reset
  alarm := Alarm.reset
  poster := Poster.reset 0 Config.shelfTimeStep

end Sys2Proof.Machine
end

