-- ==== Sys2Proof/Machine/Scan.lean ====
section
/-! DEFINITION. The scan controller (02): slots, polls, answers and the classification of rounds. -/

namespace Sys2Proof.Machine

/-- The round in progress replaced. -/
def State.setRound (s : State) (r : Option Round) : State := { s with scan := { s.scan with round := r } }

/-- The 4 ms start of a round (R19; log entry 33). -/
def State.startRound (s : State) : State :=
  if s.path.op = .running ∧ s.scan.round = none then s.beginRound else s

/-- The words a module is polled with (R19 to R21). -/
def Scan.pollWords (c : Scan) (p : Port) : Word × Word := (transmitTrace c.shelfNumber p, c.transmit[p])

/-- The start of a port's slot (R19): the kind is read, an equipped module is polled. -/
def State.startSlot (s : State) : State :=
  match s.scan.round with
  | some ⟨p, .waiting, rs⟩ =>
    if s.sup.kind p = .none then s.setRound (some ⟨p, .unscanned, rs⟩)
    else
      let s := s.setRound (some ⟨p, .polled, rs⟩)
      { s with scan := { s.scan with lastPoll := put s.scan.lastPoll p (some (s.scan.pollWords p)) } }
  | _ => s

/-- A module's answer (R22): only one whose check passes counts, and the first one stands (log entry 37). -/
def State.takeAnswer (s : State) (checkPasses : Bool) (a : Answer) : State :=
  match s.scan.round with
  | some ⟨p, .polled, rs⟩ => if checkPasses then s.setRound (some ⟨p, .answered a, rs⟩) else s
  | _ => s

/-- The results of a round with those of the slot that ends (R19, R22). -/
def Round.gather (r : Round) : List (Port × Option Answer) :=
  match r.phase with
  | .waiting => r.results
  | .unscanned => r.results
  | .polled => r.results ++ [(r.slot, none)]
  | .answered a => r.results ++ [(r.slot, some a)]

/-- A faulted round: two or more ports equipped, and none answered (R23). -/
def faulted (results : List (Port × Option Answer)) : Bool :=
  decide (2 ≤ results.length) && results.all (fun r => r.2 = none)

/-- The faulted-run count after a round (R23). -/
def nextRun (fault : Bool) (n : Nat) : Nat := if fault then min 26 (n + 1) else 0

/-- The round is over and is classified: held, or processed and delivered (R23, R24). -/
def State.classifyRound (s : State) (results : List (Port × Option Answer)) : State :=
  let fault := faulted results
  let run := nextRun fault s.scan.faultedRun
  let s := { s with scan := { s.scan with round := none, faultedRun := run, scanFault := fault } }
  let s := s.setPoint Point.scanFault fault
  if fault ∧ run ≤ 25 then s
  else
    let n := min 65535 (s.scan.processed + 1)
    let s := { s with scan := { s.scan with processed := n } }
    s.deliverRound ⟨n, results⟩

/-- The end of a port's slot (R22, R23). -/
def State.endSlot (s : State) : State :=
  match s.scan.round with
  | none => s
  | some r =>
    if r.phase = .waiting then s
    else if h : r.slot.val + 1 < 24 then s.setRound (some ⟨⟨r.slot + 1, h⟩, .waiting, r.gather⟩)
    else s.classifyRound r.gather

end Sys2Proof.Machine
end

