-- ==== Sys2Proof/Machine/Start.lean ====
section
/-! DEFINITION. The commands of reset and loading: the release of the reset line, the start check, the loader's cycles and
the IMAGE READY read-back. -/

namespace Sys2Proof.Machine

/-- POWER_ON (R2, R14). -/
def execPowerOn (straps : BitVec 2) (s : State) : Result := .next (s.releaseReset straps)

/-- START_CHECK (R14, R15, R126). -/
def execStartCheck (s : State) : Result := s.endStartCheck.finishMaster (s.path.op = .startCheck)

/-- LOADER_READ (R16, R17). -/
def execLoaderRead (s : State) : Result := s.loadWord.finishMaster (s.path.op = .loading)

/-- LOADER_WRITE_BACK (R7, R16, R17). -/
def execLoaderWriteBack (s : State) : Result := s.writeBackWord.finishMaster (s.path.op = .loading)

/-- IMAGE_READY_WRITE (R8, R15). -/
def execImageReadyWrite (lanes : Lanes) (data : Word) (s : State) : Result :=
  s.answerCycle (writeCycle (.trigger .imageReady) lanes data)

/-- IMAGE_READY_READ_BACK (R15). -/
def execImageReadyReadBack (s : State) : Result :=
  s.readBack.finishMaster (s.path.op = .standby && s.path.readBackOwed)

end Sys2Proof.Machine
end

