-- ==== Sys2Proof/Machine/Words.lean ====
section
/-! DEFINITION. The processor's commands on memory, watched, live and change words, and the shelf time interval. -/

namespace Sys2Proof.Machine

/-- PASS_WRITE (R1, R3, R4, R9, R10). -/
def execPassWrite (addr : Addr) (lanes : Lanes) (data : Word) (s : State) : Result :=
  s.answerCycle ⟨.addr addr, true, lanes, data⟩

/-- SHELF_NUMBER_WRITE (R20). -/
def execShelfNumberWrite (lanes : Lanes) (data : Word) (s : State) : Result :=
  s.answerCycle (writeCycle (.watched .shelfNumber) lanes data)

/-- ATTENTION_MASK_WRITE (R173). -/
def execAttentionMaskWrite (lanes : Lanes) (data : Word) (s : State) : Result :=
  s.answerCycle (writeCycle (.watched .attentionMask) lanes data)

/-- RING_BASE_WRITE (R178). -/
def execRingBaseWrite (lanes : Lanes) (data : Word) (s : State) : Result :=
  s.answerCycle (writeCycle (.watched .ringBase) lanes data)

/-- RING_SIZE_WRITE (R178). -/
def execRingSizeWrite (lanes : Lanes) (data : Word) (s : State) : Result :=
  s.answerCycle (writeCycle (.watched .ringSize) lanes data)

/-- ALARM_PROFILE_WRITE (R163). -/
def execAlarmProfileWrite (kind : Fin 22) (lanes : Lanes) (data : Word) (s : State) : Result :=
  s.answerCycle (writeCycle (.watched (.profile kind)) lanes data)

/-- CALIBRATION_WRITE (R37, R43). -/
def execCalibrationWrite (set : Fin 8) (field : Fin 4) (lanes : Lanes) (data : Word) (s : State) : Result :=
  s.answerCycle (writeCycle (.watched (.calibration set field)) lanes data)

/-- MONITOR_KIND_WRITE (R32, R34, R54). -/
def execMonitorKindWrite (p : Port) (lanes : Lanes) (data : Word) (s : State) : Result :=
  s.answerCycle (writeCycle (.watched (.port p 0)) lanes data)

/-- EXPECTED_TRACE_WRITE (R54, R62). -/
def execExpectedTraceWrite (p : Port) (lanes : Lanes) (data : Word) (s : State) : Result :=
  s.answerCycle (writeCycle (.watched (.port p 1)) lanes data)

/-- THRESHOLD_WRITE (R44). -/
def execThresholdWrite (p : Port) (t : Threshold) (lanes : Lanes) (data : Word) (s : State) : Result :=
  s.answerCycle (writeCycle (.watched (.port p (thresholdField t))) lanes data)

/-- HYSTERESIS_WRITE (R45). -/
def execHysteresisWrite (p : Port) (lanes : Lanes) (data : Word) (s : State) : Result :=
  s.answerCycle (writeCycle (.watched (.port p 5)) lanes data)

/-- CALIBRATION_SET_WRITE (R31, R43). -/
def execCalibrationSetWrite (p : Port) (lanes : Lanes) (data : Word) (s : State) : Result :=
  s.answerCycle (writeCycle (.watched (.port p 6)) lanes data)

/-- PERSISTENCE_WRITE (R33). -/
def execPersistenceWrite (p : Port) (lanes : Lanes) (data : Word) (s : State) : Result :=
  s.answerCycle (writeCycle (.watched (.port p 7)) lanes data)

/-- GROUP_KIND_WRITE (R75 to R77). -/
def execGroupKindWrite (g : GroupId) (lanes : Lanes) (data : Word) (s : State) : Result :=
  s.answerCycle (writeCycle (.watched (.group g 0)) lanes data)

/-- GROUP_MEMBER_WRITE (R74, R76, R77). -/
def execGroupMemberWrite (g : GroupId) (field : Fin 6) (lanes : Lanes) (data : Word) (s : State) : Result :=
  s.answerCycle (writeCycle (.watched (.group g (memberField field))) lanes data)

/-- GROUP_POLICY_WRITE (R76, R77). -/
def execGroupPolicyWrite (g : GroupId) (lanes : Lanes) (data : Word) (s : State) : Result :=
  s.answerCycle (writeCycle (.watched (.group g 7)) lanes data)

/-- SLOT_CONFIGURATION_WRITE (R142, R146). -/
def execSlotConfigurationWrite (i : SlotId) (field : Fin 3) (lanes : Lanes) (data : Word) (s : State) : Result :=
  s.answerCycle (writeCycle (.watched (.slot i field)) lanes data)

/-- SLOT_SOURCE_WRITE (R142, R144). -/
def execSlotSourceWrite (l : LineId) (lanes : Lanes) (data : Word) (s : State) : Result :=
  s.answerCycle (writeCycle (.watched (.source l)) lanes data)

/-- STATION_INPUT_KIND_WRITE (R143). -/
def execStationInputKindWrite (lanes : Lanes) (data : Word) (s : State) : Result :=
  s.answerCycle (writeCycle (.watched .stationKind) lanes data)

/-- STATUS_WRITE (R9, R133). -/
def execStatusWrite (lanes : Lanes) (data : Word) (s : State) : Result :=
  s.answerCycle (writeCycle (.live .status) lanes data)

/-- SHELF_TIME_WRITE (R9, R177). -/
def execShelfTimeWrite (lanes : Lanes) (data : Word) (s : State) : Result :=
  s.answerCycle (writeCycle (.live .shelfTime) lanes data)

/-- SHELF_TIME_ADVANCE (R177). -/
def execShelfTimeAdvance (s : State) : Result := s.advanceShelfTime.finish

/-- CHANGE_WORD_READ (R10). -/
def execChangeWordRead (w : Fin 16) (lanes : Lanes) (s : State) : Result :=
  s.answerCycle ⟨.image (.change w), false, lanes, 0⟩

/-- IDENTIFICATION_READ (R174). -/
def execIdentificationRead (lanes : Lanes) (s : State) : Result :=
  s.answerCycle ⟨.image (.live .identification), false, lanes, 0⟩

end Sys2Proof.Machine
end

