-- ==== Sys2Proof/Machine/Commands.lean ====
section
/-! DEFINITION. The commands of the mailbox (08): command words written to COMMAND, confirms, byte writes, the window. -/

namespace Sys2Proof.Machine

/-- BAR (R84, R127, R128). -/
def execBar (object : BitVec 6) (channel spare : BitVec 3) (s : State) : Result :=
  s.answerCycle (commandCycle .bar object channel spare)

/-- FORCE (R84, R127, R128). -/
def execForce (object : BitVec 6) (channel spare : BitVec 3) (s : State) : Result :=
  s.answerCycle (commandCycle .force object channel spare)

/-- MANUAL (R84, R127, R128). -/
def execManual (object : BitVec 6) (channel spare : BitVec 3) (s : State) : Result :=
  s.answerCycle (commandCycle .manual object channel spare)

/-- CLEAR (R85, R127, R128). -/
def execClear (object : BitVec 6) (channel spare : BitVec 3) (s : State) : Result :=
  s.answerCycle (commandCycle .clear object channel spare)

/-- FORCE_REF (R137, R127, R128). -/
def execForceRef (object : BitVec 6) (channel spare : BitVec 3) (s : State) : Result :=
  s.answerCycle (commandCycle .forceRef object channel spare)

/-- CLEAR_REF (R137, R127, R128). -/
def execClearRef (object : BitVec 6) (channel spare : BitVec 3) (s : State) : Result :=
  s.answerCycle (commandCycle .clearRef object channel spare)

/-- MAINT (R70, R127, R128). -/
def execMaint (object : BitVec 6) (channel spare : BitVec 3) (s : State) : Result :=
  s.answerCycle (commandCycle .maint object channel spare)

/-- RELEASE (R71, R127, R128). -/
def execRelease (object : BitVec 6) (channel spare : BitVec 3) (s : State) : Result :=
  s.answerCycle (commandCycle .release object channel spare)

/-- RESUME (R127, R128, R138). -/
def execResume (object : BitVec 6) (channel spare : BitVec 3) (s : State) : Result :=
  s.answerCycle (commandCycle .resume object channel spare)

/-- ACO (R127, R128, R139). -/
def execAco (object : BitVec 6) (channel spare : BitVec 3) (s : State) : Result :=
  s.answerCycle (commandCycle .aco object channel spare)

/-- RESTART (R127, R128, R140). -/
def execRestart (object : BitVec 6) (channel spare : BitVec 3) (s : State) : Result :=
  s.answerCycle (commandCycle .restart object channel spare)

/-- UNKNOWN_COMMAND_WRITE (R127, R128, R131). -/
def execUnknownCommandWrite (data : Word) (s : State) : Result :=
  s.answerCycle (writeCycle (.trigger (.mailbox .command)) .word data)

/-- CONFIRM (R129, R131, R140). -/
def execConfirm (data : Word) (s : State) : Result :=
  s.answerCycle (writeCycle (.trigger (.mailbox .confirm)) .word data)

/-- MAILBOX_BYTE_WRITE (R8, R132). -/
def execMailboxByteWrite (target : MailboxWord) (lane : Lane) (byte : Byte) (s : State) : Result :=
  s.answerCycle (writeCycle (.trigger (.mailbox target)) (laneOf lane) (laneWord lane byte))

/-- CONFIRM_WINDOW_EXPIRY (R130). -/
def execConfirmWindowExpiry (s : State) : Result := s.windowExpire.finish

end Sys2Proof.Machine
end

