-- ==== Sys2Proof/Machine/Events.lean ====
section
/-! DEFINITION. The events of the scan link, protection, the switch elements, timing, the ACO key and the ring. -/

namespace Sys2Proof.Machine

/-- SCAN_ROUND_START (R19). -/
def execScanRoundStart (s : State) : Result := s.startRound.finish

/-- PORT_SLOT_START (R19 to R21). -/
def execPortSlotStart (s : State) : Result := s.startSlot.finish

/-- MODULE_ANSWER (R22). -/
def execModuleAnswer (checkPasses : Bool) (answer : Answer) (s : State) : Result :=
  (s.takeAnswer checkPasses answer).finish

/-- PORT_SLOT_END (R22 to R24). -/
def execPortSlotEnd (s : State) : Result := s.endSlot.finish

/-- PORT_UPDATE (R25 to R30). -/
def execPortUpdate (s : State) : Result := s.portUpdate.finish

/-- HOLD_OFF_EXPIRY (R81). -/
def execHoldOffExpiry (g : GroupId) (k : ChannelIx) (s : State) : Result := (s.holdOffExpire g k).finish

/-- RESTORE_WAIT_EXPIRY (R88). -/
def execRestoreWaitExpiry (g : GroupId) (s : State) : Result := (s.restoreWaitExpire g).finish

/-- CONFIRMATION_TIMER_EXPIRY (R110). -/
def execConfirmationTimerExpiry (g : GroupId) (s : State) : Result := (s.confirmationExpire g).finish

/-- SENSE_CHANGE (R115, R116, R118, R120). -/
def execSenseChange (e : ElementId) (lines : BitVec 5) (s : State) : Result := (s.senseChange e (sensedOf lines)).finish

/-- TRAVEL_TIMER_EXPIRY (R119). -/
def execTravelTimerExpiry (e : ElementId) (s : State) : Result := (s.travelExpire e).finish

/-- SETTLE_TIMER_EXPIRY (R145). -/
def execSettleTimerExpiry (l : LineId) (s : State) : Result := (s.settleExpire l).finish

/-- SLOT_PULSE (R147). -/
def execSlotPulse (i : SlotId) (s : State) : Result := (s.takePulse i).finish

/-- LOSS_WINDOW_EXPIRY (R147). -/
def execLossWindowExpiry (i : SlotId) (s : State) : Result := (s.lossExpire i).finish

/-- GATE_COMPLETE (R148, R149, R153). -/
def execGateComplete (i : SlotId) (count : Nat) (s : State) : Result := (s.completeGate i count).finish

/-- GATE_OVERRUN (R148). -/
def execGateOverrun (i : SlotId) (s : State) : Result := (s.abandonGate i).finish

/-- QUALIFY_TIMER_EXPIRY (R149). -/
def execQualifyTimerExpiry (i : SlotId) (s : State) : Result := (s.qualifyExpire i).finish

/-- ACO_INPUT (R171). -/
def execAcoInput (s : State) : Result := s.cutOff.finish

/-- DESCRIPTOR_WORD0_READ (R180, R182). -/
def execDescriptorWord0Read (s : State) : Result := s.readWord0.finishMaster (s.posting .readWord0).isSome

/-- DESCRIPTOR_WORD_WRITE (R12, R180). -/
def execDescriptorWordWrite (s : State) : Result :=
  s.writeWord.finishMaster
    ((s.posting .writeWord1).isSome || (s.posting .writeWord2).isSome || (s.posting .writeWord3).isSome)

/-- DESCRIPTOR_WORD0_WRITE (R180, R181). -/
def execDescriptorWord0Write (s : State) : Result := s.writeWord0.finishMaster (s.posting .writeWord0).isSome

end Sys2Proof.Machine
end

