-- ==== Sys2Proof/Machine/Dispatch.lean ====
section
/-! DEFINITION. The dispatch: one arm per command, each a direct call of its meaning. -/

namespace Sys2Proof.Machine

def exec (i : Instr) (s : State) : Host.Outcome State Fault Refusal :=
  match i with
  | .powerOn straps => Sys2Proof.Machine.execPowerOn straps s
  | .startCheck => Sys2Proof.Machine.execStartCheck s
  | .loaderRead => Sys2Proof.Machine.execLoaderRead s
  | .loaderWriteBack => Sys2Proof.Machine.execLoaderWriteBack s
  | .passWrite addr lanes data => Sys2Proof.Machine.execPassWrite addr lanes data s
  | .shelfNumberWrite lanes data => Sys2Proof.Machine.execShelfNumberWrite lanes data s
  | .attentionMaskWrite lanes data => Sys2Proof.Machine.execAttentionMaskWrite lanes data s
  | .ringBaseWrite lanes data => Sys2Proof.Machine.execRingBaseWrite lanes data s
  | .ringSizeWrite lanes data => Sys2Proof.Machine.execRingSizeWrite lanes data s
  | .alarmProfileWrite kind lanes data => Sys2Proof.Machine.execAlarmProfileWrite kind lanes data s
  | .calibrationWrite set field lanes data => Sys2Proof.Machine.execCalibrationWrite set field lanes data s
  | .monitorKindWrite p lanes data => Sys2Proof.Machine.execMonitorKindWrite p lanes data s
  | .expectedTraceWrite p lanes data => Sys2Proof.Machine.execExpectedTraceWrite p lanes data s
  | .thresholdWrite p t lanes data => Sys2Proof.Machine.execThresholdWrite p t lanes data s
  | .hysteresisWrite p lanes data => Sys2Proof.Machine.execHysteresisWrite p lanes data s
  | .calibrationSetWrite p lanes data => Sys2Proof.Machine.execCalibrationSetWrite p lanes data s
  | .persistenceWrite p lanes data => Sys2Proof.Machine.execPersistenceWrite p lanes data s
  | .groupKindWrite g lanes data => Sys2Proof.Machine.execGroupKindWrite g lanes data s
  | .groupMemberWrite g field lanes data => Sys2Proof.Machine.execGroupMemberWrite g field lanes data s
  | .groupPolicyWrite g lanes data => Sys2Proof.Machine.execGroupPolicyWrite g lanes data s
  | .slotConfigurationWrite slot field lanes data => Sys2Proof.Machine.execSlotConfigurationWrite slot field lanes data s
  | .slotSourceWrite l lanes data => Sys2Proof.Machine.execSlotSourceWrite l lanes data s
  | .stationInputKindWrite lanes data => Sys2Proof.Machine.execStationInputKindWrite lanes data s
  | .imageReadyWrite lanes data => Sys2Proof.Machine.execImageReadyWrite lanes data s
  | .imageReadyReadBack => Sys2Proof.Machine.execImageReadyReadBack s
  | .bar object channel spare => Sys2Proof.Machine.execBar object channel spare s
  | .force object channel spare => Sys2Proof.Machine.execForce object channel spare s
  | .manual object channel spare => Sys2Proof.Machine.execManual object channel spare s
  | .clear object channel spare => Sys2Proof.Machine.execClear object channel spare s
  | .forceRef object channel spare => Sys2Proof.Machine.execForceRef object channel spare s
  | .clearRef object channel spare => Sys2Proof.Machine.execClearRef object channel spare s
  | .maint object channel spare => Sys2Proof.Machine.execMaint object channel spare s
  | .release object channel spare => Sys2Proof.Machine.execRelease object channel spare s
  | .resume object channel spare => Sys2Proof.Machine.execResume object channel spare s
  | .aco object channel spare => Sys2Proof.Machine.execAco object channel spare s
  | .restart object channel spare => Sys2Proof.Machine.execRestart object channel spare s
  | .confirm data => Sys2Proof.Machine.execConfirm data s
  | .mailboxByteWrite target lane byte => Sys2Proof.Machine.execMailboxByteWrite target lane byte s
  | .confirmWindowExpiry => Sys2Proof.Machine.execConfirmWindowExpiry s
  | .statusWrite lanes data => Sys2Proof.Machine.execStatusWrite lanes data s
  | .shelfTimeWrite lanes data => Sys2Proof.Machine.execShelfTimeWrite lanes data s
  | .shelfTimeAdvance => Sys2Proof.Machine.execShelfTimeAdvance s
  | .changeWordRead w lanes => Sys2Proof.Machine.execChangeWordRead w lanes s
  | .identificationRead lanes => Sys2Proof.Machine.execIdentificationRead lanes s
  | .scanRoundStart => Sys2Proof.Machine.execScanRoundStart s
  | .portSlotStart => Sys2Proof.Machine.execPortSlotStart s
  | .moduleAnswer checkPasses answer => Sys2Proof.Machine.execModuleAnswer checkPasses answer s
  | .portSlotEnd => Sys2Proof.Machine.execPortSlotEnd s
  | .portUpdate => Sys2Proof.Machine.execPortUpdate s
  | .holdOffExpiry g k => Sys2Proof.Machine.execHoldOffExpiry g k s
  | .restoreWaitExpiry g => Sys2Proof.Machine.execRestoreWaitExpiry g s
  | .confirmationTimerExpiry g => Sys2Proof.Machine.execConfirmationTimerExpiry g s
  | .senseChange e lines => Sys2Proof.Machine.execSenseChange e lines s
  | .travelTimerExpiry e => Sys2Proof.Machine.execTravelTimerExpiry e s
  | .settleTimerExpiry l => Sys2Proof.Machine.execSettleTimerExpiry l s
  | .slotPulse slot => Sys2Proof.Machine.execSlotPulse slot s
  | .lossWindowExpiry slot => Sys2Proof.Machine.execLossWindowExpiry slot s
  | .gateComplete slot count => Sys2Proof.Machine.execGateComplete slot count s
  | .gateOverrun slot => Sys2Proof.Machine.execGateOverrun slot s
  | .qualifyTimerExpiry slot => Sys2Proof.Machine.execQualifyTimerExpiry slot s
  | .acoInput => Sys2Proof.Machine.execAcoInput s
  | .descriptorWord0Read => Sys2Proof.Machine.execDescriptorWord0Read s
  | .descriptorWordWrite => Sys2Proof.Machine.execDescriptorWordWrite s
  | .descriptorWord0Write => Sys2Proof.Machine.execDescriptorWord0Write s
  | .unknownCommandWrite data => Sys2Proof.Machine.execUnknownCommandWrite data s

end Sys2Proof.Machine
end

