-- ==== Sys2Proof/Safety.lean ====
section
/-! DEFINITION. What a sound state of the part is: the laws the spec says are kept, block by block. Each is a predicate of one
state; a run is safe when every state of it meets them all. -/

namespace Sys2Proof.Machine

/-! ## Memory and the watched words (R16, R17) -/

/-- Memory holds the owner's value of a watched word. -/
def State.agrees (s : State) (w : Watched) : Prop := s.memWord (s.imageAddr w.offset) = s.heldWord w

/-- The poster has a ring of its own to write to: it is IDLE, POSTING, or BUSY with no change of the ring. -/
def Poster.usesRing (p : Poster) : Bool :=
  p.state = .idle || p.state = .posting || (p.state = .busy && !p.ringChange)

/-- The law of R17 and what keeps it: in RUNNING every watched word in memory equals its owner's held value; in LOADING
every word the loader has passed does, and a write-back that waits is of the word the loader stands on, a RING SIZE among them
in its range; a poster that uses a ring uses one outside the image (R12, R179) and stands on a descriptor of it; outside RUNNING
the poster is DISABLED. -/
structure State.Agreement (s : State) : Prop where
  memory   : s.path.mem.wf = true
  running  : s.path.op = .running → ∀ w, s.agrees w
  loaded   : s.path.op = .loading → ∀ i w, i < s.path.loaderAt → loaderOrder[i]? = some w → s.agrees w
  position : s.path.op = .loading → s.path.loaderAt < loaderOrder.length
  due      : ∀ b, s.path.op = .loading → s.path.writeBack = some b → loaderOrder[s.path.loaderAt]? = some b.word
  dueSize  : ∀ v x, s.path.op = .loading → s.path.writeBack = some ⟨.ringSize, v, x⟩ → 2 ≤ v.toNat ∧ v.toNat ≤ 256
  size     : 2 ≤ s.poster.ringSize.toNat ∧ s.poster.ringSize.toNat ≤ 256
  ring     : s.poster.usesRing = true → s.ringOk = true ∧ s.poster.index < s.poster.ringSize.toNat
  stopped  : s.path.op ≠ .running → s.poster.state = .disabled

/-! ## The far-end map (R58 to R60) -/

/-- Every entry of the far-end map pairs an identity with the port that accepted it and shows FREE, MATCH or MISMATCH; no
identity appears twice; a DUPLICATE has accepted an identity that another port holds. -/
structure Supervisor.MapSound (u : Supervisor) : Prop where
  entry     : ∀ (p : Port) id, u.farEnd[p] = some id →
    id ≠ 0 ∧ u.record[p].accepted = some id ∧ u.record[p].trace = heldTraceState (PortConfig.expected u.config[p]) id
  shown     : ∀ p : Port, u.record[p].trace = .free ∨ u.record[p].trace = .matched ∨ u.record[p].trace = .mismatch →
    u.farEnd[p].isSome
  once      : ∀ (p q : Port) id, u.farEnd[p] = some id → u.farEnd[q] = some id → p = q
  duplicate : ∀ p : Port, u.record[p].trace = .duplicate →
    ∃ id, id ≠ 0 ∧ u.record[p].accepted = some id ∧ ∃ q, q ≠ p ∧ u.farEnd[q] = some id
  formed    : ∀ (p : Port) id, u.record[p].accepted = some id → traceWellFormed id = true

/-! ## The alarm unit (R168, R170 to R172) -/

/-- The relays of a severity as R170 and R171 give them for a count. -/
def Relays.right (r : Relays) (count : Nat) : Prop :=
  (r.visual = true ↔ count ≠ 0) ∧ (r.audible = true ↔ r.visual = true ∧ r.cutOff = false)
  ∧ (r.cutOff = true → count ≠ 0)

/-- ALARM-CHANGE is held exactly while a change latch is set (R172); in FOLLOW every relay shows what is counted (R170, R171);
in ALL-ALARM every relay shows alarm; the place of point 255 reads 0 (R168). -/
structure State.AlarmSound (s : State) : Prop where
  change   : s.alarm.alarmChange = true ↔ s.alarm.latched ≠ 0
  follow   : s.alarm.mode = .follow →
    s.alarm.critical.right (s.countOf .critical) ∧ s.alarm.major.right (s.countOf .major)
    ∧ s.alarm.minor.right (s.countOf .minor)
  allAlarm : s.alarm.mode = .allAlarm →
    s.alarm.critical = Relays.alarm ∧ s.alarm.major = Relays.alarm ∧ s.alarm.minor = Relays.alarm
  spare    : s.alarm.raised.getLsbD 255 = false ∧ s.alarm.latched.getLsbD 255 = false

/-! ## The timing unit (R148, R149, R152, R156 to R158) -/

/-- Within the working range of a frequency offset. -/
def inRange (i : Int) : Prop := -9999 ≤ i ∧ i ≤ 9999

/-- The generator tracks only a selected AVAILABLE slot, bridges only a selected SETTLING one, and has none in FREE-RUN and
HOLDOVER (R152); its offset, the slots' and the history's stay in range; a qualify timer runs only in QUALIFYING (R149); a gate in progress has
counted fewer pulses than complete it (R148); the history holds at most four entries (R158). -/
structure Timing.Sound (t : Timing) : Prop where
  tracking : t.gen.tracking = true → ∃ i, t.selected = some i ∧ t.slot[i].state = .available
  bridging : t.gen = .bridging →
    (∃ i, t.selected = some i ∧ t.slot[i].state = .settling) ∧ ∃ g, t.noted = some g ∧ g.tracking = true
  idle     : t.gen = .freeRun ∨ t.gen = .holdover → t.selected = none
  freeRun  : t.gen = .freeRun → t.offset = 0
  holdover : t.gen = .holdover → t.history ≠ [] ∧ t.offset = meanToZero t.history
  offset   : inRange t.offset
  slots    : ∀ i : SlotId, inRange t.slot[i].lastOffset
  qualify  : ∀ i : SlotId, t.slot[i].qualify ≠ none → t.slot[i].measured = .qualifying
  gates    : ∀ (i : SlotId) n, t.slot[i].gate = some n → n < 1000
  history  : t.history.length ≤ 4 ∧ ∀ v ∈ t.history, inRange v
  interval : t.partialCount < 480
    ∧ -(9999 * (t.partialCount : Int)) ≤ t.partialSum ∧ t.partialSum ≤ 9999 * (t.partialCount : Int)
  learning : t.gen ≠ .lockedFine → t.partialCount = 0

/-! ## The command unit (R126, R140) -/

/-- The window runs only in AWAIT-CONFIRM; a command is pending only in AWAIT-CONFIRM, where it is an operate command that
passed the form check, and in EXECUTING, where it is RESTART and the start check is under way. -/
structure State.MailboxSound (s : State) : Prop where
  window    : s.mailbox.window.isSome = true ↔ s.mailbox.state = .awaitConfirm
  pending   : s.mailbox.pending.isSome = true ↔ s.mailbox.state = .awaitConfirm ∨ s.mailbox.state = .executing
  operate   : s.mailbox.state = .awaitConfirm → ∃ w c, s.mailbox.pending = some w ∧ formCheck w = some c ∧ c.operate = true
  executing : s.mailbox.state = .executing →
    s.path.op = .startCheck ∧ ∃ w, s.mailbox.pending = some w ∧ formCheck w = some .restart

/-! ## The switch driver (R115, R116) -/

/-- The meanings of the states of an element while the drive is on (R115). -/
def Element.right (el : Element) : Prop :=
  match el.state with
  | .settled => el.sensed = some el.commanded ∧ el.travel = none
  | .travelling => el.sensed ≠ some el.commanded ∧ el.travel.isSome = true
  | .faulted => el.sensed ≠ some el.commanded ∧ el.travel = none

/-- The drive is on exactly in RUNNING, and while it is on every element means what its state says. -/
structure State.DriveSound (s : State) : Prop where
  on       : s.driver.on = true ↔ s.path.op = .running
  elements : s.driver.on = true → ∀ e : ElementId, (s.element e).right

/-! ## The group table (R74, R75) -/

/-- The number a port field of a group holds: word 1 is the protect port, words 2 to 5 the working ports. -/
def State.portFieldOf (s : State) (g : GroupId) (j : Fin 5) : Nat := bits s.group[g].config[j.val + 1] 0 6

/-- The number an element field of a group holds: the selector, or the bridge. -/
def State.elementFieldOf (s : State) (g : GroupId) (bridge : Bool) : Nat :=
  bits s.group[g].config[6] (if bridge then 8 else 0) 6

/-- Every port field names a port or none, no port is named twice, every named port is monitored, a channel count is 1 to 4, and
a channel above the count names none; every element field names an element or none, and no element is named twice. -/
structure State.TableSound (s : State) : Prop where
  portRange    : ∀ g j, s.portFieldOf g j < 24 ∨ s.portFieldOf g j = 63
  portOnce     : ∀ g j g' j', s.portFieldOf g j ≠ 63 → s.portFieldOf g j = s.portFieldOf g' j' → g = g' ∧ j = j'
  monitored    : ∀ g j (p : Port), s.portFieldOf g j = p.val → s.sup.kind p ≠ .none
  counts       : ∀ g : GroupId, 1 ≤ GroupConfig.count s.group[g].config ∧ GroupConfig.count s.group[g].config ≤ 4
  count        : ∀ (g : GroupId) (k : ChannelIx), GroupConfig.count s.group[g].config < k.val + 1 →
    GroupConfig.working s.group[g].config k = none
  elementRange : ∀ g b, s.elementFieldOf g b < 32 ∨ s.elementFieldOf g b = 63
  elementOnce  : ∀ g b g' b', s.elementFieldOf g b ≠ 63 → s.elementFieldOf g b = s.elementFieldOf g' b' → g = g' ∧ b = b'

/-- The group table is sound, and in LOADING it stays so with the value of a write-back that waits (R7, R16). -/
structure State.GroupsDisjoint (s : State) : Prop where
  table : s.TableSound
  due   : ∀ b, s.path.op = .loading → s.path.writeBack = some b → (s.setHeld b.word b.value).TableSound

/-! ## The event queue (R175) -/

/-- The queue holds at most 16 events; the poster is IDLE only with an empty queue, and POSTING or BUSY only with an event
at its head (R179, R182). -/
def Poster.QueueSound (p : Poster) : Prop :=
  p.queue.length ≤ 16 ∧ (p.state = .idle → p.queue = []) ∧ (p.state = .posting ∨ p.state = .busy → p.queue ≠ [])

/-! ## The memory port (R11, R13, R175, R196) -/

/-- Who holds the port: the memory path in the start check, in LOADING and while a read-back is owed, the poster exactly while it
is POSTING in RUNNING, and no one otherwise. A processor cycle is held in STANDBY only for a read-back and in RUNNING only for
the poster. Overflow-pending is set only with 15 or 16 events queued, and with 15 the cycle granted to the poster has found it
set. The ring-change flag is set in RUNNING only in BUSY or DISABLED, and the wrap-fault flag never in DISABLED. -/
structure State.PortSound (s : State) : Prop where
  queue    : s.poster.QueueSound
  loading  : s.path.op = .startCheck ∨ s.path.op = .loading → s.path.grant = some .memoryPath
  standby  : s.path.op = .standby →
    (s.path.readBackOwed = true → s.path.grant = some .memoryPath)
    ∧ (s.path.readBackOwed = false → s.path.grant = none ∧ s.path.held = [])
  running  : s.path.op = .running →
    (s.poster.state = .posting → ∃ b, s.path.grant = some (.poster b))
    ∧ (s.poster.state ≠ .posting → s.path.grant = none ∧ s.path.held = [])
  overflow : s.poster.overflow = true → 15 ≤ s.poster.queue.length
  granted  : s.path.op = .running → s.poster.state = .posting → s.poster.overflow = true → s.poster.queue.length = 15 →
    s.path.grant = some (.poster true)
  stopped  : s.path.op ≠ .running → s.poster.state = .disabled
  change   : s.path.op = .running → s.poster.ringChange = true → s.poster.state = .busy ∨ s.poster.state = .disabled
  wrap     : s.poster.state = .disabled → s.poster.wrapFault = false

end Sys2Proof.Machine
end

