-- ==== Sys2Proof/Certificates/Slice0/Obligations.lean ====
section
/-! DEFINITION. The statements for the provers, and the words they are stated in. -/

namespace Sys2Proof.Claims

open Sys2Proof.Machine

/-! ## Frames -/

/-- `t` is `u` in every field but the one that says who holds the memory port, which `PortGranted` states (R11). -/
def Regranted (u t : State) : Prop := ∃ g, t = { u with path := { u.path with grant := g } }

/-- The memory port is free (R11): neither a master cycle nor a processor's is under way. -/
def PortFree (s : State) : Prop := s.path.grant = none

/-- `u` with one memory word written by lanes (R1, R4, R8) and nothing else changed. -/
def wrote (u : State) (offset : Nat) (lanes : Lanes) (data : Word) : State := u.memWrite (u.imageAddr offset) lanes data

/-- The word is upstream on the lanes read (R5, R9). -/
def DrivenOnLanes (t : State) (l : Lanes) (w : Word) : Prop :=
  (l ≠ .high → (t.path.upstream.extractLsb' 0 8 : Byte) = w.extractLsb' 0 8)
  ∧ (l ≠ .low → (t.path.upstream.extractLsb' 8 8 : Byte) = w.extractLsb' 8 8)

/-- Every group but `g` is as it was. -/
def OtherGroups (s t : State) (g : GroupId) : Prop := ∀ h : GroupId, h ≠ g → t.group[h] = s.group[h]

/-! ## Reset values -/

/-- A port record after a reset (R35, R51, R63), with the monitor kind NONE. -/
def freshRecord (r : PortRecord) : Prop :=
  r.presence = .present ∧ r.caps = none ∧ r.lol = [] ∧ r.power = [] ∧ smoothedPower r.power = none
  ∧ r.grade = .unmonitored ∧ r.cause = none ∧ r.reduced = false ∧ r.candidate = none ∧ r.run = 0 ∧ r.accepted = none
  ∧ r.trace = .unchecked ∧ r.maintenance = false

/-- A group record after a reset (R97, R113). -/
def freshGroup (r : Group) : Prop :=
  (∀ k : ChannelIx, r.channel[k].raised = .clear ∧ r.channel[k].holdOff = none ∧ r.channel[k].request = .clear)
  ∧ r.pfail = false ∧ r.stored = none ∧ r.entry = none ∧ r.restoreWait = none ∧ r.top = ⟨0, 0⟩ ∧ r.winner = ⟨0, 0⟩
  ∧ r.source = .local ∧ r.conditions = ⟨false, false, false, false, false, false⟩ ∧ r.evaluated = false
  ∧ r.candidate = none ∧ r.run = 0 ∧ r.accepted = none ∧ r.confirmation = none ∧ r.invalidWord = false
  ∧ r.timeout = false ∧ r.unusable = false

/-- The configuration every owner holds until the loader loads it (R20, R32, R33, R37, R44, R45, R51, R54, R78, R142, R163,
R173, R178). -/
def freshConfiguration (t : State) : Prop :=
  t.scan.shelfNumber = 0 ∧ t.alarm.mask = 0 ∧ t.poster.ringBase = 0 ∧ t.poster.ringSize = 2
  ∧ (∀ k : Fin 22, t.alarm.profile[k] = 0)
  ∧ (∀ (n : Fin 8) (j : Fin 4), t.sup.calibration[n][j] = 0)
  ∧ (∀ p : Port, PortConfig.kind t.sup.config[p] = .none ∧ PortConfig.action t.sup.config[p] = false
      ∧ PortConfig.expected t.sup.config[p] = 0 ∧ PortConfig.fail t.sup.config[p] = -500
      ∧ PortConfig.degrade t.sup.config[p] = -500 ∧ PortConfig.overload t.sup.config[p] = 100
      ∧ PortConfig.hysteresis t.sup.config[p] = 0 ∧ PortConfig.calibrationSet t.sup.config[p] = 0
      ∧ PortConfig.persistence t.sup.config[p] = 5)
  ∧ (∀ g : GroupId, GroupConfig.kind t.group[g].config = .none ∧ GroupConfig.count t.group[g].config = 1
      ∧ (∀ j : Fin 5, t.portFieldOf g j = 63) ∧ (∀ b, t.elementFieldOf g b = 63)
      ∧ GroupConfig.revertive t.group[g].config = false ∧ GroupConfig.degradeSwitches t.group[g].config = false
      ∧ GroupConfig.holdOff t.group[g].config = 0 ∧ GroupConfig.restoreWait t.group[g].config = 5)
  ∧ (∀ i : SlotId, slotPriority t.timing.config[i] = 0 ∧ slotLimit t.timing.config[i] = 120
      ∧ bits t.timing.config[i][2] 0 6 = 10 ∧ slotLossWindow t.timing.config[i] = 4)
  ∧ (∀ l : LineId, t.timing.sources[l] = 0xFC00)

/-- What both resets leave in the blocks other than the memory path, the command unit, the switch driver, the generator and
the relays. -/
def freshBlocks (t : State) : Prop :=
  freshConfiguration t
  ∧ (∀ p : Port, t.scan.transmit[p] = 0) ∧ t.scan.round = none ∧ t.scan.faultedRun = 0 ∧ t.scan.scanFault = false
  ∧ t.scan.processed = 0
  ∧ (∀ p : Port, freshRecord t.sup.record[p]) ∧ (∀ p : Port, t.sup.farEnd[p] = none) ∧ t.sup.rounds = []
  ∧ (∀ g : GroupId, freshGroup t.group[g])
  ∧ (∀ i : SlotId, t.timing.slot[i] = ⟨.disabled, .lost, none, none, none, false, none, none, 0⟩)
  ∧ t.timing.forced = none ∧ t.timing.selected = none ∧ t.timing.partialCount = 0 ∧ t.timing.partialSum = 0
  ∧ t.alarm.raised = 0 ∧ t.alarm.latched = 0 ∧ t.alarm.ringBusy = false ∧ t.alarm.commandDone = false
  ∧ t.alarm.alarmChange = false ∧ t.alarm.eventPosted = false
  ∧ t.poster.queue = [] ∧ t.poster.overflow = false ∧ t.poster.state = .disabled ∧ t.poster.index = 0
  ∧ t.poster.ringChange = false ∧ t.poster.wrapFault = false

/-- The state the spec gives after a power-on, in every block (R14, R124, R126, R143, R161, R170, R171, R177, R183). -/
def AfterPowerOn (t : State) : Prop :=
  freshBlocks t
  ∧ t.path.op = .startCheck ∧ loaderOrder[t.path.loaderAt]? = some .shelfNumber ∧ t.path.writeBack = none
  ∧ t.path.readBackOwed = false ∧ t.path.held = []
  ∧ t.mailbox.state = .ready ∧ t.mailbox.pending = none ∧ t.mailbox.window = none ∧ t.mailbox.lastResult = .none
  ∧ t.mailbox.lastCode = 0 ∧ t.mailbox.count = 0
  ∧ t.driver.on = false
  ∧ (∀ e : ElementId, (t.element e).commanded = 0 ∧ (t.element e).state = .settled ∧ (t.element e).travel = none)
  ∧ t.timing.stationKind = 0 ∧ t.timing.gen = .freeRun ∧ t.timing.offset = 0 ∧ t.timing.history = []
  ∧ t.alarm.mode = .allAlarm ∧ t.alarm.critical = ⟨true, true, false⟩ ∧ t.alarm.major = ⟨true, true, false⟩
  ∧ t.alarm.minor = ⟨true, true, false⟩
  ∧ t.poster.shelfTime = 0

/-- The base addresses of R2. -/
def baseIs (straps : BitVec 2) (a : Addr) : Prop :=
  (straps = 0 → a = 0x00000#19) ∧ (straps = 1 → a = 0x10000#19) ∧ (straps = 2 → a = 0x40000#19)
  ∧ (straps = 3 → a = 0x7F000#19)

/-- The command unit when a start check ends: a restart's values if one was under way (R126, R140). -/
def startCheckEnds (m : Mailbox) : Mailbox :=
  if m.state = .executing then ⟨.ready, none, none, .restarted, 11, m.count + 1, true⟩ else m

/-! ## The start of RUNNING (R17, R95, R100, R123) -/

/-- At the start of RUNNING a complete group is adopted on channel `k`: its selector is sensed there, and the channel has a
working port (R95). -/
def AdoptsAt (s : State) (g : GroupId) (k : ChannelIx) : Prop :=
  GroupConfig.complete s.group[g].config = true ∧ GroupConfig.working s.group[g].config k ≠ none
  ∧ (∃ (e : ElementId) (p : Position), GroupConfig.selector s.group[g].config = some e
      ∧ (s.element e).sensed = some p ∧ p.val = k.val + 1)
  ∧ ((GroupConfig.kind s.group[g].config = .paired ∧ k = 0)
      ∨ (GroupConfig.kind s.group[g].config = .shared ∧ k.val + 1 ≤ GroupConfig.count s.group[g].config))

/-- What adoption gives a group (R95): the entry of the adopted channel with no timer started, or none, as winner and local top
request; ON PROTECT from the adopted selector; and the word of a SHARED group set for its protect port (R100). -/
def Adopted (s t : State) (g : GroupId) : Prop :=
  (∀ k : ChannelIx, AdoptsAt s g k →
    t.group[g].entry = some (if GroupConfig.kind s.group[g].config = .paired
        ∧ GroupConfig.revertive s.group[g].config = false then .stay else .wait k)
    ∧ t.group[g].winner.level = 1 ∧ t.group[g].winner.channel.val = k.val + 1)
  ∧ ((∀ k : ChannelIx, ¬ AdoptsAt s g k) → t.group[g].entry = none ∧ t.group[g].winner = ⟨0, 0⟩)
  ∧ t.group[g].top = t.group[g].winner ∧ t.group[g].restoreWait = s.group[g].restoreWait
  ∧ t.group[g].evaluated = s.group[g].evaluated
  ∧ (t.group[g].conditions.onProtect = true ↔ ∃ (e : ElementId) (p : Position),
      GroupConfig.selector s.group[g].config = some e ∧ (s.element e).sensed = some p ∧ p ≠ 0)
  ∧ (∀ (p : Port) (b : Nat), s.TableSound → GroupConfig.kind s.group[g].config = .shared →
      GroupConfig.protect s.group[g].config = some p →
      ((∃ (e : ElementId) (q : Position), GroupConfig.bridge s.group[g].config = some e ∧ (s.element e).sensed = some q
          ∧ q.val ≤ GroupConfig.count s.group[g].config ∧ b = q.val)
        ∨ ((∀ (e : ElementId) (q : Position), GroupConfig.bridge s.group[g].config = some e → (s.element e).sensed = some q →
            GroupConfig.count s.group[g].config < q.val) ∧ b = 0)) →
      t.scan.transmit[p] = wordOf (t.group[g].top.level + 16 * t.group[g].top.channel + 256 * b))

/-- RUNNING has begun, with the last watched word held at `e` and memory `m`. -/
def RunningBegun (s t : State) (w : Watched) (e : Word) (m : Memory) : Prop :=
  t.path.op = .running ∧ t.path.mem = m ∧ t.pointRaised (.part 0) = false
  ∧ t.heldWord w = e ∧ (∀ w', w' ≠ w → t.heldWord w' = s.heldWord w')
  ∧ t.driver.on = true
  ∧ (∀ (e : ElementId) (p : Position), (s.element e).sensed = some p → t.element e = ⟨p, some p, .settled, none⟩)
  ∧ (∀ e : ElementId, (s.element e).sensed = none → t.element e = ⟨0, none, .travelling, some (s.now + 400)⟩)
  ∧ (∀ g : GroupId, Adopted s t g)
  ∧ t.scan.round = some ⟨0, .waiting, []⟩
  ∧ t.poster.ringChange = false ∧ t.mailbox.restartOwed = false

/-! ## Events (R175, R176) -/

/-- The last event put by a step is the one given, or it was lost with overflow-pending set. -/
def LastEvent (t : State) (object : Nat) (d : Detail) : Prop :=
  t.poster.queue.getLast? = some ⟨object, d, t.poster.shelfTime⟩ ∨ t.poster.overflow = true

/-- The COMMAND event and result recorded last by a step (R134). -/
def Recorded (s t : State) (code : BitVec 4) (object : Nat) (r : CommandResult) : Prop :=
  t.mailbox.lastResult = r ∧ t.mailbox.lastCode = code ∧ t.mailbox.count = s.mailbox.count + 1
  ∧ LastEvent t object (.command code r) ∧ t.alarm.commandDone = true

/-! ## Watched words -/

/-- The watched word, the lanes and the data of a watched-word write: one line for each row of the table. -/
def watchedWriteOf : Instr → Option (Watched × Lanes × Word)
  | .shelfNumberWrite l d => some (.shelfNumber, l, d)
  | .attentionMaskWrite l d => some (.attentionMask, l, d)
  | .ringBaseWrite l d => some (.ringBase, l, d)
  | .ringSizeWrite l d => some (.ringSize, l, d)
  | .alarmProfileWrite k l d => some (.profile k, l, d)
  | .calibrationWrite n j l d => some (.calibration n j, l, d)
  | .monitorKindWrite p l d => some (.port p 0, l, d)
  | .expectedTraceWrite p l d => some (.port p 1, l, d)
  | .thresholdWrite p .fail l d => some (.port p 2, l, d)
  | .thresholdWrite p .degrade l d => some (.port p 3, l, d)
  | .thresholdWrite p .overload l d => some (.port p 4, l, d)
  | .hysteresisWrite p l d => some (.port p 5, l, d)
  | .calibrationSetWrite p l d => some (.port p 6, l, d)
  | .persistenceWrite p l d => some (.port p 7, l, d)
  | .groupKindWrite g l d => some (.group g 0, l, d)
  | .groupMemberWrite g j l d => some (.group g ⟨j + 1, by omega⟩, l, d)
  | .groupPolicyWrite g l d => some (.group g 7, l, d)
  | .slotConfigurationWrite i j l d => some (.slot i j, l, d)
  | .slotSourceWrite l' l d => some (.source l', l, d)
  | .stationInputKindWrite l d => some (.stationKind, l, d)
  | _ => none

/-- The screening of a word that holds one unsigned number, clamped into `lo` to `hi`. -/
def ClampsNumber (s : State) (w : Watched) (lo hi : Nat) : Prop :=
  ∀ v, v ≠ s.heldWord w →
    (v.toNat < lo → s.screen w v = (.clamped, wordOf lo)) ∧ (hi < v.toNat → s.screen w v = (.clamped, wordOf hi))
    ∧ (lo ≤ v.toNat ∧ v.toNat ≤ hi → s.screen w v = (.accepted, v))

/-- The screening of a word that holds one power, clamped into -500 to +100. -/
def ClampsPower (s : State) (w : Watched) : Prop :=
  ∀ v, v ≠ s.heldWord w →
    (v.toInt < -500 → s.screen w v = (.clamped, signedWord (-500))) ∧ (100 < v.toInt → s.screen w v = (.clamped, 100))
    ∧ (-500 ≤ v.toInt ∧ v.toInt ≤ 100 → s.screen w v = (.accepted, v))

/-- A verdict of ACCEPTED or CLAMPED as the effective value is the value written or not. -/
def taken (e v : Word) : Verdict × Word := (if e = v then .accepted else .clamped, e)

/-- A ring of `size` descriptors from `base` times 8 has a word in the shelf image (R178). -/
def overlaps (s : State) (base size : Nat) : Prop :=
  ∃ k, k < 4 * size ∧ s.base.toNat ≤ 8 * base + k ∧ 8 * base + k ≤ s.base.toNat + 0xFFF

/-- A port is named by a field of a group, as protect port or as a working port. -/
def Named (s : State) (p : Port) : Prop := ∃ g j, s.portFieldOf g j = p.val

/-! ## The memory port (R11) -/

/-- The poster's rows, each with what its cycle does and the steps of a posting it makes (R12). -/
def posterRows : List (Instr × (State → State) × List PostStep) :=
  [(.descriptorWord0Read, State.readWord0, [.readWord0]),
   (.descriptorWordWrite, State.writeWord, [.writeWord1, .writeWord2, .writeWord3]),
   (.descriptorWord0Write, State.writeWord0, [.writeWord0])]

/-! ## What accepted changes bring (R33, R34, R43, R62, R77, R100, R106, R122) -/

/-- A record after a change of its port's monitor kind (R34), under the port's configuration. -/
def KindChanged (old new : MonitorKind) (cfg : Vector Word 8) (r x : PortRecord) : Prop :=
  (new = .none ∨ old = .none → x = { r with
      presence := .present, caps := none, lol := [], power := [], cause := none, reduced := false, accepted := none
      candidate := none, run := 0, grade := if new = .none then .unmonitored else .unknown
      trace := if new = .power then .awaiting else .unchecked })
  ∧ (old = .power → new = .lolOnly → ∃ g c, x = { r with
        power := [], reduced := false, accepted := none, candidate := none, run := 0, trace := .unchecked, grade := g, cause := c }
      ∧ g = gradeDecision cfg { r with power := [] }
      ∧ (g ≠ .failed → c = none) ∧ (g = .failed → c = if r.grade = .failed then r.cause else some .light))
  ∧ (old = .lolOnly → new = .power → x = { r with
      power := [], accepted := none, candidate := none, run := 0, trace := .awaiting })

/-- A channel's grade condition under a configuration (R80). -/
def gradeCond (s : State) (cfg : Vector Word 8) (k : ChannelIx) : Condition :=
  match GroupConfig.working cfg k with
  | none => .clear
  | some q =>
    if s.sup.record[q].grade = .failed then .fail
    else if (s.sup.record[q].grade = .degraded ∨ s.sup.record[q].grade = .overload)
      ∧ GroupConfig.degradeSwitches cfg = true then .degrade
    else .clear

/-! ## A group's update (R79 to R93, R103, R104, R108, R110) -/

/-- CROSS-SHELF is raised (R65): every member has an identity, and the far-end shelf of some working port is not the protect port's. -/
def CrossShelf (s : State) (c : Vector Word 8) : Prop :=
  ∃ (p : Port) (id : Word), GroupConfig.kind c ≠ .none ∧ GroupConfig.protect c = some p
    ∧ s.sup.record[p].accepted = some id ∧ id ≠ 0
    ∧ (∀ (k : ChannelIx) (q : Port), GroupConfig.working c k = some q → ∃ w, s.sup.record[q].accepted = some w ∧ w ≠ 0)
    ∧ ∃ (k : ChannelIx) (q : Port) (w : Word), GroupConfig.working c k = some q ∧ s.sup.record[q].accepted = some w
      ∧ w.toNat / 32 % 1024 ≠ id.toNat / 32 % 1024

/-- SWAPPED is raised (R66). -/
def Swapped (s : State) (c : Vector Word 8) : Prop :=
  ∃ (p q : Port) (k : ChannelIx), GroupConfig.kind c ≠ .none ∧ GroupConfig.protect c = some p ∧ GroupConfig.working c k = some q
    ∧ s.sup.config[p][1] ≠ 0 ∧ s.sup.config[q][1] ≠ 0 ∧ s.sup.record[q].accepted = some s.sup.config[p][1]
    ∧ s.sup.record[p].accepted = some s.sup.config[q][1]

/-- The protect port of a configuration is FAILED. -/
def ProtectFailed (s : State) (c : Vector Word 8) : Prop :=
  ∃ p : Port, GroupConfig.protect c = some p ∧ s.sup.record[p].grade = .failed

/-- The bridge protocol is unusable: the last capabilities of the protect port of a SHARED group lack OVERHEAD (R104; that it ends
when the capabilities become absent is the model's choice, log entry 46). -/
def Unusable (s : State) (c : Vector Word 8) : Prop :=
  GroupConfig.kind c = .shared ∧ ∃ p a, GroupConfig.protect c = some p ∧ s.sup.record[p].caps = some a ∧ a.overhead = false

/-- A group holds PFAIL (R68, R83; its case of an unusable protocol is as log entry 46 chooses). -/
def HoldsPfail (s : State) (c : Vector Word 8) : Prop :=
  GroupConfig.complete c = true
  ∧ (ProtectFailed s c
    ∨ (∃ p : Port, GroupConfig.protect c = some p ∧ (s.sup.record[p].maintenance = true
        ∨ s.sup.record[p].trace = .mismatch ∨ s.sup.record[p].trace = .duplicate))
    ∨ CrossShelf s c ∨ Unusable s c)

/-- A channel's raised grade request, hold-off timer and condition request after an update (R67, R80, R82; log entry 35): a grade
condition that is new starts the hold-off, or is raised at once with a hold-off of 0. -/
def ChannelMet (s : State) (c : Vector Word 8) (k : ChannelIx) (r x : Channel) : Prop :=
  let cond := gradeCond s c k
  let due : Prop := r.holdOff = none ∧ (cond = .fail ∧ r.raised ≠ .fail ∨ cond = .degrade ∧ r.raised = .clear)
  let action : Prop := ∃ q : Port, GroupConfig.working c k = some q ∧ PortConfig.action s.sup.config[q] = true
    ∧ (s.sup.record[q].trace = .mismatch ∨ s.sup.record[q].trace = .duplicate)
  (cond = .clear → x.raised = .clear ∧ x.holdOff = none)
  ∧ (cond ≠ .clear → r.holdOff ≠ none → x.raised = r.raised ∧ x.holdOff = r.holdOff)
  ∧ (due → GroupConfig.holdOff c = 0 → x.raised = cond ∧ x.holdOff = none)
  ∧ (due → GroupConfig.holdOff c ≠ 0 → x.raised = r.raised ∧ x.holdOff = some (s.now + 800 * GroupConfig.holdOff c))
  ∧ (cond ≠ .clear → r.holdOff = none → r.raised = cond ∨ (cond = .degrade ∧ r.raised = .fail) →
      x.raised = cond ∧ x.holdOff = none)
  ∧ (action → x.request = .fail) ∧ (¬ action → x.request = x.raised)

/-- A group holds an automatic request above WAIT and STAY: PFAIL, or a FAIL or DEGRADE of a channel (R79). -/
def HeldCondition (r : Group) (q : Request) : Prop :=
  GroupConfig.complete r.config = true
  ∧ ((r.pfail = true ∧ q = ⟨6, 0⟩)
    ∨ ∃ k : ChannelIx, q.channel.val = k.val + 1
      ∧ ((r.channel[k].request = .fail ∧ q.level = 4) ∨ (r.channel[k].request = .degrade ∧ q.level = 3)))

/-- A group holds a local request (R79): of its stored command, of its conditions, or of its WAIT or STAY entry. -/
def Held (r : Group) (q : Request) : Prop :=
  HeldCondition r q
  ∨ (GroupConfig.complete r.config = true
    ∧ ((r.stored = some .bar ∧ q = ⟨7, 0⟩) ∨ (r.entry = some .stay ∧ q = ⟨1, 1⟩)
      ∨ ∃ k : ChannelIx, q.channel.val = k.val + 1 ∧ ((r.stored = some (.force k) ∧ q.level = 5)
        ∨ (r.stored = some (.manual k) ∧ q.level = 2) ∨ (r.entry = some (.wait k) ∧ q.level = 1))))

/-- The WAIT or STAY entry and its timer after an update that is no first evaluation (R87, R88). -/
def EntrySettled (s : State) (r x : Group) : Prop :=
  let high : Prop := ∃ q, Held x q ∧ 2 ≤ q.level.val
  let waits : Prop := GroupConfig.kind r.config = .shared ∨ GroupConfig.revertive r.config = true
  let own (k : ChannelIx) : Prop := r.evaluated = true ∧ GroupConfig.complete r.config = true
    ∧ r.source = .local ∧ (r.winner.level = 3 ∨ r.winner.level = 4) ∧ r.winner.channel.val = k.val + 1
    ∧ x.channel[k].request = .clear
    ∧ ∃ e : ElementId, GroupConfig.selector r.config = some e ∧ (s.element e).commanded.val = k.val + 1
  (high → x.entry = none ∧ x.restoreWait = none)
  ∧ (¬ high → r.entry ≠ none → x.entry = r.entry ∧ x.restoreWait = r.restoreWait)
  ∧ (∀ k, ¬ high → r.entry = none → own k →
      (waits → x.entry = some (.wait k) ∧ x.restoreWait = some (s.now + 480000 * GroupConfig.restoreWait r.config))
      ∧ (¬ waits → x.entry = some .stay ∧ x.restoreWait = r.restoreWait))
  ∧ (¬ high → r.entry = none → (∀ k, ¬ own k) → x.entry = none ∧ x.restoreWait = r.restoreWait)

/-- What an update makes of the requests a group holds (R80 to R83, R86, R103, R104), from its record before to its record after. The
unusable cause and the PFAIL held for it are those of log entry 46, the model's choice. -/
def RequestsMet (s : State) (r x : Group) : Prop :=
  x.config = r.config ∧ (∀ k : ChannelIx, ChannelMet s r.config k r.channel[k] x.channel[k])
  ∧ (x.pfail = true ↔ HoldsPfail s r.config) ∧ (x.unusable = true ↔ Unusable s r.config)
  ∧ ((∃ q, HeldCondition x q) → ∀ k, r.stored = some (.manual k) → x.stored = none)
  ∧ ((∀ q, ¬ HeldCondition x q) ∨ (∀ k, r.stored ≠ some (.manual k)) → x.stored = r.stored)
  ∧ (ProtectFailed s r.config ∨ Unusable s r.config → x.candidate = none ∧ x.run = 0 ∧ x.accepted = none)
  ∧ (¬ ProtectFailed s r.config → ¬ Unusable s r.config →
      x.candidate = r.candidate ∧ x.run = r.run ∧ x.accepted = r.accepted)

/-- The confirmation timer and the timeout cause after an evaluation (R110). -/
def Confirmed (s : State) (r x : Group) : Prop :=
  let far : Nat := match x.accepted with | some w => w.toNat / 256 % 8 | none => 0
  let apart : Prop := GroupConfig.kind r.config = .shared ∧ 1 ≤ x.winner.level.val ∧ x.winner.level.val ≤ 5
    ∧ far ≠ x.winner.channel.val
  (¬ apart → x.confirmation = none ∧ x.timeout = false)
  ∧ (apart → x.timeout = r.timeout)
  ∧ (apart → r.timeout = true → x.confirmation = r.confirmation)
  ∧ (∀ n, apart → r.timeout = false → r.confirmation = some (x.winner.channel, n) → x.confirmation = r.confirmation)
  ∧ (apart → r.timeout = false → (∀ n, r.confirmation ≠ some (x.winner.channel, n)) →
      x.confirmation = some (x.winner.channel, s.now + 1600))

/-- The points of a group follow its record's conditions (R93). -/
def GroupPoints (t : State) (g : GroupId) : Prop :=
  t.pointRaised (.group g 0) = t.group[g].conditions.protectUnavailable
  ∧ t.pointRaised (.group g 1) = t.group[g].conditions.onProtect
  ∧ t.pointRaised (.group g 2) = t.group[g].conditions.crossShelf
  ∧ t.pointRaised (.group g 3) = t.group[g].conditions.swapped
  ∧ t.pointRaised (.group g 4) = t.group[g].conditions.protocolFailure
  ∧ t.pointRaised (.group g 5) = t.group[g].conditions.switchFault

/-- The conditions of a group other than ON PROTECT, by the record and the elements after an update (R65, R66, R83, R93, R111). -/
def ConditionsMet (s t : State) (g : GroupId) : Prop :=
  let x := t.group[g]
  (x.conditions.protectUnavailable = true ↔ x.pfail = true
    ∨ (GroupConfig.kind x.config ≠ .none ∧ GroupConfig.complete x.config = false))
  ∧ (x.conditions.crossShelf = true ↔ CrossShelf s x.config) ∧ (x.conditions.swapped = true ↔ Swapped s x.config)
  ∧ (x.conditions.protocolFailure = true ↔ GroupConfig.kind x.config = .shared
      ∧ (x.invalidWord = true ∨ x.timeout = true ∨ x.unusable = true))
  ∧ (x.conditions.switchFault = true ↔ t.driver.on = true ∧ ∃ e : ElementId, (t.element e).state = .faulted
      ∧ (GroupConfig.selector x.config = some e ∨ GroupConfig.bridge x.config = some e))

/-! ## What an accepted change of a group brings -/

/-- What an accepted change of a group's configuration from `old` to `new` brings the group (R77, R100, R106, R122). -/
def GroupChanged (s t : State) (g : GroupId) (old new : Vector Word 8) : Prop :=
  t.group[g].config = new ∧ OtherGroups s t g ∧ t.sup = s.sup
  -- a changed working port
  ∧ (∀ k : ChannelIx, GroupConfig.working old k ≠ GroupConfig.working new k →
      (gradeCond s new k = .clear ∨ GroupConfig.holdOff new = 0 →
        t.group[g].channel[k].raised = gradeCond s new k ∧ t.group[g].channel[k].holdOff = none)
      ∧ (gradeCond s new k ≠ .clear → GroupConfig.holdOff new ≠ 0 →
        t.group[g].channel[k].raised = .clear
        ∧ t.group[g].channel[k].holdOff = some (s.now + 800 * GroupConfig.holdOff new)))
  -- a new protocol
  ∧ (GroupConfig.kind old = .shared ∨ GroupConfig.kind new = .shared →
      GroupConfig.kind old ≠ GroupConfig.kind new ∨ GroupConfig.count old ≠ GroupConfig.count new
        ∨ GroupConfig.protect old ≠ GroupConfig.protect new →
      t.group[g].candidate = none ∧ t.group[g].run = 0 ∧ t.group[g].accepted = none ∧ t.group[g].invalidWord = false
      ∧ t.group[g].timeout = false ∧ (∀ k n, t.group[g].confirmation = some (k, n) → n = s.now + 1600)
      ∧ (t.group[g].unusable = true ↔ GroupConfig.kind new = .shared ∧ ∃ p c, GroupConfig.protect new = some p
          ∧ s.sup.record[p].caps = some c ∧ c.overhead = false))
  -- the transmit words
  ∧ (∀ p : Port, GroupConfig.kind old = .shared → GroupConfig.protect old = some p →
      ¬ (GroupConfig.kind new = .shared ∧ GroupConfig.protect new = some p) → t.scan.transmit[p] = 0)
  ∧ (∀ p : Port, GroupConfig.kind new = .shared → GroupConfig.protect new = some p →
      bridgeRequest t.scan.transmit[p] = t.group[g].top)
  -- a changed revertive flag
  ∧ (GroupConfig.kind new = .paired → t.group[g].top.level.val < 2 →
      (GroupConfig.revertive old = false → GroupConfig.revertive new = true → s.group[g].entry = some .stay →
        t.group[g].entry = some (.wait 0) ∧ t.group[g].restoreWait =
          if s.group[g].evaluated then some (s.now + 480000 * GroupConfig.restoreWait new) else none)
      ∧ (∀ k, GroupConfig.revertive old = true → GroupConfig.revertive new = false → s.group[g].entry = some (.wait k) →
        t.group[g].entry = some .stay ∧ t.group[g].restoreWait = none))
  -- newly named elements
  ∧ (∀ e : ElementId, s.driver.on = true →
      (GroupConfig.selector new = some e ∧ GroupConfig.selector old ≠ some e)
        ∨ (GroupConfig.bridge new = some e ∧ GroupConfig.bridge old ≠ some e) → (s.element e).state = .faulted →
      s.pointRaised (.group g 5) = true ∨ t.pointLatched (.group g 5) = true)
  ∧ (∀ e : ElementId, s.driver.on = true → GroupConfig.selector new = some e → GroupConfig.selector old ≠ some e →
      (s.element e).state = .settled → (s.element e).commanded ≠ 0 →
      s.pointRaised (.group g 1) = true ∨ t.pointLatched (.group g 1) = true)

/-! ## Traces (R56 to R61) -/

/-- The trace state of an identity a port holds, by its expected trace (R58). -/
def heldState (u : Supervisor) (p : Port) (id : Word) : TraceState :=
  if u.config[p][1] = 0 then .free else if u.config[p][1] = id then .matched else .mismatch

/-- The traced case of an update of port `p` that receives the trace `id` (R56 to R61): the run of receptions, and acceptance after
the persistence's number of them in a row. An accepted trace gives up the old map entry, with the promotion of its lowest-numbered
duplicate, and is then entered, or found held by another port. -/
def TraceTaken (u v : Supervisor) (p : Port) (id : Word) : Prop :=
  let r := u.record[p]
  let x := v.record[p]
  let accepts : Prop := x.run = u.config[p][7].toNat % 16 ∧ r.accepted ≠ some id
  x.candidate = some id
  ∧ x.run = (if r.candidate = some id then min (u.config[p][7].toNat % 16) (r.run + 1) else 1)
  ∧ (¬ accepts → x.accepted = r.accepted ∧ v.farEnd = u.farEnd
      ∧ x.trace = if r.accepted = none then .awaiting else r.trace)
  ∧ (accepts → x.accepted = some id ∧ (id = 0 → x.trace = .silent ∧ v.farEnd[p] = none))
  ∧ (accepts → id ≠ 0 → u.MapSound →
      ((∃ q : Port, q ≠ p ∧ u.farEnd[q] = some id) → x.trace = .duplicate ∧ v.farEnd[p] = none)
      ∧ ((∀ q : Port, q ≠ p → u.farEnd[q] ≠ some id) → x.trace = heldState u p id ∧ v.farEnd[p] = some id))
  ∧ (∀ (old : Word) (q : Port), accepts → u.MapSound → u.farEnd[p] = some old →
      u.record[q].trace = .duplicate → u.record[q].accepted = some old →
      (∀ q' : Port, u.record[q'].trace = .duplicate → u.record[q'].accepted = some old → q.val ≤ q'.val) →
      v.farEnd[q] = some old ∧ v.record[q] = { u.record[q] with trace := heldState u q old })

/-! ## The timing unit's decisions (R144 to R146, R150) -/

/-- The drive is on and an element is SETTLED at a position. -/
def SettledAt (s : State) (e : ElementId) (x : Position) : Prop :=
  s.driver.on = true ∧ (s.element e).state = .settled ∧ (s.element e).commanded = x

/-- The source port of a line slot is decided, and is the one given (R144). -/
def SourceIs (s : State) (l : LineId) (p : Option Port) : Prop :=
  (s.timing.sources[l].toNat % 4 = 0 ∧ p = none)
  ∨ (s.timing.sources[l].toNat % 4 = 2 ∧ ((∃ q : Port, s.timing.sources[l].toNat / 1024 = q.val ∧ p = some q)
      ∨ (24 ≤ s.timing.sources[l].toNat / 1024 ∧ p = none)))
  ∨ (∃ (g : GroupId) (k : ChannelIx) (c : Vector Word 8), s.timing.sources[l].toNat % 4 = 1
      ∧ s.timing.sources[l].toNat / 32 % 16 = g.val ∧ s.timing.sources[l].toNat / 4 % 8 = k.val + 1
      ∧ c = s.group[g].config
      ∧ (((GroupConfig.kind c = .none ∨ GroupConfig.count c < k.val + 1 ∨ GroupConfig.working c k = none) ∧ p = none)
        ∨ (GroupConfig.kind c ≠ .none ∧ k.val + 1 ≤ GroupConfig.count c ∧ GroupConfig.working c k ≠ none
          ∧ ((GroupConfig.selector c = none ∧ p = GroupConfig.working c k)
            ∨ ∃ (e : ElementId) (x : Position), GroupConfig.selector c = some e ∧ SettledAt s e x
              ∧ ((GroupConfig.kind c = .paired ∧ (x.val = 0 → p = GroupConfig.working c k)
                  ∧ (x.val = 1 → p = GroupConfig.protect c) ∧ (2 ≤ x.val → p = none))
                ∨ (GroupConfig.kind c = .shared ∧ (x.val = k.val + 1 → p = GroupConfig.protect c)
                  ∧ (x.val ≠ k.val + 1 → p = GroupConfig.working c k)))))))

/-- An element is reported in a state: the drive is on and its record shows it. -/
def ShownAs (s : State) (e : ElementId) (state : ElementState) : Prop := s.driver.on = true ∧ (s.element e).state = state

/-- What a line slot's record becomes at a decision of its source port `p` at time `now` (R145; log entries 22, 24, 25). -/
def Decides (r x : Slot) (disabled travels : Prop) (p : Option Port) (now : Nat) : Prop :=
  x.source = p
  ∧ (¬ disabled → p ≠ r.source →
      x.settling = true ∧ x.settle = some (now + 4000) ∧ x.qualify = none ∧ x.loss = none ∧ x.gate = none)
  ∧ (¬ disabled → p = r.source → r.settling = true → r.settle = none → (travels → x.settling = true)
      ∧ (¬ travels → x.settling = false ∧ x.settle = none))
  ∧ (¬ disabled → p = r.source → r.settle ≠ none → x.settling = r.settling ∧ x.settle = r.settle)

/-- A slot's record with its state decided afresh (R146, R161), by the first line that applies. That a source condition other than a
FAULTED selector leaves the measured state and the qualify timer of a SETTLING slot as R145 keeps them is the model's reading (log
entry 36). -/
def StateDecided (s : State) (i : SlotId) (r x : Slot) : Prop :=
  let off : Prop := slotPriority s.timing.config[i] = 0
  let lost : Slot := { r with state := .lost, measured := .lost, qualify := none }
  (off → x = { r with
      state := .disabled, measured := .lost, qualify := none, loss := none, gate := none, settling := false, settle := none })
  ∧ (¬ off → s.path.op ≠ .running → x = lost)
  ∧ (¬ off → s.path.op = .running → i.val < 2 → x = { r with state := r.measured.shown })
  ∧ (∀ (l : LineId) (faulted bad unfit : Prop), ¬ off → s.path.op = .running → i.val = l.val + 2 →
      (faulted ↔ ∃ e, s.sourceSelector l = some e ∧ ShownAs s e .faulted) →
      (bad ↔ r.source = none ∨ ∃ p, r.source = some p ∧ s.sup.record[p].grade = .failed) →
      (unfit ↔ ∃ p, r.source = some p ∧ (s.sup.record[p].maintenance = true ∨ s.sup.record[p].trace = .mismatch
        ∨ s.sup.record[p].trace = .duplicate ∨ s.sup.kind p = .none)) →
      (faulted → x = lost)
      ∧ (¬ faulted → r.settling = true → x = { r with state := .settling })
      ∧ (¬ faulted → r.settling = false → bad → x = lost)
      ∧ (¬ faulted → r.settling = false → ¬ bad → unfit →
          x = { r with state := .disqualified, measured := .disqualified, qualify := none })
      ∧ (¬ faulted → r.settling = false → ¬ bad → ¬ unfit → x = { r with state := r.measured.shown }))

/-- A slot may be selected (R150): AVAILABLE, or SETTLING and selected before. -/
def Eligible (before : Option SlotId) (t : Timing) (i : SlotId) : Prop :=
  t.slot[i].state = .available ∨ (t.slot[i].state = .settling ∧ before = some i)

/-- The selection R150 gives: a forced slot if it is eligible, and with no force the eligible slot of best priority, of the lower
index among equals. -/
def Selects (before : Option SlotId) (t : Timing) : Prop :=
  (∀ f, t.forced = some f → (Eligible before t f → t.selected = some f) ∧ (¬ Eligible before t f → t.selected = none))
  ∧ (t.forced = none → ∀ i, t.selected = some i ↔ Eligible before t i ∧ ∀ j, Eligible before t j → j ≠ i →
      slotPriority t.config[i] < slotPriority t.config[j]
      ∨ (slotPriority t.config[i] = slotPriority t.config[j] ∧ i.val < j.val))

/-- How the generator goes on from `a` to `b`, with the slots and the selection of `b` (R155 to R158). -/
def Follows (a b : Timing) : Prop :=
  let tracks : Prop := a.gen = .acquiring ∨ a.gen = .locked ∨ a.gen = .lockedFine
  let idle : Prop := a.gen = .freeRun ∨ a.gen = .holdover
  let kept : Prop := b.offset = a.offset ∧ b.history = a.history
  let discarded : Prop := b.partialCount = 0 ∧ b.partialSum = 0
  -- a slot is selected from FREE-RUN or HOLDOVER, or another slot than before: ACQUIRING from the offset as it stands
  (∀ i, b.selected = some i → idle ∨ a.selected ≠ some i → b.gen = .acquiring ∧ b.lockCount = 0 ∧ kept ∧ discarded)
  -- the slot tracked is SETTLING: BRIDGING, with the state left noted; otherwise tracking goes on
  ∧ (∀ i, b.selected = some i → a.selected = some i → tracks →
      (b.slot[i].state = .settling → b.gen = .bridging ∧ b.noted = some a.gen ∧ kept ∧ discarded)
      ∧ (b.slot[i].state ≠ .settling → b.gen = a.gen ∧ b.lockCount = a.lockCount ∧ kept
          ∧ b.partialCount = a.partialCount ∧ b.partialSum = a.partialSum))
  -- BRIDGING lasts while the slot is SETTLING, and returns to the noted state
  ∧ (∀ i, b.selected = some i → a.selected = some i → a.gen = .bridging →
      (b.slot[i].state = .settling → b.gen = .bridging ∧ b.noted = a.noted ∧ kept)
      ∧ (∀ g, b.slot[i].state ≠ .settling → a.noted = some g → b.gen = g ∧ b.lockCount = 0 ∧ kept))
  -- the loss rule
  ∧ (b.selected = none → tracks ∨ a.gen = .bridging → discarded ∧ b.history = a.history.tail
      ∧ (a.history.tail = [] → b.gen = .freeRun ∧ b.offset = 0)
      ∧ (a.history.tail ≠ [] → b.gen = .holdover
          ∧ b.offset = Int.tdiv a.history.tail.sum a.history.tail.length))
  ∧ (b.selected = none → idle → b.gen = a.gen ∧ kept)

/-- The slot points and the generator points follow the timing unit (R159). -/
def TimingPoints (t : State) : Prop :=
  (∀ i : SlotId,
    (t.pointRaised (.slot i 0) = true ↔ slotPriority t.timing.config[i] ≠ 0 ∧ t.timing.slot[i].state = .lost)
    ∧ (t.pointRaised (.slot i 1) = true ↔ slotPriority t.timing.config[i] ≠ 0 ∧ t.timing.slot[i].state = .disqualified))
  ∧ (t.pointRaised (.generator 0) = true ↔ t.timing.gen = .holdover)
  ∧ (t.pointRaised (.generator 1) = true ↔ t.timing.gen = .freeRun ∧ ∃ i : SlotId, slotPriority t.timing.config[i] ≠ 0)
  ∧ (t.pointRaised (.generator 2) = true ↔ t.timing.gen = .acquiring)

/-- The events a timing step puts in the queue `q` (R151, R159): one TIMING event if the generator's state or the selection ended
differently from how it began, and ALARM events. An event that finds no room is lost. -/
def TimingReported (began t : State) (q : List Event) (stamp : Word) : Prop :=
  t.poster.overflow = false → ∃ l, (∀ e ∈ l, ∃ k v c m, e.detail = .alarm k v c m)
    ∧ t.poster.queue = q ++ (if t.timing.gen = began.timing.gen ∧ t.timing.selected = began.timing.selected then []
        else [⟨0, .timing t.timing.gen t.timing.selected, stamp⟩]) ++ l

/-- The points of a port follow its record (R27, R50, R69). -/
def PortPoints (s : State) (p : Port) : Prop :=
  let r := s.sup.record[p]
  (s.pointRaised (.port p 0) = true ↔ r.grade = .failed ∧ r.cause = some .light)
  ∧ (s.pointRaised (.port p 1) = true ↔ r.grade = .degraded) ∧ (s.pointRaised (.port p 2) = true ↔ r.grade = .overload)
  ∧ (s.pointRaised (.port p 3) = true ↔ r.presence = .absent) ∧ (s.pointRaised (.port p 4) = true ↔ r.trace = .mismatch)
  ∧ (s.pointRaised (.port p 5) = true ↔ r.trace = .duplicate) ∧ (s.pointRaised (.port p 6) = true ↔ r.reduced = true)

/-! ## Live words (R186, R187, R193 to R196) -/

/-- The live port word of a kind and a record. -/
def PortShown (k : MonitorKind) (r : PortRecord) (w : Word) : Prop :=
  w.toNat % 4 = (match k with | .none => 0 | .lolOnly => 1 | .power => 2)
  ∧ w.toNat / 4 % 4 = (match r.presence with | .present => 0 | .missedOnce => 1 | .absent => 2)
  ∧ w.getLsbD 4 = r.caps.isSome ∧ (w.getLsbD 5 = true ↔ ∃ c, r.caps = some c ∧ c.power = true)
  ∧ (w.getLsbD 6 = true ↔ ∃ c, r.caps = some c ∧ c.overhead = true) ∧ w.getLsbD 7 = false
  ∧ w.toNat / 256 % 8 = (match r.grade with
      | .unknown => 0 | .good => 1 | .degraded => 2 | .overload => 3 | .failed => 4 | .unmonitored => 5)
  ∧ w.getLsbD 11 = r.reduced
  ∧ w.toNat / 4096 % 8 = (match r.trace with
      | .unchecked => 0 | .silent => 1 | .awaiting => 2 | .free => 3 | .matched => 4 | .mismatch => 5 | .duplicate => 6)
  ∧ w.getLsbD 15 = r.maintenance

/-- The slot word of a priority and a record. -/
def SlotShown (priority : Nat) (r : Slot) (w : Word) : Prop :=
  w.toNat % 16 = (match r.state with
      | .disabled => 0 | .lost => 1 | .disqualified => 2 | .qualifying => 3 | .available => 4 | .settling => 5)
  ∧ w.toNat / 16 % 16 = (match r.measured with | .lost => 0 | .qualifying => 1 | .disqualified => 2 | .available => 3)
  ∧ w.toNat / 256 = priority

/-- The code of a selected or forced slot. -/
def slotShown (i : Option SlotId) : Nat := match i with | none => 7 | some i => i.val

/-- The generator word. -/
def GeneratorShown (t : Timing) (w : Word) : Prop :=
  w.toNat % 16 = (match t.gen with
      | .freeRun => 0 | .acquiring => 1 | .locked => 2 | .lockedFine => 3 | .holdover => 4 | .bridging => 5)
  ∧ w.toNat / 16 % 16 = slotShown t.selected ∧ w.toNat / 256 % 8 = slotShown t.forced
  ∧ w.toNat / 2048 % 8 = t.history.length ∧ w.toNat / 16384 = t.stationKind.toNat % 4

/-- The group state word and the group request word of a record. -/
def GroupShown (r : Group) (state request : Word) : Prop :=
  state.toNat % 8 = r.winner.level.val ∧ state.toNat / 8 % 8 = r.winner.channel.val ∧ state.getLsbD 6 = r.evaluated
  ∧ state.getLsbD 7 = false ∧ state.getLsbD 8 = r.conditions.protectUnavailable
  ∧ state.getLsbD 9 = r.conditions.onProtect ∧ state.getLsbD 10 = r.conditions.crossShelf
  ∧ state.getLsbD 11 = r.conditions.swapped ∧ state.getLsbD 12 = r.conditions.protocolFailure
  ∧ state.getLsbD 13 = r.conditions.switchFault ∧ state.toNat / 16384 = 0
  ∧ request.toNat % 8 = r.top.level.val ∧ request.toNat / 8 % 8 = r.top.channel.val
  ∧ request.toNat / 64 % 4 = (match r.stored with | none => 0 | some .bar => 1 | some (.force _) => 2 | some (.manual _) => 3)
  ∧ request.toNat / 256 % 8 = (match r.stored with
      | none => 0 | some .bar => 0 | some (.force k) => k.val + 1 | some (.manual k) => k.val + 1)
  ∧ request.toNat / 2048 % 4 = (match r.entry with | none => 0 | some (.wait _) => 1 | some .stay => 2)
  ∧ request.toNat / 8192 = (match r.entry with | none => 0 | some (.wait k) => k.val + 1 | some .stay => 1)

/-- The poster word (R183, R196). -/
def PosterShown (p : Poster) (w : Word) : Prop :=
  w.toNat % 256 = p.index
  ∧ (p.overflow = false → w.toNat / 256 % 32 = p.queue.length)
  ∧ (p.overflow = true → p.queue.length = 16 → w.toNat / 256 % 32 = 17)
  ∧ (p.overflow = true → p.queue.length = 15 → w.toNat / 256 % 32 = 18)
  ∧ w.toNat / 8192 = (match p.state, p.ringChange, p.wrapFault with
      | .idle, _, false => 0 | .idle, _, true => 1 | .posting, _, false => 0 | .posting, _, true => 1
      | .busy, false, false => 2 | .busy, false, true => 3 | .busy, true, false => 4 | .busy, true, true => 5
      | .disabled, false, _ => 6 | .disabled, true, _ => 7)

/-- The two summary words (R169, R195), and which points count (R167). -/
def SummaryShown (s : State) (w0 w1 : Word) : Prop :=
  w0.toNat % 256 = s.countOf .critical ∧ w0.toNat / 256 = s.countOf .major ∧ w1.toNat % 256 = s.countOf .minor
  ∧ w1.getLsbD 8 = s.alarm.critical.visual ∧ w1.getLsbD 9 = s.alarm.major.visual ∧ w1.getLsbD 10 = s.alarm.minor.visual
  ∧ w1.getLsbD 11 = s.alarm.critical.audible ∧ w1.getLsbD 12 = s.alarm.major.audible
  ∧ w1.getLsbD 13 = s.alarm.minor.audible
  ∧ w1.toNat / 16384 = (match s.alarm.mode with | .follow => 0 | .hold => 1 | .allAlarm => 2)
  ∧ (∀ (v : Severity) (pt : Point), s.counted v pt = true ↔ s.pointRaised pt = true
      ∧ (s.profileOf pt).toNat % 4 = (match v with | .minor => 1 | .major => 2 | .critical => 3)
      ∧ ∀ (p : Port) (k : Fin 7), pt = .port p k → s.sup.record[p].maintenance = false)

/-- STATUS (R133, R187). -/
def StatusShown (m : Mailbox) (w : Word) : Prop :=
  w.toNat % 4 = (match m.state with | .ready => 0 | .awaitConfirm => 1 | .executing => 2 | .blocked => 3)
  ∧ w.toNat / 4 % 16 = (match m.lastResult with
      | .none => 0 | .done => 1 | .lapsed => 2 | .refusedLevel => 3 | .refusedState => 4 | .refusedInvalid => 5
      | .confirmMismatch => 6 | .access => 7 | .byteWrite => 8 | .blocked => 9 | .strayConfirm => 10 | .restarted => 11)
  ∧ w.toNat / 64 % 16 = m.lastCode.toNat ∧ w.toNat / 1024 = m.count.toNat

/-! ## Commands -/

/-- The command word of a code, an object and a channel, with its spare bits zero (R187). -/
def wordOfCommand (code object channel : Nat) : Word := wordOf (code + 16 * object + 1024 * channel)

/-- The operate commands in their right form, and the word each writes. -/
def operateWord : Instr → Option Word
  | .bar o k x => if x = 0 then some (wordOfCommand 1 o.toNat k.toNat) else none
  | .force o k x => if x = 0 then some (wordOfCommand 2 o.toNat k.toNat) else none
  | .manual o k x => if x = 0 then some (wordOfCommand 3 o.toNat k.toNat) else none
  | .forceRef o k x => if x = 0 ∧ k = 0 then some (wordOfCommand 5 o.toNat 0) else none
  | .maint o k x => if x = 0 ∧ k = 0 then some (wordOfCommand 7 o.toNat 0) else none
  | .restart o k x => if x = 0 ∧ k = 0 ∧ o = 0 then some (wordOfCommand 11 0 0) else none
  | _ => none

/-- The command words that fail the form check, with their code, the object recorded, which is 0 for a command without an object
(R134), and their word. -/
def badForm : Instr → Option (BitVec 4 × Nat × Word)
  | .bar o k x => if x ≠ 0 then some (1, o.toNat, commandWord 1 o k x) else none
  | .force o k x => if x ≠ 0 then some (2, o.toNat, commandWord 2 o k x) else none
  | .manual o k x => if x ≠ 0 then some (3, o.toNat, commandWord 3 o k x) else none
  | .clear o k x => if x ≠ 0 then some (4, o.toNat, commandWord 4 o k x) else none
  | .forceRef o k x => if x ≠ 0 ∨ k ≠ 0 then some (5, o.toNat, commandWord 5 o k x) else none
  | .clearRef o k x => if x ≠ 0 ∨ k ≠ 0 ∨ o ≠ 0 then some (6, 0, commandWord 6 o k x) else none
  | .maint o k x => if x ≠ 0 ∨ k ≠ 0 then some (7, o.toNat, commandWord 7 o k x) else none
  | .release o k x => if x ≠ 0 ∨ k ≠ 0 then some (8, o.toNat, commandWord 8 o k x) else none
  | .resume o k x => if x ≠ 0 ∨ k ≠ 0 ∨ o ≠ 0 then some (9, 0, commandWord 9 o k x) else none
  | .aco o k x => if x ≠ 0 ∨ k ≠ 0 ∨ o ≠ 0 then some (10, 0, commandWord 10 o k x) else none
  | .restart o k x => if x ≠ 0 ∨ k ≠ 0 ∨ o ≠ 0 then some (11, 0, commandWord 11 o k x) else none
  | .unknownCommandWrite d =>
    if d.toNat % 16 = 0 ∨ 12 ≤ d.toNat % 16 then some (d.extractLsb' 0 4, d.toNat / 16 % 64, d) else none
  | _ => none

/-- Every command word written to COMMAND, with its code, object and word. -/
def commandWriteOf : Instr → Option (BitVec 4 × Nat × Word)
  | .bar o k x => some (1, o.toNat, commandWord 1 o k x)
  | .force o k x => some (2, o.toNat, commandWord 2 o k x)
  | .manual o k x => some (3, o.toNat, commandWord 3 o k x)
  | .clear o k x => some (4, o.toNat, commandWord 4 o k x)
  | .forceRef o k x => some (5, o.toNat, commandWord 5 o k x)
  | .clearRef o k x => some (6, o.toNat, commandWord 6 o k x)
  | .maint o k x => some (7, o.toNat, commandWord 7 o k x)
  | .release o k x => some (8, o.toNat, commandWord 8 o k x)
  | .resume o k x => some (9, o.toNat, commandWord 9 o k x)
  | .aco o k x => some (10, o.toNat, commandWord 10 o k x)
  | .restart o k x => some (11, o.toNat, commandWord 11 o k x)
  | .unknownCommandWrite d => some (d.extractLsb' 0 4, d.toNat / 16 % 64, d)
  | _ => none

/-- The abandoned command of AWAIT-CONFIRM: its code and its object. -/
def pendingCode (s : State) : BitVec 4 := (s.mailbox.pending.getD 0).extractLsb' 0 4
def pendingObject (s : State) : Nat := (s.mailbox.pending.getD 0).toNat / 16 % 64

/-- The mailbox BLOCKED with a result recorded and no command pending (R129, R131, R132). -/
def BlockedWith (s t : State) (code : BitVec 4) (object : Nat) (r : CommandResult) : Prop :=
  t.mailbox.state = .blocked ∧ t.mailbox.pending = none ∧ t.mailbox.window = none ∧ Recorded s t code object r

/-- The answer of R84's table to a BAR, FORCE or MANUAL of channel `n` for a group, none for DONE: the first test that applies.
The levels are BAR 7, FORCE 5, MANUAL 2; the automatic requests are PFAIL, FAIL, DEGRADE, WAIT and STAY. -/
def answer84 (r : Group) (c : StoredKind) (n : Nat) : Option CommandResult :=
  let level := match c with | .bar => 7 | .force => 5 | .manual => 2
  if GroupConfig.kind r.config = .none then some .refusedState
  else if (c = .bar ∧ n ≠ 0) ∨ (c ≠ .bar ∧ (n = 0 ∨ GroupConfig.count r.config < n)) then some .refusedInvalid
  else if GroupConfig.complete r.config = false ∨ r.evaluated = false then some .refusedState
  else if ∃ k : ChannelIx, c ≠ .bar ∧ k.val + 1 = n ∧ GroupConfig.working r.config k = none then some .refusedState
  else if (∃ x ∈ r.automaticRequests, level ≤ x.level.val) ∨ (∃ st, r.stored = some st ∧ level < st.request.level.val) then
    some .refusedLevel
  else none

/-- The command a kind and a channel store (R79). -/
def stores (c : StoredKind) (n : Nat) (st : Stored) : Prop :=
  (c = .bar ∧ st = .bar) ∨ (∃ k : ChannelIx, k.val + 1 = n ∧ ((c = .force ∧ st = .force k) ∨ (c = .manual ∧ st = .manual k)))

/-- A mailbox write left every block but the mailbox, the alarm unit and the poster as it was, and memory but for the one
word written. -/
def MailboxOnly (s t : State) (offset : Nat) (lanes : Lanes) (data : Word) : Prop :=
  ∃ m a p, Regranted { wrote s offset lanes data with mailbox := m, alarm := a, poster := p } t

end Sys2Proof.Claims

section
open Sys2Proof Sys2Proof.Machine Sys2Proof.Claims

/-! ## The queue of commands, resets and loading -/

/-- A step takes the command at the front of the queue and is its meaning on the state with the queue's rest. -/
def Obligations.StepRunsFront : Prop :=
  ∀ (c : Instr) (rest : List Instr) (s : State), s.pending = c :: rest → step s = exec c { s with pending := rest }

/-- `State.reset` holds, in every block, what the spec gives after a power-on. -/
def Obligations.ResetValues : Prop := AfterPowerOn State.reset

/-- POWER_ON leaves every block with its power-on values and takes the image base from the straps; shelf memory, the sense
outputs and the commands waiting, which are outside the part, stay (log entry 40 for what the modules repeat). -/
def Obligations.PowerOnResets : Prop :=
  ∀ (straps : BitVec 2) (s : State), ∃ t, exec (.powerOn straps) s = .next t
    ∧ AfterPowerOn t ∧ t.path.straps = straps ∧ baseIs straps t.base ∧ t.path.mem = s.path.mem
    ∧ (∀ e : ElementId, (t.element e).sensed = (s.element e).sensed) ∧ t.pending = s.pending

/-- START_CHECK with IMAGE READY reading 0x0001 enters LOADING at the first watched word of the header, processor cycles stay
held and nothing else changes; with any other word it enters STANDBY, when no processor cycle is held: all six relays show
alarm, the cut-offs clear and IMAGE NOT READY is raised. Either end gives the command unit a restart's values (R126), and the
DISABLED poster's RING FORMAT rises (R181; that it is handed over then is the model's reading, log entry 13). -/
def Obligations.StartCheckEnds : Prop :=
  loaderOrder[0]? = some .shelfNumber
  ∧ (∀ s u : State, s.path.op = .startCheck → s.poster.state = .disabled →
    u = State.setPoint { s with mailbox := startCheckEnds s.mailbox } (.part 2) true →
    (s.memWord (s.imageAddr 1) = 1 → ∃ t, exec .startCheck s = .next t
      ∧ Regranted { u with
          path := { s.path with op := .loading, loaderAt := 0, writeBack := none, readBackOwed := false } } t
      ∧ t.pointRaised (.part 2) = true)
    ∧ (s.memWord (s.imageAddr 1) ≠ 1 → s.path.held = [] → ∃ t, exec .startCheck s = .next t
      ∧ Regranted (State.setPoint { u with
          path := { s.path with op := .standby }
          alarm := { u.alarm with
            mode := .allAlarm, critical := ⟨true, true, false⟩, major := ⟨true, true, false⟩, minor := ⟨true, true, false⟩ } }
          (.part 0) true) t
      ∧ t.pointRaised (.part 0) = true ∧ t.pointRaised (.part 2) = true))

/-- LOADER_READ: a word whose effective value is the word read is taken by its owner and the loader moves on; one whose
effective value differs waits for its write-back, and nothing else changes. -/
def Obligations.LoaderReads : Prop :=
  ∀ (s : State) (w : Watched) (v : Verdict) (e : Word),
    s.path.op = .loading → s.path.writeBack = none → loaderOrder[s.path.loaderAt]? = some w →
    s.screen w (s.memWord (s.imageAddr w.offset)) = (v, e) →
    (e = s.memWord (s.imageAddr w.offset) → s.path.loaderAt + 1 < loaderOrder.length →
      ∃ t, exec .loaderRead s = .next t
        ∧ t.heldWord w = e ∧ (∀ w', w' ≠ w → t.heldWord w' = s.heldWord w')
        ∧ (∃ g, t.path = { s.path with loaderAt := s.path.loaderAt + 1, writeBack := none, grant := g })
        ∧ t.mailbox = s.mailbox)
    ∧ (e ≠ s.memWord (s.imageAddr w.offset) →
      ∃ t, exec .loaderRead s = .next t ∧ Regranted { s with path := { s.path with writeBack := some ⟨w, e, v⟩ } } t)

/-- LOADER_WRITE_BACK writes the effective value on both lanes, the owner takes it, a verdict other than ACCEPTED puts its
PROVISION event, and the loader moves on; the write-back of the last word is stated in RunningBegins. That the PROVISION event stands
after the events of the owner's taking is the model's choice (log entry 16). -/
def Obligations.LoaderWritesBack : Prop :=
  ∀ (s : State) (w : Watched) (v : Verdict) (e : Word),
    s.path.op = .loading → s.path.writeBack = some ⟨w, e, v⟩ → s.path.loaderAt + 1 < loaderOrder.length →
    ∃ t, exec .loaderWriteBack s = .next t
      ∧ t.heldWord w = e ∧ (∀ w', w' ≠ w → t.heldWord w' = s.heldWord w')
      ∧ (∃ g, t.path = { s.path with
          mem := Memory.writeLanes s.path.mem (s.imageAddr w.offset) .word e
          loaderAt := s.path.loaderAt + 1, writeBack := none, grant := g })
      ∧ (v ≠ .accepted → LastEvent t w.object (.provision w.offset v))
      ∧ t.mailbox = s.mailbox

/-- The read of the last watched word, or its write-back where one was due, ends LOADING and RUNNING begins, when no processor
cycle is held (R17): IMAGE NOT READY clears, every element is adopted where it is sensed, each group takes adoption before any
evaluation (R95) and sets the word of a SHARED group (R100), the first round begins, and memory and the held values stand. The
travel time is 400 periods of the model's clock (log entry 2). -/
def Obligations.RunningBegins : Prop :=
  ∀ (s : State) (w : Watched) (v : Verdict),
    s.path.op = .loading → s.path.loaderAt + 1 = loaderOrder.length → loaderOrder[s.path.loaderAt]? = some w →
    s.path.held = [] →
    (s.path.writeBack = none →
      s.screen w (s.memWord (s.imageAddr w.offset)) = (v, s.memWord (s.imageAddr w.offset)) →
      ∃ t, exec .loaderRead s = .next t ∧ RunningBegun s t w (s.memWord (s.imageAddr w.offset)) s.path.mem)
    ∧ (∀ e, s.path.writeBack = some ⟨w, e, v⟩ →
      ∃ t, exec .loaderWriteBack s = .next t
        ∧ RunningBegun s t w e (Memory.writeLanes s.path.mem (s.imageAddr w.offset) .word e))

/-- IMAGE_READY_WRITE reaches memory on the lanes written, the memory port being free: in STANDBY it owes a read-back, in RUNNING
nothing follows. IMAGE_READY_READ_BACK enters LOADING on 0x0001, the cycles held waiting on, and otherwise, with no cycle held,
leaves STANDBY as it was. -/
def Obligations.ImageReady : Prop :=
  (∀ (l : Lanes) (d : Word) (s : State), s.path.op = .standby → s.path.readBackOwed = false → PortFree s →
    ∃ t, exec (.imageReadyWrite l d) s = .next t
      ∧ Regranted { wrote s 1 l d with path := { (wrote s 1 l d).path with readBackOwed := true } } t)
  ∧ (∀ (l : Lanes) (d : Word) (s : State), s.path.op = .running → PortFree s →
    ∃ t, exec (.imageReadyWrite l d) s = .next t ∧ Regranted (wrote s 1 l d) t)
  ∧ (∀ s : State, s.path.op = .standby → s.path.readBackOwed = true → s.memWord (s.imageAddr 1) = 1 →
    ∃ t, exec .imageReadyReadBack s = .next t
      ∧ Regranted { s with path := { s.path with
          op := .loading, loaderAt := 0, writeBack := none, readBackOwed := false } } t)
  ∧ (∀ s : State, s.path.op = .standby → s.path.readBackOwed = true → s.memWord (s.imageAddr 1) ≠ 1 → s.path.held = [] →
    ∃ t, exec .imageReadyReadBack s = .next t ∧ Regranted { s with path := { s.path with readBackOwed := false } } t)

/-! ## Processor cycles -/

/-- PASS_WRITE to a word that is no image word but PASS reaches memory on the lanes written, in RUNNING and in STANDBY, and
every other word of memory and every other field stays. In STANDBY every image word is served so (R3): a write to a watched,
mailbox, live or change word reaches memory as written and no owner is told (R15, R141), and a read of a change word or of
IDENTIFICATION returns memory. The memory port is free (R11), and a write to IMAGE READY is stated apart (ImageReady). -/
def Obligations.PassWrites : Prop :=
  (∀ (a : Addr) (l : Lanes) (d : Word) (s : State), s.path.mem.wf = true → classify s.base a = none → PortFree s →
    s.path.op = .running ∨ (s.path.op = .standby ∧ s.path.readBackOwed = false) →
    ∃ t, exec (.passWrite a l d) s = .next t
      ∧ t.memWord a = mergeLanes l (s.memWord a) d ∧ (∀ b, b ≠ a → t.memWord b = s.memWord b)
      ∧ Regranted { s with path := { s.path with mem := t.path.mem } } t)
  ∧ (∀ (c : Instr) (y : Cycle) (a : Addr) (s : State), cycleOf c = some y → PortFree s →
    s.path.op = .standby → s.path.readBackOwed = false →
    (y.place = .addr a ∧ classify s.base a ≠ some (.trigger .imageReady)
      ∨ ∃ w, y.place = .image w ∧ w ≠ .trigger .imageReady ∧ a = s.imageAddr w.offset) →
    (y.write = true → ∃ t, exec c s = .next t ∧ Regranted (s.memWrite a y.lanes y.data) t)
    ∧ (y.write = false → ∃ t, exec c s = .next t
      ∧ DrivenOnLanes t y.lanes (s.memWord a) ∧ Regranted { s with path := { s.path with upstream := t.path.upstream } } t))

/-- A word outside the image is no image word, and the image words lie at their offsets and nowhere else: an address is
classed as a word exactly when it is the base plus that word's offset (R1, R185 to R193). -/
def Obligations.ImageMap : Prop :=
  (∀ base a : Addr, base.toNat + 0xFFF < 2 ^ 19 → a.toNat < base.toNat ∨ base.toNat + 0xFFF < a.toNat →
    classify base a = none)
  ∧ (∀ (base a : Addr) (w : ImageWord), base.toNat + 0xFFF < 2 ^ 19 →
    (classify base a = some w ↔ a.toNat = base.toNat + w.offset))

/-- LIVE words in RUNNING (R9). A write to one other than SHELF TIME and STATUS, or to a CHANGE word, is absorbed: nothing
changes. A read of one other than IDENTIFICATION puts its word upstream on the lanes read and changes nothing else. The words show
the state by their layouts: IDENTITY, the condition words, the port words, the slot words and the generator words (R36, R69, R160,
R168, R186, R193); the others are laid out in StatusWrites, AudibleCutOff, BridgeWords, EventsAndResults, ShelfTime and
IdentificationRead. -/
def Obligations.AbsorbedWrites : Prop :=
  (∀ (a : Addr) (l : Lanes) (d : Word) (s : State), s.path.op = .running →
    (∃ v, classify s.base a = some (.live v) ∧ v ≠ .shelfTime ∧ v ≠ .status) ∨ (∃ w, classify s.base a = some (.change w)) →
    ∃ t, exec (.passWrite a l d) s = .next t ∧ Regranted s t)
  ∧ (∀ (v : LiveWord) (l : Lanes) (s : State), v ≠ .identification →
    DrivenOnLanes (s.readLive v l) l (s.liveWord v)
    ∧ s.readLive v l = { s with path := { s.path with upstream := (s.readLive v l).path.upstream } })
  ∧ (∀ s : State,
    ((s.liveWord .identity).toNat % 4 = s.path.straps.toNat
      ∧ (s.path.op = .standby → (s.liveWord .identity).toNat / 4 % 4 = 1)
      ∧ (s.path.op = .running → (s.liveWord .identity).toNat / 4 % 4 = 3) ∧ (s.liveWord .identity).toNat / 256 = 0x2C)
    ∧ (∀ (w b : Fin 16), (s.liveWord (.condition w)).getLsbD b.val = s.alarm.raised.getLsbD (16 * w.val + b.val))
    ∧ (∀ p : Port, PortShown (s.sup.kind p) s.sup.record[p] (s.liveWord (.port p))
      ∧ (smoothedPower s.sup.record[p].power = none → (s.liveWord (.smoothed p)).toInt = -32768)
      ∧ (∀ v, smoothedPower s.sup.record[p].power = some v → -500 ≤ v → v ≤ 100 → (s.liveWord (.smoothed p)).toInt = v)
      ∧ (s.sup.record[p].accepted = none → s.liveWord (.acceptedTrace p) = 0xFFFF)
      ∧ (∀ x, s.sup.record[p].accepted = some x → s.liveWord (.acceptedTrace p) = x))
    ∧ (∀ i : SlotId, SlotShown (s.timing.config[i][0].toNat % 8) s.timing.slot[i] (s.liveWord (.slot i)))
    ∧ (s.timing.Sound → GeneratorShown s.timing (s.liveWord .generator)
      ∧ (s.liveWord .generatorOffset).toInt = s.timing.offset
      ∧ (∀ i : SlotId, (s.liveWord (.slotOffset i)).toInt = s.timing.slot[i].lastOffset)))

/-- In the start check and in LOADING every processor cycle waits on the ready line, whatever its class, and nothing else
happens. -/
def Obligations.CyclesHeld : Prop :=
  ∀ (c : Instr) (y : Cycle) (s : State), cycleOf c = some y → s.path.op = .startCheck ∨ s.path.op = .loading →
    ∃ t, exec c s = .next t ∧ Regranted { s with path := { s.path with held := s.path.held ++ [y] } } t

/-- The memory port (R11, R13). A processor's cycle that needs no port, or finds it free, is served; one that needs a busy
port waits on the ready line and nothing else happens. A port that falls free is the poster's while it is POSTING and no
processor cycle waits. When a poster's cycle completes with one processor cycle waiting, that cycle is served next, unless the
poster is POSTING with 12 or more events queued: then the poster is granted again and the cycle waits on. A memory cycle is
whole in its own row (log entry 9). -/
def Obligations.PortGranted : Prop :=
  (∀ (c : Instr) (y : Cycle) (s : State), cycleOf c = some y →
    ((s.needsPort y = true → PortFree s) → ∃ t, exec c s = .next t ∧ Regranted (s.processorCycle y) t)
    ∧ (s.needsPort y = true → ¬ PortFree s →
      exec c s = .next { s with path := { s.path with held := s.path.held ++ [y] } })
    ∧ (s.needsPort y = true → PortFree s → ∃ t, exec c s = .next t ∧ (t.path.op = .running → t.path.held = [] →
      t.path.grant = if t.poster.state = .posting then some (.poster t.poster.overflow) else none)))
  ∧ (∀ (c : Instr) (f : State → State) (steps : List PostStep) (s u : State) (b : Bool) (e : Event),
    (c, f, steps) ∈ posterRows → s.path.op = .running → s.poster.state = .posting → s.poster.step ∈ steps →
    s.poster.queue.head? = some e → s.path.grant = some (.poster b) →
    u = { f s with path := { (f s).path with held := [] } } →
    (s.path.held = [] → ∃ t, exec c s = .next t ∧ Regranted (f s) t
      ∧ t.path.grant = if t.poster.state = .posting then some (.poster t.poster.overflow) else none)
    ∧ (∀ y, s.path.held = [y] → s.needsPort y = true →
      (u.poster.state ≠ .posting ∨ u.poster.queue.length < 12 → ∃ t, exec c s = .next t ∧ Regranted (u.processorCycle y) t)
      ∧ (u.poster.state = .posting → 12 ≤ u.poster.queue.length → ∃ t, exec c s = .next t ∧ Regranted (f s) t
        ∧ t.path.held = [y] ∧ t.path.grant = some (.poster t.poster.overflow))))

/-- A watched-word write in RUNNING with the memory port free (R5 to R7, R11), for each of its rows: the merged word is screened, the
effective value is written to memory on both lanes and held by the owner, every other watched word and every other word of memory
stands, and a verdict other than ACCEPTED puts its PROVISION event. A write whose effective value is the value held changes nothing
but that event. What a changed value brings in its owner is stated in ScreenPorts, ScreenGroups and ScreenTiming. That the PROVISION
event stands after the events of the owner's taking is the model's choice (log entry 16). -/
def Obligations.WatchedWrites : Prop :=
  ∀ (c : Instr) (w : Watched) (l : Lanes) (d : Word) (s : State),
    watchedWriteOf c = some (w, l, d) → s.path.op = .running → PortFree s →
    ∀ v e, s.screen w (mergeLanes l (s.heldWord w) d) = (v, e) →
    ∃ t, exec c s = .next t
      ∧ t.heldWord w = e ∧ (∀ w', w' ≠ w → t.heldWord w' = s.heldWord w')
      ∧ (∃ g, t.path = { s.path with
          mem := Memory.writeLanes s.path.mem (s.imageAddr w.offset) .word e, grant := g })
      ∧ t.mailbox = s.mailbox
      ∧ (v ≠ .accepted → LastEvent t w.object (.provision w.offset v))
      ∧ (e = s.heldWord w →
          Regranted (if v = .accepted then wrote s w.offset .word e
            else (wrote s w.offset .word e).putEvent w.object (.provision w.offset v)) t)

/-- A written value equal to the held value is ACCEPTED, whatever the owner's state; a value refused, prohibited or once held
leaves the held value (R5). -/
def Obligations.ScreenKeepsHeld : Prop :=
  ∀ (s : State) (w : Watched) (v : Word),
    s.screen w (s.heldWord w) = (.accepted, s.heldWord w)
    ∧ ((s.screen w v).1 = .refused ∨ (s.screen w v).1 = .prohibited ∨ (s.screen w v).1 = .onceHeld →
        (s.screen w v).2 = s.heldWord w)
    ∧ ((s.screen w v).1 = .accepted → (s.screen w v).2 = v)
    ∧ ((s.screen w v).1 = .clamped → (s.screen w v).2 ≠ v)


/-! ## Screening -/

/-- The words of one number are clamped into their range (R20, R37, R44, R45, R142). -/
def Obligations.ScreenNumbers : Prop :=
  ∀ s : State, ClampsNumber s .shelfNumber 0 1023
    ∧ (∀ n : Fin 8, ClampsNumber s (.calibration n 0) 0 4095 ∧ ClampsPower s (.calibration n 1)
        ∧ ClampsNumber s (.calibration n 2) 0 4095 ∧ ClampsPower s (.calibration n 3))
    ∧ (∀ p : Port, ClampsPower s (.port p 2) ∧ ClampsNumber s (.port p 5) 0 50)
    ∧ (∀ i : SlotId, ClampsNumber s (.slot i 1) 10 2000)

/-- The other words of a port's configuration: the monitor kind by R32's table in its order, the expected trace refused when
not well formed (R54), DEGRADE and OVERLOAD by R44's table, the calibration set and the persistence (R31, R33). An accepted change
acts on the record at once, the memory port being free: the kind by R34's table, the expected trace on the trace state (R62), the
calibration set and a calibration value by emptying power histories (R43), the persistence on the run count (R33). That a change to
LOL-ONLY with no sample gives GOOD is the model's reading (log entry 21). -/
def Obligations.ScreenPorts : Prop :=
  ∀ (s : State) (p : Port) (v : Word),
    (v ≠ s.heldWord (.port p 0) →
      (v.toNat % 4 = 3 → s.screen (.port p 0) v = (.refused, s.heldWord (.port p 0)))
      ∧ (v.toNat % 4 = 0 ∧ Named s p → s.screen (.port p 0) v = (.refused, s.heldWord (.port p 0)))
      ∧ (v.toNat % 4 = 0 ∧ ¬ Named s p ∧ s.sup.record[p].maintenance = true →
          s.screen (.port p 0) v = (.prohibited, s.heldWord (.port p 0)))
      ∧ (v.toNat % 4 = 0 ∧ ¬ Named s p ∧ s.sup.record[p].maintenance = false →
          s.screen (.port p 0) v = taken (v &&& 0x0013) v)
      ∧ (v.toNat % 4 = 1 ∨ v.toNat % 4 = 2 → s.screen (.port p 0) v = taken (v &&& 0x0013) v))
    ∧ (v ≠ s.heldWord (.port p 1) →
      s.screen (.port p 1) v =
        if v = 0 ∨ (v.toNat < 32768 ∧ 1 ≤ v.toNat / 32 ∧ v.toNat % 32 ≤ 23) then (.accepted, v)
        else (.refused, s.heldWord (.port p 1)))
    ∧ (∀ c : Int, c = max (-500) (min 100 v.toInt) →
      (v ≠ s.heldWord (.port p 3) → s.screen (.port p 3) v =
        taken (signedWord (if c ≤ (s.heldWord (.port p 2)).toInt then (s.heldWord (.port p 2)).toInt else c)) v)
      ∧ (v ≠ s.heldWord (.port p 4) → s.screen (.port p 4) v =
        taken (signedWord (if c ≤ (s.heldWord (.port p 3)).toInt then 100 else c)) v))
    ∧ (v ≠ s.heldWord (.port p 6) → s.screen (.port p 6) v = taken (v &&& 0x0007) v)
    ∧ (v ≠ s.heldWord (.port p 7) → s.screen (.port p 7) v = taken (wordOf (max 3 (min 7 (v.toNat % 16)))) v)
    -- what an accepted change brings
    ∧ (∀ (c : Instr) (f : Fin 8) (l : Lanes) (d e : Word), watchedWriteOf c = some (.port p f, l, d) →
      s.path.op = .running → PortFree s → (s.screen (.port p f) (mergeLanes l (s.heldWord (.port p f)) d)).2 = e →
      e ≠ s.heldWord (.port p f) →
      ∃ t, exec c s = .next t
        ∧ (∀ q : Port, q ≠ p → s.sup.record[q].trace ≠ .duplicate → t.sup.record[q] = s.sup.record[q])
        ∧ (f = 0 → t.sup.kind p ≠ s.sup.kind p →
            KindChanged (s.sup.kind p) (t.sup.kind p) t.sup.config[p] s.sup.record[p] t.sup.record[p]
            ∧ t.sup.farEnd[p] = none)
        ∧ (f = 0 → t.sup.kind p = s.sup.kind p → t.sup.record = s.sup.record)
        ∧ (∀ id, f = 1 → s.sup.record[p].accepted = some id →
            s.sup.record[p].trace = .free ∨ s.sup.record[p].trace = .matched ∨ s.sup.record[p].trace = .mismatch →
            t.sup.record[p] = { s.sup.record[p] with
              trace := if e = 0 then .free else if e = id then .matched else .mismatch })
        ∧ (f = 1 → s.sup.record[p].trace ≠ .free → s.sup.record[p].trace ≠ .matched → s.sup.record[p].trace ≠ .mismatch →
            t.sup.record = s.sup.record)
        ∧ (2 ≤ f.val → f.val ≤ 5 → t.sup.record = s.sup.record)
        ∧ (f = 6 → t.sup.record[p] = { s.sup.record[p] with power := [] })
        ∧ (f = 7 → t.sup.record[p] = { s.sup.record[p] with run := min (e.toNat % 16) s.sup.record[p].run }))
    ∧ (∀ (n : Fin 8) (j : Fin 4) (l : Lanes) (d e : Word), s.path.op = .running → PortFree s →
      (s.screen (.calibration n j) (mergeLanes l (s.heldWord (.calibration n j)) d)).2 = e →
      e ≠ s.heldWord (.calibration n j) →
      ∃ t, exec (.calibrationWrite n j l d) s = .next t ∧ ∀ q : Port, t.sup.record[q] =
        if s.sup.kind q = .power ∧ s.sup.config[q][6].toNat % 8 = n.val then { s.sup.record[q] with power := [] }
        else s.sup.record[q])

/-- ATTENTION MASK and the alarm profile refuse a spare bit (R163, R173); RING BASE and RING SIZE by R178's table in its
order, RING SIZE tested as written and, where it is clamped, again (log entry 14). An accepted change of either, the memory port
being free, sets the ring-change flag and leaves the index and the cycle of the posting (R178, R183). -/
def Obligations.ScreenHeader : Prop :=
  ∀ (s : State) (v : Word),
    (v ≠ s.alarm.mask → s.screen .attentionMask v = if v &&& 0xFFF0 = 0 then (.accepted, v) else (.refused, s.alarm.mask))
    ∧ (∀ k : Fin 22, v ≠ s.alarm.profile[k] →
      s.screen (.profile k) v = if v &&& 0xFFCC = 0 then (.accepted, v) else (.refused, s.alarm.profile[k]))
    ∧ (v ≠ s.poster.ringBase →
      (overlaps s v.toNat s.poster.ringSize.toNat → s.screen .ringBase v = (.refused, s.poster.ringBase))
      ∧ (¬ overlaps s v.toNat s.poster.ringSize.toNat → s.poster.state ≠ .busy ∧ s.poster.state ≠ .disabled →
          s.screen .ringBase v = (.prohibited, s.poster.ringBase))
      ∧ (¬ overlaps s v.toNat s.poster.ringSize.toNat → s.poster.state = .busy ∨ s.poster.state = .disabled →
          s.screen .ringBase v = (.accepted, v)))
    ∧ (v ≠ s.poster.ringSize →
      (overlaps s s.poster.ringBase.toNat v.toNat → s.screen .ringSize v = (.refused, s.poster.ringSize))
      ∧ (¬ overlaps s s.poster.ringBase.toNat v.toNat → s.poster.state ≠ .busy ∧ s.poster.state ≠ .disabled →
          s.screen .ringSize v = (.prohibited, s.poster.ringSize))
      ∧ (¬ overlaps s s.poster.ringBase.toNat v.toNat → s.poster.state = .busy ∨ s.poster.state = .disabled →
        (overlaps s s.poster.ringBase.toNat (max 2 (min 256 v.toNat)) →
          s.screen .ringSize v = (.refused, s.poster.ringSize))
        ∧ (¬ overlaps s s.poster.ringBase.toNat (max 2 (min 256 v.toNat)) →
          s.screen .ringSize v = taken (wordOf (max 2 (min 256 v.toNat))) v)))
    -- what an accepted change brings
    ∧ (∀ (c : Instr) (w : Watched) (l : Lanes) (d e : Word), watchedWriteOf c = some (w, l, d) → w = .ringBase ∨ w = .ringSize →
      s.path.op = .running → PortFree s → (s.screen w (mergeLanes l (s.heldWord w) d)).2 = e → e ≠ s.heldWord w →
      ∃ t, exec c s = .next t ∧ t.heldWord w = e ∧ t.poster.ringChange = true ∧ t.poster.index = s.poster.index
        ∧ t.poster.step = s.poster.step ∧ t.poster.wrapFault = s.poster.wrapFault)

/-- The group table (R74 to R76): a port field is refused for a number that is no port, a port named by another field, an
unmonitored port, or a channel above the count; the kind for an unknown code or a count that drops a channel with a port; the
elements for a number that is no element, or an element named by another field; a changed structure is prohibited while the
winner is not CLEAR; timing and policy are clamped. An accepted change takes effect with the write, the memory port being free:
the channels, the protocol, the transmit words, the entry and the newly named elements as R77, R100, R106 and R122 say (log entry 46
for the unusable cause). A step of hold-off is 800 periods of the model's clock, a minute 480000 and the confirmation time 1600 (log
entry 2). -/
def Obligations.ScreenGroups : Prop :=
  ∀ (s : State) (g : GroupId) (v : Word),
    (∀ (j : Fin 5) (f : Fin 8) (bad : Prop), f.val = j.val + 1 → v ≠ s.heldWord (.group g f) →
      (bad ↔ v.toNat % 64 ≠ 63 ∧ (24 ≤ v.toNat % 64
        ∨ (∃ h i, ¬ (h = g ∧ i = j) ∧ s.portFieldOf h i = v.toNat % 64)
        ∨ (∃ p : Port, p.val = v.toNat % 64 ∧ s.sup.kind p = .none)
        ∨ GroupConfig.count s.group[g].config < j.val)) →
      (bad → s.screen (.group g f) v = (.refused, s.heldWord (.group g f)))
      ∧ (¬ bad → v &&& 0x003F ≠ s.heldWord (.group g f) ∧ s.group[g].winner ≠ ⟨0, 0⟩ →
          s.screen (.group g f) v = (.prohibited, s.heldWord (.group g f)))
      ∧ (¬ bad → v &&& 0x003F = s.heldWord (.group g f) ∨ s.group[g].winner = ⟨0, 0⟩ →
          s.screen (.group g f) v = taken (v &&& 0x003F) v))
    ∧ (v ≠ s.heldWord (.group g 0) →
      ∀ (n : Nat) (e : Word) (bad : Prop),
        n = (if v.toNat % 4 = 1 then 1 else max 1 (min 4 (v.toNat / 16 % 8))) → e = wordOf (v.toNat % 4 + 16 * n) →
        (bad ↔ v.toNat % 4 = 3 ∨ ∃ k : Fin 5, n < k.val ∧ s.portFieldOf g k ≠ 63) →
        (bad → s.screen (.group g 0) v = (.refused, s.heldWord (.group g 0)))
        ∧ (¬ bad → e ≠ s.heldWord (.group g 0) ∧ s.group[g].winner ≠ ⟨0, 0⟩ →
            s.screen (.group g 0) v = (.prohibited, s.heldWord (.group g 0)))
        ∧ (¬ bad → e = s.heldWord (.group g 0) ∨ s.group[g].winner = ⟨0, 0⟩ → s.screen (.group g 0) v = taken e v))
    ∧ (v ≠ s.heldWord (.group g 6) →
      ∀ (a b : Nat) (bad : Prop), a = v.toNat % 64 → b = v.toNat / 256 % 64 →
        (bad ↔ (a ≠ 63 ∧ (32 ≤ a ∨ ∃ h l, ¬ (h = g ∧ l = false) ∧ s.elementFieldOf h l = a))
          ∨ (b ≠ 63 ∧ (32 ≤ b ∨ ∃ h l, ¬ (h = g ∧ l = true) ∧ s.elementFieldOf h l = b)) ∨ (a = b ∧ a ≠ 63)) →
        (bad → s.screen (.group g 6) v = (.refused, s.heldWord (.group g 6)))
        ∧ (¬ bad → v &&& 0x3F3F ≠ s.heldWord (.group g 6) ∧ s.group[g].winner ≠ ⟨0, 0⟩ →
            s.screen (.group g 6) v = (.prohibited, s.heldWord (.group g 6)))
        ∧ (¬ bad → v &&& 0x3F3F = s.heldWord (.group g 6) ∨ s.group[g].winner = ⟨0, 0⟩ →
            s.screen (.group g 6) v = taken (v &&& 0x3F3F) v))
    ∧ (v ≠ s.heldWord (.group g 7) → s.screen (.group g 7) v =
        taken (wordOf (min 100 (v.toNat % 128) + 256 * max 1 (min 12 (v.toNat / 256 % 16)) + 4096 * (v.toNat / 4096 % 4))) v)
    -- what an accepted change brings
    ∧ (∀ (c : Instr) (f : Fin 8) (l : Lanes) (d e : Word), watchedWriteOf c = some (.group g f, l, d) →
      s.path.op = .running → PortFree s → (s.screen (.group g f) (mergeLanes l (s.heldWord (.group g f)) d)).2 = e →
      e ≠ s.heldWord (.group g f) →
      ∃ t, exec c s = .next t
        ∧ GroupChanged s t g s.group[g].config (s.group[g].config.set f.val e f.isLt))

/-- The timing table (R142, R143): a priority above 4 and a source that names no group, channel or port are refused, the
qualify time and the loss window are clamped, and a station input kind is held once. An accepted change of a line slot's source
decides its source port by R144's table, where it is decided, and SETTLING follows (R145; log entries 22, 24, 25), the memory port
being free and the settle period 4000 periods of the model's clock (log entry 2). An accepted change of a slot's configuration decides
every slot's state and the selection afresh (R146, R150); that a SETTLING slot keeps its measured state and the stop of its qualify
timer while source condition 4 or 5 of R146 holds, R145 against R146, is the model's reading (log entry 36). -/
def Obligations.ScreenTiming : Prop :=
  ∀ (s : State) (v : Word),
    (∀ i : SlotId,
      (v ≠ s.heldWord (.slot i 0) → s.screen (.slot i 0) v =
        if 4 < v.toNat % 8 then (.refused, s.heldWord (.slot i 0)) else taken (v &&& 0x0007) v)
      ∧ (v ≠ s.heldWord (.slot i 2) → s.screen (.slot i 2) v =
        taken (wordOf (max 1 (min 60 (v.toNat % 64)) + 256 * max 2 (min 15 (v.toNat / 256 % 16)))) v))
    ∧ (∀ l : LineId, v ≠ s.heldWord (.source l) → s.screen (.source l) v =
        if v.toNat % 4 = 3
          ∨ (v.toNat % 4 = 1 ∧ (11 < v.toNat / 32 % 16 ∨ v.toNat / 4 % 8 = 0 ∨ 4 < v.toNat / 4 % 8))
          ∨ (v.toNat % 4 = 2 ∧ 24 ≤ v.toNat / 1024 ∧ v.toNat / 1024 ≠ 63)
        then (.refused, s.heldWord (.source l)) else taken (v &&& 0xFDFF) v)
    ∧ (v ≠ s.timing.stationKind → s.screen .stationKind v =
        if v.toNat % 4 = 3 then (.refused, s.timing.stationKind)
        else if s.timing.stationKind.toNat % 4 ≠ 0 ∧ v.toNat % 4 ≠ s.timing.stationKind.toNat % 4 then
          (.onceHeld, s.timing.stationKind)
        else taken (v &&& 0x0003) v)
    -- what an accepted change of a line slot's source brings
    ∧ (∀ (l : LineId) (i : SlotId) (b : Lanes) (d e : Word) (u : State) (p : Option Port), i.val = l.val + 2 →
      s.path.op = .running → PortFree s → (s.screen (.source l) (mergeLanes b (s.heldWord (.source l)) d)).2 = e →
      e ≠ s.heldWord (.source l) → u = { s with timing := { s.timing with sources := s.timing.sources.set l.val e l.isLt } } →
      SourceIs u l p →
      ∃ t, exec (.slotSourceWrite l b d) s = .next t
        ∧ Decides s.timing.slot[i] t.timing.slot[i] (slotPriority s.timing.config[i] = 0)
            (∃ k, u.sourceSelector l = some k ∧ ShownAs s k .travelling) p s.now
        ∧ Selects s.timing.selected t.timing)
    -- what an accepted change of a slot's configuration brings
    ∧ (∀ (i : SlotId) (f : Fin 3) (b : Lanes) (d e : Word) (u : State), s.path.op = .running → PortFree s →
      (s.screen (.slot i f) (mergeLanes b (s.heldWord (.slot i f)) d)).2 = e → e ≠ s.heldWord (.slot i f) →
      u = { s with timing := { s.timing with config := put s.timing.config i (put s.timing.config[i] f e) } } →
      ∃ t, exec (.slotConfigurationWrite i f b d) s = .next t ∧ t.timing.config = u.timing.config
        ∧ (∀ j : SlotId, StateDecided u j s.timing.slot[j] t.timing.slot[j]) ∧ Selects s.timing.selected t.timing)

/-! ## The command mailbox -/

/-- An operate command in its right form, written in READY with the memory port free (R11), reaches memory and waits for its
confirm for 500 ms, 4000 periods of the model's clock (log entry 2); nothing else changes (R128). -/
def Obligations.OperateAwaits : Prop :=
  ∀ (c : Instr) (w : Word) (s : State), operateWord c = some w → s.path.op = .running → PortFree s → s.mailbox.state = .ready →
    ∃ t, exec c s = .next t
      ∧ Regranted { wrote s 0x20 .word w with
          mailbox := { s.mailbox with state := .awaitConfirm, pending := some w, window := some (s.now + 4000) } } t

/-- A command word that fails the form check in READY, the memory port being free, is answered REFUSED-INVALID at once and the
mailbox stays READY: an unknown code, a spare bit, or a field that must be 0 (R127). The object recorded is 0 for a command
without an object (R134) and else the word's own object field, also that of an unknown code, which is the model's choice (log entry
48). -/
def Obligations.FormRefused : Prop :=
  ∀ (c : Instr) (code : BitVec 4) (object : Nat) (w : Word) (s : State),
    badForm c = some (code, object, w) → s.path.op = .running → PortFree s → s.mailbox.state = .ready →
    ∃ t, exec c s = .next t ∧ Recorded s t code object .refusedInvalid
      ∧ t.mailbox.state = .ready ∧ t.mailbox.pending = s.mailbox.pending ∧ t.mailbox.window = s.mailbox.window
      ∧ MailboxOnly s t 0x20 .word w

/-- CLEAR g in READY (R85): refused for a group or a channel out of range, and for a group not yet evaluated; otherwise the
stored command and the entry are removed, the timer stops and the group is updated. CLEAR-REF removes the force, and in the same step
the selector chooses by priority again (R150: the eligible slot of best priority, of the lower index among equals), the generator
follows by R155 to R157 and the timing points by R159 (R137). Every slot's state is decided by R146's table; that a SETTLING slot keeps
its measured state while source condition 4 or 5 holds, R145 against R146, is log entry 36. The memory port is free (R11). -/
def Obligations.ClearCommands : Prop :=
  (∀ (o : BitVec 6) (k : BitVec 3) (s : State), s.path.op = .running → PortFree s → s.mailbox.state = .ready →
    (12 ≤ o.toNat ∨ k ≠ 0 → ∃ t, exec (.clear o k 0) s = .next t ∧ Recorded s t 4 o.toNat .refusedInvalid
      ∧ t.mailbox.state = .ready ∧ MailboxOnly s t 0x20 .word (commandWord 4 o k 0))
    ∧ (∀ g : GroupId, g.val = o.toNat → k = 0 → s.group[g].evaluated = false →
      ∃ t, exec (.clear o k 0) s = .next t ∧ Recorded s t 4 g .refusedState
        ∧ t.mailbox.state = .ready ∧ MailboxOnly s t 0x20 .word (commandWord 4 o k 0))
    ∧ (∀ g : GroupId, g.val = o.toNat → k = 0 → s.group[g].evaluated = true →
      ∃ t, exec (.clear o k 0) s = .next t ∧ Recorded s t 4 g .done ∧ t.mailbox.state = .ready
        ∧ t.group[g].stored = none
        ∧ Regranted ((((wrote s 0x20 .word (commandWord 4 o k 0)).setGroup g
            { s.group[g] with stored := none, entry := none, restoreWait := none }).updateGroup g).recordResult 4 g .done) t))
  ∧ (∀ s : State, s.path.op = .running → PortFree s → s.mailbox.state = .ready →
    ∃ t, exec (.clearRef 0 0 0) s = .next t ∧ Recorded s t 6 0 .done ∧ t.mailbox.state = .ready
      ∧ Regranted (((wrote s 0x20 .word 6).setForce none).recordResult 6 0 .done) t
      ∧ t.timing.forced = none ∧ Selects s.timing.selected t.timing ∧ Follows s.timing t.timing ∧ TimingPoints t
      ∧ (∀ i : SlotId, StateDecided s i s.timing.slot[i] t.timing.slot[i]) ∧ t.scan = s.scan ∧ t.sup = s.sup ∧ t.group = s.group ∧ t.driver = s.driver
      ∧ t.timing.config = s.timing.config ∧ t.timing.sources = s.timing.sources
      ∧ (∃ g, t.path = { (wrote s 0x20 .word 6).path with grant := g }))

/-- RELEASE p in READY (R71), the memory port being free: refused above port 23; otherwise DONE, maintenance is clear, and no
other record changes. -/
def Obligations.ReleaseCommand : Prop :=
  ∀ (o : BitVec 6) (s : State), s.path.op = .running → PortFree s → s.mailbox.state = .ready →
    (24 ≤ o.toNat → ∃ t, exec (.release o 0 0) s = .next t ∧ Recorded s t 8 o.toNat .refusedInvalid
      ∧ t.mailbox.state = .ready ∧ MailboxOnly s t 0x20 .word (commandWord 8 o 0 0))
    ∧ (∀ p : Port, p.val = o.toNat →
      ∃ t, exec (.release o 0 0) s = .next t ∧ Recorded s t 8 p .done ∧ t.mailbox.state = .ready
        ∧ t.sup.record[p] = { s.sup.record[p] with maintenance := false }
        ∧ (∀ q : Port, q ≠ p → t.sup.record[q] = s.sup.record[q])
        ∧ t.sup.farEnd = s.sup.farEnd ∧ t.sup.config = s.sup.config
        ∧ (s.sup.record[p].maintenance = false → MailboxOnly s t 0x20 .word (commandWord 8 o 0 0)))

/-- RESUME in READY (R138, R182), the memory port being free: DONE in every poster state, with the wrap-fault flag clear; BUSY ends
and goes on with the same descriptor, or takes up a changed ring; DISABLED takes up the held ring, or stays DISABLED. -/
def Obligations.ResumeCommand : Prop :=
  ∀ s : State, s.path.op = .running → PortFree s → s.mailbox.state = .ready → s.poster.QueueSound →
    ∃ t, exec (.resume 0 0 0) s = .next t ∧ Recorded s t 9 0 .done ∧ t.mailbox.state = .ready
      ∧ t.poster.wrapFault = false ∧ s.poster.queue <+: t.poster.queue ∧ MailboxOnly s t 0x20 .word 9
      ∧ (s.poster.state = .busy → t.alarm.ringBusy = false ∧ t.pointRaised (.part 1) = false)
      ∧ (s.poster.state = .busy ∧ s.poster.ringChange = false →
          t.poster.state = .posting ∧ t.poster.step = .readWord0 ∧ t.poster.index = s.poster.index)
      ∧ ((s.poster.state = .busy ∧ s.poster.ringChange = true) ∨ s.poster.state = .disabled →
          t.poster.ringChange = false
          ∧ (s.ringOk = true → t.poster.state = .posting ∧ t.poster.index = 0 ∧ t.poster.step = .readWord0)
          ∧ (s.ringOk = false → t.poster.state = .disabled))
      ∧ (s.poster.state = .idle ∨ s.poster.state = .posting →
          t.poster.state = .posting ∧ t.poster.index = s.poster.index ∧ t.poster.step = s.poster.step)
      ∧ (t.pointRaised (.part 2) = true ↔ t.poster.state = .disabled)

/-- The summary words show the counts of counted raised points, the relays and the mode (R167, R169, R195). ACO, in READY with the
memory port free, is answered DONE in every case and has the effect of the ACO input line: in FOLLOW each audible relay that shows
alarm falls silent with its cut-off set, and otherwise no relay changes (R139, R171). -/
def Obligations.AudibleCutOff : Prop :=
  (∀ s : State, SummaryShown s (s.liveWord (.summary 0)) (s.liveWord (.summary 1)))
  ∧ ∀ (s : State) (cut : Relays → Relays) (a : Alarm),
    (∀ r : Relays, cut r = if r.audible = true then ⟨r.visual, false, true⟩ else r) →
    a = (if s.alarm.mode = .follow then
      { s.alarm with critical := cut s.alarm.critical, major := cut s.alarm.major, minor := cut s.alarm.minor }
      else s.alarm) →
    (∃ t, exec .acoInput s = .next t ∧ Regranted { s with alarm := a } t)
    ∧ (s.path.op = .running → PortFree s → s.mailbox.state = .ready →
      ∃ t, exec (.aco 0 0 0) s = .next t ∧ Recorded s t 10 0 .done ∧ t.mailbox.state = .ready
        ∧ t.alarm = { a with commandDone := true } ∧ MailboxOnly s t 0x20 .word 10)

/-- A confirmed BAR, FORCE or MANUAL (R84, R129), the memory port being free: the first test of R84 that applies answers it; DONE
stores the command and updates the group, a refusal changes nothing in any group. Every held channel count is at most 4 (R75), a law
of GroupTableKept. -/
def Obligations.ConfirmStores : Prop :=
  ∀ (w : Word) (s : State) (c : StoredKind), s.path.op = .running → PortFree s →
    (∀ g : GroupId, GroupConfig.count s.group[g].config ≤ 4) → s.mailbox.state = .awaitConfirm →
    s.mailbox.pending = some w →
    formCheck w = some (match c with | .bar => .bar | .force => .force | .manual => .manual) →
    (12 ≤ commandObject w → ∃ t, exec (.confirm w) s = .next t
      ∧ Recorded s t (w.extractLsb' 0 4) (commandObject w) .refusedInvalid ∧ t.mailbox.state = .ready
      ∧ MailboxOnly s t 0x21 .word w)
    ∧ (∀ g : GroupId, g.val = commandObject w →
      (∀ r, answer84 s.group[g] c (commandChannel w) = some r → ∃ t, exec (.confirm w) s = .next t
        ∧ Recorded s t (w.extractLsb' 0 4) g r ∧ t.mailbox.state = .ready ∧ MailboxOnly s t 0x21 .word w)
      ∧ (answer84 s.group[g] c (commandChannel w) = none → ∃ st, stores c (commandChannel w) st
        ∧ ∃ t, exec (.confirm w) s = .next t ∧ Recorded s t (w.extractLsb' 0 4) g .done
          ∧ t.mailbox.state = .ready ∧ t.mailbox.pending = none ∧ t.mailbox.window = none
          ∧ Regranted (((({ wrote s 0x21 .word w with
                mailbox := { s.mailbox with state := .ready, pending := none, window := none } } : State).setGroup g
              { s.group[g] with stored := some st }).updateGroup g).recordResult (w.extractLsb' 0 4) g .done) t))

/-- A confirmed MAINT (R70) and a confirmed FORCE-REF (R137), each by its tests in their order, the memory port being free; a
stored force decides the selection again by R150, and the generator follows by R155 to R157. -/
def Obligations.ConfirmMaintAndForceRef : Prop :=
  ∀ (w : Word) (s : State), s.path.op = .running → PortFree s → s.mailbox.state = .awaitConfirm → s.mailbox.pending = some w →
    (formCheck w = some .maint →
      (24 ≤ commandObject w → ∃ t, exec (.confirm w) s = .next t ∧ Recorded s t 7 (commandObject w) .refusedInvalid
        ∧ MailboxOnly s t 0x21 .word w)
      ∧ (∀ p : Port, p.val = commandObject w →
        (s.sup.kind p = .none ∨ (∃ (g : GroupId) (e : ElementId), GroupConfig.protect s.group[g].config = some p
            ∧ GroupConfig.selector s.group[g].config = some e ∧ (s.element e).commanded ≠ 0) →
          ∃ t, exec (.confirm w) s = .next t ∧ Recorded s t 7 p .refusedState ∧ MailboxOnly s t 0x21 .word w)
        ∧ (s.sup.kind p ≠ .none → (∀ (g : GroupId) (e : ElementId), GroupConfig.protect s.group[g].config = some p →
            GroupConfig.selector s.group[g].config = some e → (s.element e).commanded = 0) →
          ∃ t, exec (.confirm w) s = .next t ∧ Recorded s t 7 p .done ∧ t.mailbox.state = .ready
            ∧ t.sup.record[p] = { s.sup.record[p] with maintenance := true }
            ∧ (∀ q : Port, q ≠ p → t.sup.record[q] = s.sup.record[q])
            ∧ t.sup.farEnd = s.sup.farEnd ∧ t.sup.config = s.sup.config)))
    ∧ (formCheck w = some .forceRef →
      (4 ≤ commandObject w → ∃ t, exec (.confirm w) s = .next t ∧ Recorded s t 5 (commandObject w) .refusedInvalid
        ∧ MailboxOnly s t 0x21 .word w)
      ∧ (∀ i : SlotId, i.val = commandObject w →
        (s.timing.config[i][0].toNat % 8 = 0 → ∃ t, exec (.confirm w) s = .next t ∧ Recorded s t 5 i .refusedState
          ∧ MailboxOnly s t 0x21 .word w)
        ∧ (s.timing.config[i][0].toNat % 8 ≠ 0 → ∃ t, exec (.confirm w) s = .next t ∧ Recorded s t 5 i .done
          ∧ t.timing.forced = some i ∧ Selects s.timing.selected t.timing ∧ (t.timing.selected = none ∨ t.timing.selected = some i)
          ∧ Follows s.timing t.timing ∧ TimingPoints t
          ∧ t.scan = s.scan ∧ t.sup = s.sup ∧ t.group = s.group ∧ t.driver = s.driver)))

/-- A confirmed RESTART (R18, R140), the memory port being free: the confirming write reaches memory, the mailbox is EXECUTING with
RESTART pending, the start check begins, the drive is off with every timer stopped and every position kept, the relays hold, the
generator holds over, shelf time and the station input kind are kept, and every other block has its restart values; results waiting
to be taken are dropped (log entries 11, 12). -/
def Obligations.ConfirmRestarts : Prop :=
  ∀ s : State, s.path.op = .running → PortFree s → s.mailbox.state = .awaitConfirm → s.mailbox.pending = some 11 →
    ∃ t, exec (.confirm 11) s = .next t
      ∧ t.mailbox = { s.mailbox with state := .executing, window := none }
      ∧ freshBlocks t
      ∧ t.path.op = .startCheck ∧ loaderOrder[t.path.loaderAt]? = some .shelfNumber ∧ t.path.readBackOwed = false
      ∧ t.path.straps = s.path.straps ∧ t.path.held = s.path.held ∧ t.path.mem = (wrote s 0x21 .word 11).path.mem
      ∧ t.driver.on = false
      ∧ (∀ e : ElementId, t.element e = { s.element e with travel := none } ∧ t.driveOutput e = none)
      ∧ t.alarm.mode = .hold ∧ t.alarm.critical = s.alarm.critical ∧ t.alarm.major = s.alarm.major
      ∧ t.alarm.minor = s.alarm.minor
      ∧ t.poster.shelfTime = s.poster.shelfTime ∧ t.poster.intervalEnd = s.poster.intervalEnd
      ∧ t.timing.stationKind = s.timing.stationKind
      ∧ (s.timing.gen = .freeRun ∨ s.timing.gen = .holdover →
          t.timing.gen = s.timing.gen ∧ t.timing.offset = s.timing.offset ∧ t.timing.history = s.timing.history)
      ∧ (s.timing.gen ≠ .freeRun ∧ s.timing.gen ≠ .holdover → t.timing.history = s.timing.history.tail
          ∧ (s.timing.history.tail = [] → t.timing.gen = .freeRun ∧ t.timing.offset = 0)
          ∧ (s.timing.history.tail ≠ [] → t.timing.gen = .holdover
              ∧ t.timing.offset = Int.tdiv s.timing.history.tail.sum s.timing.history.tail.length))

/-- Mailbox writes in the wrong state (R129, R131), the memory port being free: each reaches memory, and is answered and blocks as
its line says; in EXECUTING it is not acted on. -/
def Obligations.MailboxErrors : Prop :=
  (∀ (w v : Word) (s : State), s.path.op = .running → PortFree s →
    s.mailbox.state = .awaitConfirm → s.mailbox.pending = some v → w ≠ v →
    ∃ t, exec (.confirm w) s = .next t ∧ BlockedWith s t (pendingCode s) (pendingObject s) .confirmMismatch
      ∧ MailboxOnly s t 0x21 .word w)
  ∧ (∀ (c : Instr) (code : BitVec 4) (object : Nat) (w : Word) (s : State),
    commandWriteOf c = some (code, object, w) → s.path.op = .running → PortFree s →
    (s.mailbox.state = .awaitConfirm → ∃ t, exec c s = .next t
      ∧ BlockedWith s t (pendingCode s) (pendingObject s) .access ∧ MailboxOnly s t 0x20 .word w)
    ∧ (s.mailbox.state = .blocked → ∃ t, exec c s = .next t ∧ Recorded s t code object .blocked
      ∧ t.mailbox.state = .blocked ∧ MailboxOnly s t 0x20 .word w)
    ∧ (s.mailbox.state = .executing → ∃ t, exec c s = .next t ∧ Regranted (wrote s 0x20 .word w) t))
  ∧ (∀ (w : Word) (s : State), s.path.op = .running → PortFree s →
    (s.mailbox.state = .ready → ∃ t, exec (.confirm w) s = .next t
      ∧ Recorded s t (w.extractLsb' 0 4) (w.toNat / 16 % 64) .strayConfirm ∧ t.mailbox.state = .ready
      ∧ MailboxOnly s t 0x21 .word w)
    ∧ (s.mailbox.state = .blocked → ∃ t, exec (.confirm w) s = .next t
      ∧ Recorded s t (w.extractLsb' 0 4) (w.toNat / 16 % 64) .blocked ∧ t.mailbox.state = .blocked
      ∧ MailboxOnly s t 0x21 .word w)
    ∧ (s.mailbox.state = .executing → ∃ t, exec (.confirm w) s = .next t ∧ Regranted (wrote s 0x21 .word w) t))

/-- A byte write to COMMAND or CONFIRM, the memory port being free, reaches memory in its lane and blocks the mailbox with
BYTE-WRITE in every state but EXECUTING (R8, R132). -/
def Obligations.MailboxByteWrites : Prop :=
  ∀ (m : MailboxWord) (lane : Lane) (b : Byte) (s : State) (offset : Nat) (l : Lanes) (d : Word),
    s.path.op = .running → PortFree s → offset = (match m with | .command => 0x20 | .confirm => 0x21) →
    l = (match lane with | .low => .low | .high => .high) →
    (d.extractLsb' (match lane with | .low => 0 | .high => 8) 8 : Byte) = b →
    (s.mailbox.state = .awaitConfirm → ∃ t, exec (.mailboxByteWrite m lane b) s = .next t
      ∧ BlockedWith s t (pendingCode s) (pendingObject s) .byteWrite ∧ MailboxOnly s t offset l d)
    ∧ (s.mailbox.state = .ready ∨ s.mailbox.state = .blocked → ∃ t, exec (.mailboxByteWrite m lane b) s = .next t
      ∧ BlockedWith s t 0 0 .byteWrite ∧ MailboxOnly s t offset l d)
    ∧ (s.mailbox.state = .executing → ∃ t, exec (.mailboxByteWrite m lane b) s = .next t
      ∧ Regranted (wrote s offset l d) t)

/-- CONFIRM_WINDOW_EXPIRY in AWAIT-CONFIRM abandons the pending command: READY, LAPSED (R130); the model's
clock goes to the expiry at least (log entry 2). -/
def Obligations.WindowExpires : Prop :=
  ∀ (s : State) (n : Nat), s.mailbox.state = .awaitConfirm → s.mailbox.window = some n →
    ∃ t, exec .confirmWindowExpiry s = .next t ∧ Recorded s t (pendingCode s) (pendingObject s) .lapsed
      ∧ t.mailbox.state = .ready ∧ t.mailbox.pending = none ∧ t.mailbox.window = none ∧ t.now = max s.now n
      ∧ ∃ k m a p, Regranted { s with now := k, mailbox := m, alarm := a, poster := p } t

/-- STATUS (R9, R133): it shows the mailbox state, the last result and code and the completion count (R187). STATUS_WRITE with the
clear bit set in a lane written and the mailbox BLOCKED makes the mailbox READY and keeps its last result, code and count; in every
other case nothing changes, and memory is never written. -/
def Obligations.StatusWrites : Prop :=
  (∀ s : State, StatusShown s.mailbox (s.liveWord .status))
  ∧ (∀ (l : Lanes) (d : Word) (s : State), s.path.op = .running →
    (l ≠ .low ∧ 32768 ≤ d.toNat ∧ s.mailbox.state = .blocked → ∃ t, exec (.statusWrite l d) s = .next t
      ∧ Regranted { s with mailbox := { s.mailbox with state := .ready } } t)
    ∧ (l = .low ∨ d.toNat < 32768 ∨ s.mailbox.state ≠ .blocked → ∃ t, exec (.statusWrite l d) s = .next t ∧ Regranted s t))


/-! ## Shelf time, change words, IDENTIFICATION -/

/-- Shelf time (R177): it advances by one at the end of each interval, in every operating state, wrapping after 65,535; a
write in RUNNING, merged by lanes, sets it and starts a new interval; a read returns it; power-on sets it to 0 and starts the
first interval. Ten milliseconds are 80 periods of the model's clock (log entry 2). -/
def Obligations.ShelfTime : Prop :=
  (∀ s : State, ∃ t, exec .shelfTimeAdvance s = .next t
    ∧ t.poster.shelfTime.toNat = (s.poster.shelfTime.toNat + 1) % 65536
    ∧ Regranted { s with
        now := max s.now s.poster.intervalEnd
        poster := { s.poster with shelfTime := s.poster.shelfTime + 1, intervalEnd := s.poster.intervalEnd + 80 } } t)
  ∧ (∀ (l : Lanes) (d : Word) (s : State), s.path.op = .running → ∃ t, exec (.shelfTimeWrite l d) s = .next t
    ∧ Regranted { s with poster := { s.poster with
        shelfTime := mergeLanes l s.poster.shelfTime d, intervalEnd := s.now + 80 } } t)
  ∧ (∀ (s : State) (l : Lanes), s.readLive .shelfTime l = s.drive l s.poster.shelfTime)
  ∧ (∀ (x : BitVec 2) (s : State), ∃ t, exec (.powerOn x) s = .next t
    ∧ t.poster.shelfTime = 0 ∧ t.poster.intervalEnd = t.now + 80)

/-- CHANGE_WORD_READ in RUNNING (R10): the word's latches go upstream on the lanes read, without a memory cycle, and are
cleared in those lanes alone; a latch set afterwards stays set; a write to a CHANGE word is absorbed. -/
def Obligations.ChangeWordRead : Prop :=
  (∀ (w : Fin 16) (l : Lanes) (s : State), s.path.op = .running →
    ∃ t, exec (.changeWordRead w l) s = .next t
      ∧ DrivenOnLanes t l (s.alarm.latched.extractLsb' (16 * w.val) 16)
      ∧ (∀ i, i < 256 → (t.alarm.latched.getLsbD i = true ↔ s.alarm.latched.getLsbD i = true
          ∧ ¬ (i / 16 = w.val ∧ ((l ≠ .high ∧ i % 16 < 8) ∨ (l ≠ .low ∧ 8 ≤ i % 16)))))
      ∧ (t.alarm.alarmChange = true ↔ t.alarm.latched ≠ 0)
      ∧ (s.path.grant ≠ none → t.path.grant = s.path.grant)
      ∧ (∃ u g n c, t = { s with
          path := { s.path with upstream := u, grant := g }, alarm := { s.alarm with latched := n, alarmChange := c } }))
  ∧ (∀ (s : State) (pt : Point) (v : Bool), s.pointRaised pt ≠ v → (s.setPoint pt v).pointLatched pt = true)
  ∧ (∀ (w : Fin 16) (a : Addr) (l : Lanes) (d : Word) (s : State), s.path.op = .running →
    classify s.base a = some (.change w) → ∃ t, exec (.passWrite a l d) s = .next t ∧ Regranted s t)

/-- IDENTIFICATION_READ in RUNNING (R194): the code of the highest-priority cause held, the attention set and the
interrupt line go upstream on the lanes read; a read of the low lane clears COMMAND-DONE or EVENT-POSTED when that is the cause
returned, and nothing else changes. -/
def Obligations.IdentificationRead : Prop :=
  ∀ (l : Lanes) (s : State) (c : Nat), s.path.op = .running →
    c = (if s.alarm.ringBusy then 1 else if s.alarm.commandDone then 2 else if s.alarm.alarmChange then 3
      else if s.alarm.eventPosted then 4 else 0) →
    ∃ t w, exec (.identificationRead l) s = .next t
      ∧ w = s.liveWord .identification ∧ w.toNat % 8 = c ∧ w.toNat / 8 % 32 = 0 ∧ w.toNat / 8192 = 0
      ∧ (w.getLsbD 8 = s.alarm.ringBusy) ∧ (w.getLsbD 9 = s.alarm.commandDone)
      ∧ (w.getLsbD 10 = s.alarm.alarmChange) ∧ (w.getLsbD 11 = s.alarm.eventPosted)
      ∧ (w.getLsbD 12 = true ↔ (s.alarm.ringBusy = true ∧ s.alarm.mask.getLsbD 0 = true)
          ∨ (s.alarm.commandDone = true ∧ s.alarm.mask.getLsbD 1 = true)
          ∨ (s.alarm.alarmChange = true ∧ s.alarm.mask.getLsbD 2 = true)
          ∨ (s.alarm.eventPosted = true ∧ s.alarm.mask.getLsbD 3 = true))
      ∧ DrivenOnLanes t l w
      ∧ Regranted { s with
          path := { s.path with upstream := t.path.upstream }
          alarm := { s.alarm with
            commandDone := s.alarm.commandDone && !decide (l ≠ .high ∧ c = 2)
            eventPosted := s.alarm.eventPosted && !decide (l ≠ .high ∧ c = 4) } } t

/-! ## The scan link -/

/-- SCAN_ROUND_START, PORT_SLOT_START, MODULE_ANSWER and a PORT_SLOT_END before port 23's (R19 to R22): a round begins at
port 0; a slot of a port of kind NONE stays idle and gives no result; any other port is polled with its transmit words; an
answer counts only when its check passes; the slot's end gathers its result. -/
def Obligations.ScanSlots : Prop :=
  (∀ s : State, s.path.op = .running → s.scan.round = none → ∃ t, exec .scanRoundStart s = .next t
    ∧ Regranted { s with scan := { s.scan with round := some ⟨0, .waiting, []⟩ } } t)
  ∧ (∀ s : State, s.path.op ≠ .running → ∃ t, exec .scanRoundStart s = .next t ∧ Regranted s t)
  ∧ (∀ (s : State) (p : Port) (rs : List (Port × Option Answer)), s.scan.round = some ⟨p, .waiting, rs⟩ →
    (s.sup.kind p = .none → ∃ t, exec .portSlotStart s = .next t
      ∧ Regranted { s with scan := { s.scan with round := some ⟨p, .unscanned, rs⟩ } } t)
    ∧ (s.sup.kind p ≠ .none → ∃ t, exec .portSlotStart s = .next t
      ∧ t.scan.lastPoll[p] = some (if s.scan.shelfNumber = 0 then 0 else wordOf (32 * s.scan.shelfNumber.toNat + p.val),
          s.scan.transmit[p])
      ∧ (∀ q : Port, q ≠ p → t.scan.lastPoll[q] = s.scan.lastPoll[q])
      ∧ Regranted { s with scan := { s.scan with round := some ⟨p, .polled, rs⟩, lastPoll := t.scan.lastPoll } } t))
  ∧ (∀ (s : State) (p : Port) (rs : List (Port × Option Answer)) (a : Answer), s.scan.round = some ⟨p, .polled, rs⟩ →
    (∃ t, exec (.moduleAnswer true a) s = .next t
      ∧ Regranted { s with scan := { s.scan with round := some ⟨p, .answered a, rs⟩ } } t)
    ∧ (∃ t, exec (.moduleAnswer false a) s = .next t ∧ Regranted s t))
  ∧ (∀ (s : State) (p q : Port) (ph : SlotPhase) (rs : List (Port × Option Answer)), q.val = p.val + 1 →
    s.scan.round = some ⟨p, ph, rs⟩ →
    (ph = .unscanned → ∃ t, exec .portSlotEnd s = .next t
      ∧ Regranted { s with scan := { s.scan with round := some ⟨q, .waiting, rs⟩ } } t)
    ∧ (ph = .polled → ∃ t, exec .portSlotEnd s = .next t
      ∧ Regranted { s with scan := { s.scan with round := some ⟨q, .waiting, rs ++ [(p, none)]⟩ } } t)
    ∧ (∀ a, ph = .answered a → ∃ t, exec .portSlotEnd s = .next t
      ∧ Regranted { s with scan := { s.scan with round := some ⟨q, .waiting, rs ++ [(p, some a)]⟩ } } t))

/-- The PORT_SLOT_END of port 23 classifies the round (R23, R24): faulted when two or more ports were equipped and none
answered; a faulted round that leaves the run at 25 or less is held and changes no record; any other is counted and delivered,
after every round that still has results to be taken; a round with none ends at its turn (log entry 19). -/
def Obligations.RoundClassified : Prop :=
  ∀ (s : State) (ph : SlotPhase) (rs results : List (Port × Option Answer)) (fault : Prop) (run : Nat),
    s.scan.round = some ⟨23, ph, rs⟩ →
    (ph = .unscanned ∧ results = rs) ∨ (ph = .polled ∧ results = rs ++ [(23, none)])
      ∨ (∃ a, ph = .answered a ∧ results = rs ++ [(23, some a)]) →
    (fault ↔ 2 ≤ results.length ∧ ∀ r ∈ results, r.2 = none) →
    (fault → run = min 26 (s.scan.faultedRun + 1)) → (¬ fault → run = 0) →
    ∃ t, exec .portSlotEnd s = .next t
      ∧ t.scan.round = none ∧ t.scan.faultedRun = run ∧ (t.scan.scanFault = true ↔ fault)
      ∧ (t.pointRaised (.part 3) = true ↔ fault)
      ∧ t.sup.record = s.sup.record ∧ t.sup.config = s.sup.config ∧ t.sup.farEnd = s.sup.farEnd ∧ t.path.mem = s.path.mem
      ∧ (fault ∧ run ≤ 25 → t.scan.processed = s.scan.processed ∧ t.sup = s.sup ∧ t.group = s.group
          ∧ t.driver = s.driver ∧ t.timing = s.timing)
      ∧ (¬ (fault ∧ run ≤ 25) → t.scan.processed = min 65535 (s.scan.processed + 1)
          ∧ (results ≠ [] → (∀ r ∈ s.sup.rounds.head?, r.results ≠ []) →
              t.sup.rounds = s.sup.rounds ++ [⟨min 65535 (s.scan.processed + 1), results⟩])
          ∧ (results = [] → s.sup.rounds = [] → t.sup.rounds = []
              ∧ (s.scan.processed = 0 → t.alarm.mode = .follow)))

/-- PORT_UPDATE (R25 to R30, R38 to R42, R56 to R61): the next result of the oldest round is taken. A port of kind NONE
discards it; a silent module moves one step toward ABSENT; an answer makes the port PRESENT, pushes its samples, decides its grade
from the grade kept and the new histories, and works its trace; a received bridge word reaches the group whose protect port it is
(R101). The last result ends the round in the same row (log entry 19): FOLLOW at the first, and the groups due by the kind they hold
are evaluated (R96; log entry 18). No other port's record changes
but that of a DUPLICATE promoted in the far-end map, and no configuration does. Where the points of a port or of a group followed its
record, they follow it after (R50, R69, R93), and the timing points follow the timing unit (R159). That the kind held at the turn
alone decides, so that a port set to NONE and back since its slot takes the old result, is the model's choice (log entry 45); that a
module gone ABSENT keeps its trace candidate and run is its reading (log entry 20). -/
def Obligations.PortUpdates : Prop :=
  ∀ (s : State) (n : Nat) (p : Port) (a : Option Answer) (more : List (Port × Option Answer)) (rest : List ProcessedRound),
    s.sup.rounds = ⟨n, (p, a) :: more⟩ :: rest →
    ∃ t, exec .portUpdate s = .next t
      ∧ (more ≠ [] → t.sup.rounds = ⟨n, more⟩ :: rest)
      ∧ (more = [] → rest = [] → t.sup.rounds = [] ∧ (n = 1 → t.alarm.mode = .follow)
          ∧ (∀ g : GroupId, t.group[g].evaluated = true ↔ s.group[g].evaluated = true
              ∨ (if GroupConfig.kind s.group[g].config = .shared then 3 ≤ n else 1 ≤ n)))
      ∧ t.sup.config = s.sup.config ∧ t.sup.calibration = s.sup.calibration ∧ t.path.mem = s.path.mem
      ∧ (∀ q : Port, q ≠ p → s.sup.record[q].trace ≠ .duplicate → t.sup.record[q] = s.sup.record[q])
      ∧ (∀ q : Port, q ≠ p → s.sup.record[q].trace ≠ .duplicate → t.sup.farEnd[q] = s.sup.farEnd[q])
      ∧ (∀ q : Port, PortPoints s q → PortPoints t q) ∧ (∀ g : GroupId, GroupPoints s g → GroupPoints t g)
      ∧ (s.sup.kind p ≠ .none → TimingPoints t)
      ∧ (s.sup.kind p = .none → t.sup.record = s.sup.record ∧ t.sup.farEnd = s.sup.farEnd)
      ∧ (s.sup.kind p ≠ .none → a = none →
        (s.sup.record[p].presence = .present →
          t.sup.record[p] = { s.sup.record[p] with presence := .missedOnce } ∧ t.sup.farEnd = s.sup.farEnd)
        ∧ (s.sup.record[p].presence = .missedOnce →
          t.sup.record[p] = { s.sup.record[p] with
            presence := .absent, grade := .failed, cause := some .absent, power := [], lol := [true, true, true], caps := none
            reduced := false, accepted := none, trace := .silent } ∧ t.sup.farEnd[p] = none)
        ∧ (s.sup.record[p].presence = .absent → t.sup.record = s.sup.record ∧ t.sup.farEnd = s.sup.farEnd))
      ∧ (∀ x, s.sup.kind p ≠ .none → a = some x →
        t.sup.record[p].presence = .present ∧ t.sup.record[p].caps = some ⟨x.power.isSome, x.overhead.isSome⟩
        ∧ t.sup.record[p].lol = (x.lol :: s.sup.record[p].lol).take 3
        ∧ t.sup.record[p].maintenance = s.sup.record[p].maintenance
        ∧ (t.sup.record[p].cause = if t.sup.record[p].grade = .failed then some .light else none)
        ∧ t.sup.record[p].grade = gradeDecision s.sup.config[p] { t.sup.record[p] with grade := s.sup.record[p].grade }
        ∧ (s.sup.kind p = .lolOnly → t.sup.record[p].power = s.sup.record[p].power
            ∧ t.sup.record[p].trace = .unchecked ∧ t.sup.record[p].accepted = none
            ∧ (s.sup.record[p].power = [] →
                (t.sup.record[p].grade = if lolMajority t.sup.record[p].lol then .failed else .good)))
        ∧ (∀ code k, s.sup.kind p = .power → x.power = some code →
            k = s.sup.calibration[PortConfig.calibrationSet s.sup.config[p]] → Calibration.valid k = true →
            t.sup.record[p].power = (Calibration.convert k code.toNat :: s.sup.record[p].power).take 4
            ∧ t.sup.record[p].reduced = false)
        ∧ (s.sup.kind p = .power →
            x.power = none ∨ Calibration.valid s.sup.calibration[PortConfig.calibrationSet s.sup.config[p]] = false →
            t.sup.record[p].power = [] ∧ t.sup.record[p].reduced = true)
        ∧ (s.sup.kind p = .power → x.overhead = none → t.sup.record[p].trace = .unchecked ∧ t.sup.record[p].accepted = none)
        ∧ (s.sup.kind p = .power → x.overhead ≠ none → t.sup.record[p].grade = .failed →
            t.sup.record[p].trace = .silent ∧ t.sup.record[p].accepted = none)
        ∧ (∀ word bridge, s.sup.kind p = .power → x.overhead = some (word, bridge) → t.sup.record[p].grade ≠ .failed →
            TraceTaken s.sup t.sup p (if word = 0 ∨ (word.toNat < 32768 ∧ 1 ≤ word.toNat / 32 ∧ word.toNat % 32 ≤ 23)
              then word else 0))
        ∧ (∀ (word bridge : Word) (g : GroupId), s.TableSound → x.overhead = some (word, bridge) → more ≠ [] →
            GroupConfig.kind s.group[g].config = .shared → GroupConfig.protect s.group[g].config = some p →
            t.sup.record[p].grade ≠ .failed → t.group[g].candidate = some bridge ∧ t.group[g].run =
              if s.group[g].candidate = some bridge then min 3 (s.group[g].run + 1) else 1))

/-! ## Grading and trace words -/

/-- A power code's conversion (R39): the quotient is the integer nearest to the exact one, a tie going away from zero, and the
power is P_lo plus it, clamped into -500 to +100; with a calibration set in its ranges no intermediate value leaves the bounds
the rule gives. -/
def Obligations.PowerConversion : Prop :=
  ∀ (k : Vector Word 4) (code : BitVec 12) (n d q : Int), Calibration.valid k = true →
    n = (code.toNat - k[0].toNat) * (k[3].toInt - k[1].toInt) → d = k[2].toNat - k[0].toNat →
    2 * |q * d - n| ≤ d → (2 * |q * d - n| = d → |n| < |q * d|) →
    (k[1].toInt + q < -500 → Calibration.convert k code.toNat = -500)
    ∧ (100 < k[1].toInt + q → Calibration.convert k code.toNat = 100)
    ∧ (-500 ≤ k[1].toInt + q ∧ k[1].toInt + q ≤ 100 → Calibration.convert k code.toNat = k[1].toInt + q)
    ∧ (k[0].toNat ≤ 4095 ∧ k[2].toNat ≤ 4095 ∧ -500 ≤ k[1].toInt ∧ k[3].toInt ≤ 100 →
        -2457000 ≤ n ∧ n ≤ 2457000 ∧ 1 ≤ d ∧ d ≤ 4095)
    ∧ (code.toNat < k[0].toNat → q ≤ 0) ∧ (k[2].toNat < code.toNat → k[3].toInt ≤ k[1].toInt + q)

/-- The grade decision (R46 to R49) for a port that is PRESENT, from its previous grade, its loss-of-light majority and its
smoothed power `v`, by the held FAIL, DEGRADE, OVERLOAD and H. -/
def Obligations.GradeDecision : Prop :=
  ∀ (cfg : Vector Word 8) (r : PortRecord) (fail degrade overload h : Int), r.presence = .present →
    fail = cfg[2].toInt → degrade = cfg[3].toInt → overload = cfg[4].toInt → h = cfg[5].toNat →
    (lolMajority r.lol = true → gradeDecision cfg r = .failed)
    ∧ (lolMajority r.lol = false → smoothedPower r.power = none → gradeDecision cfg r = .good)
    ∧ (∀ v ov deg, lolMajority r.lol = false → smoothedPower r.power = some v →
      (ov ↔ degrade < overload ∧ (if r.grade = .overload then overload - h < v else overload < v)) →
      (deg ↔ if r.grade = .degraded ∨ r.grade = .failed then v < degrade + h else v < degrade) →
      ((if r.grade = .failed then v < fail + h else v < fail) → gradeDecision cfg r = .failed)
      ∧ ((if r.grade = .failed then fail + h ≤ v else fail ≤ v) →
          (ov → gradeDecision cfg r = .overload) ∧ (¬ ov ∧ deg → gradeDecision cfg r = .degraded)
          ∧ (¬ ov ∧ ¬ deg → gradeDecision cfg r = .good)))

/-- Bridge words (R98, R192): the fields of a word formed are those it was formed from and its spare bits are zero; a received
word is valid for channel count `n` exactly by the four tests of R98. A word received on the protect port of a SHARED group is
discarded with the port FAILED or the protocol unusable (R101); otherwise the third in a row is judged: a valid one is accepted and
cancels a stored MANUAL if its level is above 2 (also where its request is the one held, log entry 47), an invalid one raises the
cause (R102, R107). The group's three live words show its record (R94, R193); a second is 8000 periods of the model's clock (log
entry 2). -/
def Obligations.BridgeWords : Prop :=
  (∀ (r : Request) (b : Fin 8), bridgeRequest (bridgeWord r b) = r ∧ bridgeBridged (bridgeWord r b) = b
    ∧ (bridgeWord r b) &&& 0xF888 = 0)
  ∧ (∀ (n : Nat) (w : Word), bridgeValid n w = true ↔
    w &&& 0xF888 = 0 ∧ w.toNat / 16 % 8 ≤ n ∧ w.toNat / 256 % 8 ≤ n
    ∧ (1 ≤ w.toNat % 8 ∧ w.toNat % 8 ≤ 5 → w.toNat / 16 % 8 ≠ 0)
    ∧ (w.toNat % 8 = 0 ∨ 6 ≤ w.toNat % 8 → w.toNat / 16 % 8 = 0))
  ∧ (∀ (s : State) (g : GroupId), GroupShown s.group[g] (s.liveWord (.groupState g)) (s.liveWord (.groupRequest g))
    ∧ (s.group[g].restoreWait = none → s.liveWord (.restoreWait g) = 0)
    ∧ (∀ n w, s.group[g].restoreWait = some n → n ≤ s.now + 5760000 → w = (s.liveWord (.restoreWait g)).toNat →
        n - s.now ≤ 8000 * w ∧ 8000 * w < n - s.now + 8000))
  ∧ (∀ (s t : State) (p : Port) (g : GroupId) (w : Word) (r : Group) (n : Nat), t = s.takeBridgeWord p w → s.TableSound →
    GroupConfig.kind s.group[g].config = .shared → GroupConfig.protect s.group[g].config = some p → r = s.group[g] →
    (s.sup.record[p].grade = .failed ∨ (∃ c, s.sup.record[p].caps = some c ∧ c.overhead = false) → t = s)
    ∧ (s.sup.record[p].grade ≠ .failed → (∀ c, s.sup.record[p].caps = some c → c.overhead = true) →
      n = (if r.candidate = some w then min 3 (r.run + 1) else 1) →
      (n ≠ 3 → t = s.setGroup g { r with candidate := some w, run := n })
      ∧ t.group[g].candidate = some w ∧ t.group[g].run = n ∧ OtherGroups s t g
      ∧ (n = 3 → bridgeValid (GroupConfig.count r.config) w = true →
          t.group[g].accepted = some w ∧ t.group[g].invalidWord = false)
      ∧ (n = 3 → bridgeValid (GroupConfig.count r.config) w = false →
          t.group[g].accepted = r.accepted ∧ t.group[g].invalidWord = true)
      ∧ (∀ k, n = 3 → bridgeValid (GroupConfig.count r.config) w = true → r.accepted ≠ some w → 2 < w.toNat % 8 →
          r.stored = some (.manual k) → t.group[g].stored = none ∧ (t.poster.overflow = true
            ∨ (⟨g, .command 3 .refusedLevel, s.poster.shelfTime⟩ : Event) ∈ t.poster.queue))))
  ∧ (∀ (s : State) (p : Port) (w : Word), (∀ g : GroupId, GroupConfig.kind s.group[g].config = .shared →
      GroupConfig.protect s.group[g].config ≠ some p) → s.takeBridgeWord p w = s)

/-! ## Protection groups -/

/-- An update of a group (R80 to R93, R103 to R105, R108, R110), in any state. The local requests are brought up to date: the
condition requests with their hold-off, PFAIL, a stored MANUAL cancelled with its event, the entry removed or made. The local top
request is the highest held, of the lower channel among equals. A group that is evaluated, at its first evaluation (R96) or after it,
takes its winner, reports a changed one, commands its selector, and its bridge if it is a complete SHARED group, and works its
confirmation timer; the first evaluation starts the timer of a WAIT entry. A group not yet evaluated keeps its winner, and no element
is commanded. The six conditions follow (R93) and their points with them; no other group and no other element changes. A step of
hold-off is 800 periods of the model's clock, a minute 480000 and the confirmation time 1600 (log entry 2); how the grade condition
before a change is known is log entry 35. The update is taken whole with the elements as the group had heard of them, and hands its
conditions over; the report that its own command makes on an element is an input after it (R121), which changes only ON PROTECT and
SWITCH FAULT; that it comes before any other input is log entry 17.
Its clauses on the unusable cause, and on the PFAIL and the dropped far-end word that follow it, rest on the model's choice that the
cause ends when the protect port's capabilities become absent, against R104's last paragraph and R111 (log entry 46). It says nothing
of the transmit word (R100), which RunningBegins and ScreenGroups state. -/
def Obligations.GroupUpdates : Prop :=
  ∀ (s t : State) (g : GroupId) (first : Bool), t = s.groupUpdate first g →
    OtherGroups s t g ∧ t.sup = s.sup ∧ t.mailbox = s.mailbox ∧ t.path = s.path ∧ t.driver.on = s.driver.on
    -- the requests held
    ∧ RequestsMet s s.group[g] t.group[g] ∧ (∀ q, q ∈ t.group[g].localRequests ↔ Held t.group[g] q)
    ∧ (∀ k, s.group[g].stored = some (.manual k) → t.group[g].stored = none → t.poster.overflow = true
        ∨ (⟨g, .command 3 .refusedLevel, s.poster.shelfTime⟩ : Event) ∈ t.poster.queue)
    ∧ (first = false → EntrySettled s s.group[g] t.group[g])
    ∧ (t.group[g].localRequests = [] → t.group[g].top = ⟨0, 0⟩)
    ∧ (t.group[g].localRequests ≠ [] → t.group[g].top ∈ t.group[g].localRequests)
    ∧ (∀ x ∈ t.group[g].localRequests, x.level.val < t.group[g].top.level.val
        ∨ (x.level = t.group[g].top.level ∧ t.group[g].top.channel.val ≤ x.channel.val))
    ∧ (first = false → s.group[g].evaluated = false →
        t.group[g].evaluated = false ∧ t.group[g].winner = s.group[g].winner ∧ t.driver = s.driver
        ∧ t.group[g].confirmation = s.group[g].confirmation ∧ t.group[g].timeout = s.group[g].timeout)
    ∧ (∀ k, first = true → t.group[g].entry = some (.wait k) → s.group[g].evaluated = false →
        t.group[g].restoreWait = some (s.now + 480000 * GroupConfig.restoreWait s.group[g].config))
    ∧ (first = true ∨ s.group[g].evaluated = true →
        t.group[g].evaluated = true
        ∧ (GroupConfig.complete s.group[g].config = false → t.group[g].winner = ⟨0, 0⟩)
        ∧ (GroupConfig.complete s.group[g].config = true → GroupConfig.kind s.group[g].config = .paired →
            t.group[g].winner = t.group[g].top)
        ∧ (∀ far top : Request, GroupConfig.complete s.group[g].config = true →
            GroupConfig.kind s.group[g].config = .shared → top = t.group[g].top →
            far = (match t.group[g].accepted with | some w => bridgeRequest w | none => ⟨0, 0⟩) →
            (top.level.val < far.level.val ∨ (top.level = far.level ∧ far.channel.val < top.channel.val) →
              t.group[g].winner = far ∧ t.group[g].source = .farEnd)
            ∧ (¬ (top.level.val < far.level.val ∨ (top.level = far.level ∧ far.channel.val < top.channel.val)) →
              t.group[g].winner = top ∧ t.group[g].source = .local))
        ∧ (t.group[g].winner ≠ s.group[g].winner → t.poster.overflow = true
            ∨ (⟨g, .switch s.group[g].winner t.group[g].winner, s.poster.shelfTime⟩ : Event) ∈ t.poster.queue)
        ∧ (∀ e, GroupConfig.selector s.group[g].config = some e → t.group[g].winner.channel.val < 5 →
            ((t.element e).commanded.val =
              if GroupConfig.complete s.group[g].config = true
                ∧ 1 ≤ t.group[g].winner.level.val ∧ t.group[g].winner.level.val ≤ 5
                ∧ (GroupConfig.kind s.group[g].config = .paired → t.group[g].winner.channel = 1)
                ∧ (GroupConfig.kind s.group[g].config = .shared → ∃ w, t.group[g].accepted = some w
                    ∧ bridgeBridged w = t.group[g].winner.channel) ∧ GroupConfig.kind s.group[g].config ≠ .none
              then t.group[g].winner.channel.val else 0))
        ∧ (∀ e, GroupConfig.bridge s.group[g].config = some e → GroupConfig.selector s.group[g].config ≠ some e →
            (GroupConfig.complete s.group[g].config = true → GroupConfig.kind s.group[g].config = .shared →
              t.group[g].winner.channel.val < 5 → (t.element e).commanded.val =
                if 1 ≤ t.group[g].winner.level.val ∧ t.group[g].winner.level.val ≤ 5 then t.group[g].winner.channel.val else 0)
            ∧ (GroupConfig.complete s.group[g].config = false ∨ GroupConfig.kind s.group[g].config ≠ .shared →
              t.element e = s.element e))
        ∧ Confirmed s s.group[g] t.group[g])
    ∧ (∀ e, GroupConfig.selector s.group[g].config ≠ some e → GroupConfig.bridge s.group[g].config ≠ some e →
        t.element e = s.element e)
    -- the conditions
    ∧ ConditionsMet s t g ∧ GroupPoints t g
    ∧ (∀ e x, GroupConfig.selector s.group[g].config = some e → SettledAt t e x → ¬ SettledAt s e x →
        (t.group[g].conditions.onProtect = true ↔ x ≠ 0))
    ∧ ((∀ e, GroupConfig.selector s.group[g].config = some e → ¬ ShownAs t e .settled ∨ t.element e = s.element e) →
        t.group[g].conditions.onProtect = s.group[g].conditions.onProtect)
    -- the reports of its own commands come after the update
    ∧ (∃ u : State, u = s.takeUpdate s.driver first g ∧ GroupPoints u g ∧ t.driver = u.driver ∧ u.poster.queue <+: t.poster.queue
      ∧ u.group[g].conditions.onProtect = s.group[g].conditions.onProtect
      ∧ (u.group[g].conditions.switchFault = true ↔ s.driver.on = true ∧ ∃ e : ElementId, (s.element e).state = .faulted
          ∧ (GroupConfig.selector s.group[g].config = some e ∨ GroupConfig.bridge s.group[g].config = some e))
      ∧ t.group[g] = { u.group[g] with conditions := { u.group[g].conditions with
          onProtect := t.group[g].conditions.onProtect, switchFault := t.group[g].conditions.switchFault } })
    ∧ s.updateGroup g = s.groupUpdate false g

/-- HOLD_OFF_EXPIRY (R81), RESTORE_WAIT_EXPIRY (R88) and CONFIRMATION_TIMER_EXPIRY (R110) of a running timer: the timer is idle,
the raised request takes the grade condition, the entry is removed, or the timeout is held until no disagreement is found; the
group is updated and no other group changes. The model's clock goes to the expiry at least (log entry 2). -/
def Obligations.GroupTimers : Prop :=
  (∀ (s : State) (g : GroupId) (k : ChannelIx) (n : Nat), s.group[g].channel[k].holdOff = some n →
    ∃ t, exec (.holdOffExpiry g k) s = .next t ∧ t.now = max s.now n
      ∧ t.group[g].channel[k].holdOff = none
      ∧ (GroupConfig.working s.group[g].config k = none → t.group[g].channel[k].raised = .clear)
      ∧ (∀ q, GroupConfig.working s.group[g].config k = some q → t.group[g].channel[k].raised =
          (if s.sup.record[q].grade = .failed then .fail
           else if (s.sup.record[q].grade = .degraded ∨ s.sup.record[q].grade = .overload)
              ∧ GroupConfig.degradeSwitches s.group[g].config = true then .degrade
           else .clear))
      ∧ OtherGroups s t g ∧ t.sup = s.sup ∧ t.mailbox = s.mailbox ∧ t.path.mem = s.path.mem)
  ∧ (∀ (s : State) (g : GroupId) (n : Nat), s.group[g].restoreWait = some n →
    ∃ t, exec (.restoreWaitExpiry g) s = .next t ∧ t.now = max s.now n
      ∧ (s.group[g].winner.level.val ≤ 1 → t.group[g].entry = none ∧ t.group[g].restoreWait = none)
      ∧ (∃ u, u = (({ s with now := max s.now n } : State).setGroup g
          { s.group[g] with entry := none, restoreWait := none }).updateGroup g ∧ Regranted u t)
      ∧ OtherGroups s t g ∧ t.sup = s.sup ∧ t.mailbox = s.mailbox ∧ t.path.mem = s.path.mem)
  ∧ (∀ (s : State) (g : GroupId) (k : Fin 8) (n : Nat), s.group[g].confirmation = some (k, n) →
    ∃ t, exec (.confirmationTimerExpiry g) s = .next t ∧ t.now = max s.now n
      ∧ t.group[g].confirmation = none
      ∧ (s.group[g].evaluated = true → (t.group[g].timeout = true ↔ GroupConfig.kind s.group[g].config = .shared
          ∧ 1 ≤ t.group[g].winner.level.val ∧ t.group[g].winner.level.val ≤ 5
          ∧ t.group[g].farBridged ≠ t.group[g].winner.channel))
      ∧ (t.group[g].timeout = true → GroupConfig.kind s.group[g].config = .shared → t.pointRaised (.group g 4) = true)
      ∧ OtherGroups s t g ∧ t.sup = s.sup ∧ t.mailbox = s.mailbox ∧ t.path.mem = s.path.mem)

/-! ## Switch elements -/

/-- SENSE_CHANGE and TRAVEL_TIMER_EXPIRY (R115, R116, R118 to R121): the record after each by the table of R118, R119 and R120;
an unreported change touches nothing else; a report is taken by the group that names the element, whose conditions and points follow
(R93), and by the timing unit, whose points follow (R159). The drive output is toward the commanded position while the drive is
on and the element TRAVELLING or FAULTED, and none otherwise; of a sound driver it is none exactly where the drive is off or the
commanded position is sensed. The travel time is 400 periods of the model's clock (log entry 2), and the operand has a line for each position (log entry 31). -/
def Obligations.SwitchEvents : Prop :=
  (∀ x : BitVec 5, (∀ p : Position, x.toNat = 2 ^ p.val → sensedOf x = some p)
    ∧ ((∀ p : Position, x.toNat ≠ 2 ^ p.val) → sensedOf x = none))
  ∧ (∀ (s : State) (e : ElementId) (x : BitVec 5) (v : Option Position) (el : Element), v = sensedOf x → el = s.element e →
    (v = el.sensed → ∃ t, exec (.senseChange e x) s = .next t ∧ Regranted s t)
    ∧ (s.driver.on = false → ∃ t, exec (.senseChange e x) s = .next t
        ∧ Regranted (s.setElement e { el with sensed := v }) t ∧ ∀ j : ElementId, t.driveOutput j = none)
    ∧ (s.driver.on = true → v ≠ el.sensed → v ≠ some el.commanded → el.state ≠ .settled →
        ∃ t, exec (.senseChange e x) s = .next t ∧ Regranted (s.setElement e { el with sensed := v }) t
          ∧ t.driveOutput e = some el.commanded)
    ∧ (∀ el' : Element, s.driver.on = true → v ≠ el.sensed →
        (v = some el.commanded ∧ el.state ≠ .settled ∧ el' = ⟨el.commanded, v, .settled, none⟩)
          ∨ (v ≠ some el.commanded ∧ el.state = .settled ∧ el' = ⟨el.commanded, v, .travelling, some (s.now + 400)⟩) →
        ∃ t, exec (.senseChange e x) s = .next t ∧ Regranted ((s.setElement e el').takeReport e) t
          ∧ ((∀ g : GroupId, GroupConfig.selector s.group[g].config ≠ some e ∧ GroupConfig.bridge s.group[g].config ≠ some e) →
              t.group = s.group ∧ t.driver = (s.setElement e el').driver
              ∧ t.driveOutput e = if el'.state = .settled then none else some el.commanded)))
  ∧ (∀ (s t : State) (e : ElementId) (el' : Element), s.driver.on = true → t = (s.setElement e el').takeReport e →
    TimingPoints t
    ∧ (∀ g : GroupId, s.TableSound →
      GroupConfig.selector s.group[g].config = some e ∨ GroupConfig.bridge s.group[g].config = some e →
      ConditionsMet s t g ∧ GroupPoints t g
      ∧ (GroupConfig.selector s.group[g].config = some e → t.element e = el' → el'.state ≠ (s.element e).state →
        (el'.state = .settled → (t.group[g].conditions.onProtect = true ↔ el'.commanded ≠ 0))
        ∧ (el'.state ≠ .settled → t.group[g].conditions.onProtect = s.group[g].conditions.onProtect))))
  ∧ (∀ (s : State) (e : ElementId) (n : Nat) (el' : Element), s.driver.on = true → (s.element e).state = .travelling →
    (s.element e).travel = some n → el' = { s.element e with state := .faulted, travel := none } →
    ∃ t u, exec (.travelTimerExpiry e) s = .next t ∧ u = ({ s with now := max s.now n } : State)
      ∧ Regranted ((u.setElement e el').takeReport e) t
      ∧ ((∀ g : GroupId, GroupConfig.selector s.group[g].config ≠ some e ∧ GroupConfig.bridge s.group[g].config ≠ some e) →
          t.group = s.group ∧ t.driver = (s.setElement e el').driver ∧ t.driveOutput e = some (s.element e).commanded))
  ∧ (∀ (s : State) (e : ElementId),
    (s.driver.on = true → (s.element e).state ≠ .settled → s.driveOutput e = some (s.element e).commanded)
    ∧ (s.driver.on = false ∨ (s.element e).state = .settled → s.driveOutput e = none)
    ∧ (s.DriveSound → (s.driveOutput e = none ↔ s.path.op ≠ .running ∨ (s.element e).sensed = some (s.element e).commanded)))

/-! ## Shelf timing -/

/-- SLOT_PULSE (R147) and the expiries of the loss window (R147), the qualify timer (R149) and the settle timer (R145): the slot's
own change, after which every slot's state is decided by R146's table and the selection by R150, the generator follows by R155 to
R157, the timing points follow (R159) and a changed generator state or selection puts its TIMING event (R151; that each input is one
step, and that the TIMING event comes before the ALARM events, are the model's choices, log entries 49 and 16); a station slot, which no source condition touches, shows its measured state; no slot's last offset changes. A pulse counts in its gate, and the
1,000th comes as the gate's completion (R148; log entry 26). A report on a line slot's selector begins SETTLING, decides the source
port or ends SETTLING (R144, R145); that a decision of no source port where one was measured, or the reverse, starts SETTLING with its
timer is the model's reading (log entry 22), and so is that a SETTLING slot keeps its measured state while source condition 4 or 5 of
R146 holds, by R145 (log entry 36). Times are on the model's clock (log entry 2). -/
def Obligations.SlotTimers : Prop :=
  (∀ (s : State) (i : SlotId) (r x : Slot) (gate : Option Nat), r = s.timing.slot[i] →
    gate = (match r.gate with | none => some 0 | some n => some (n + 1)) →
    x = (if r.measured = .lost then
        { r with loss := some (s.now + slotLossWindow s.timing.config[i]), gate := gate, measured := .qualifying
                 qualify := some (s.now + 8000 * bits s.timing.config[i][2] 0 6) }
      else { r with loss := some (s.now + slotLossWindow s.timing.config[i]), gate := gate }) →
    (s.path.op ≠ .running ∨ slotPriority s.timing.config[i] = 0 ∨ r.settling = true ∨ r.gate = some 999 →
      ∃ t, exec (.slotPulse i) s = .next t ∧ Regranted s t)
    ∧ (s.path.op = .running → slotPriority s.timing.config[i] ≠ 0 → r.settling = false →
      r.gate ≠ some 999 → (i.val < 2 → bits s.timing.stationKind 0 2 ≠ 0) → (2 ≤ i.val → r.source ≠ none) →
      ∃ t, exec (.slotPulse i) s = .next t ∧ Regranted (State.retimeFrom s (s.setSlot i x)) t
        ∧ (i.val < 2 → t.timing.slot[i] = { x with state := x.measured.shown })
        ∧ (∀ j : SlotId, t.timing.slot[j].lastOffset = s.timing.slot[j].lastOffset)))
  ∧ (∀ (s u : State) (i : SlotId) (r : Slot) (n : Nat), r = s.timing.slot[i] → u = { s with now := max s.now n } →
    (r.loss = some n → ∃ t, exec (.lossWindowExpiry i) s = .next t
      ∧ Regranted (State.retimeFrom u (u.setSlot i { r with measured := .lost, loss := none, gate := none, qualify := none })) t
      ∧ t.timing.slot[i].qualify = none ∧ t.timing.slot[i].loss = none ∧ t.timing.slot[i].gate = none
      ∧ (i.val < 2 → t.timing.slot[i].measured = .lost)
      ∧ (∀ j : SlotId, t.timing.slot[j].lastOffset = s.timing.slot[j].lastOffset))
    ∧ (r.qualify = some n → r.measured = .qualifying → ∃ t, exec (.qualifyTimerExpiry i) s = .next t
      ∧ Regranted (State.retimeFrom u (u.setSlot i { r with measured := .available, qualify := none })) t
      ∧ (i.val < 2 → s.path.op = .running → slotPriority s.timing.config[i] ≠ 0 → t.timing.slot[i].state = .available)
      ∧ t.timing.slot[i].qualify = none
      ∧ (∀ j : SlotId, t.timing.slot[j].lastOffset = s.timing.slot[j].lastOffset))
    ∧ (∀ l : LineId, i.val = l.val + 2 → r.settle = some n → ∃ t, exec (.settleTimerExpiry l) s = .next t
      ∧ Regranted (State.retimeFrom u (u.setSlot i { r with
          settling := false, settle := none, loss := some (u.now + slotLossWindow s.timing.config[i])
          qualify := if r.measured = .qualifying then some (u.now + 8000 * bits s.timing.config[i][2] 0 6) else none })) t
      ∧ t.timing.slot[i].settling = false ∧ t.timing.slot[i].settle = none ∧ t.timing.slot[i].state ≠ .settling))
  ∧ (∀ (began s t : State), t = State.retimeFrom began s →
    (∀ i : SlotId, StateDecided s i s.timing.slot[i] t.timing.slot[i]) ∧ Selects s.timing.selected t.timing
    ∧ Follows s.timing t.timing ∧ TimingPoints t ∧ TimingReported began t s.poster.queue s.poster.shelfTime)
  ∧ (∀ (s t : State) (e : ElementId), t = s.timingReport e → Selects s.timing.selected t.timing
    ∧ Follows s.timing t.timing ∧ TimingPoints t ∧ TimingReported s t s.poster.queue s.poster.shelfTime)
  ∧ (∀ (s t : State) (e : ElementId) (l : LineId) (i : SlotId) (r x : Slot), t = s.timingReport e →
    s.sourceSelector l = some e → i.val = l.val + 2 → slotPriority s.timing.config[i] ≠ 0 → s.path.op = .running →
    r = s.timing.slot[i] → x = t.timing.slot[i] →
    (ShownAs s e .travelling → x.state = .settling ∧ x.settling = true ∧ x.settle = none ∧ x.qualify = none
      ∧ x.loss = none ∧ x.gate = none ∧ x.measured = r.measured)
    ∧ (ShownAs s e .faulted → x.state = .lost ∧ x.measured = .lost
      ∧ (r.settling = true → x.settling = false ∧ x.settle = none))
    ∧ (∀ p, ShownAs s e .settled → SourceIs s l p → Decides r x False False p s.now))

/-- GATE_COMPLETE and GATE_OVERRUN (R148, R149, R153), for the 1,000th pulse of a gate and for a gate in progress: the offset is
the exact quotient rounded to nearest, ties away from zero, and clamped, and the next gate starts; a station slot is judged against
its limit; the gate of a slot that stays selected and AVAILABLE steers a tracking generator, whose lock and history Steering states;
with any other gate the generator follows the selection (R155 to R157). A gate abandoned leaves -9999 and
disqualifies. That a qualify timer runs only in QUALIFYING is among the laws of TimingKept. That the sender's row brings the count,
and that a gate whose pulse finds the measured state LOST is judged from QUALIFYING, which R149's table leaves open, are the model's
choices (log entry 26). -/
def Obligations.Gates : Prop :=
  (∀ (s : State) (i : SlotId) (m : Nat) (q o : Int), s.takesPulses i = true → s.timing.slot[i].gate = some 999 → s.timing.Sound →
    0 < m → m ≤ 5120000 →
    2 * |q * (m : Int) - (2560000 - (m : Int)) * 10000000| ≤ m →
    (2 * |q * (m : Int) - (2560000 - (m : Int)) * 10000000| = m → |(2560000 - (m : Int)) * 10000000| < |q * (m : Int)|) →
    o = max (-9999) (min 9999 q) →
    ∃ t, exec (.gateComplete i m) s = .next t ∧ t.timing.slot[i].lastOffset = o ∧ t.timing.slot[i].gate = some 0
      ∧ (∀ j : SlotId, j ≠ i → t.timing.slot[j].lastOffset = s.timing.slot[j].lastOffset)
      ∧ (i.val < 2 →
        (|o| ≤ slotLimit s.timing.config[i] → s.timing.slot[i].measured = .available → t.timing.slot[i].state = .available)
        ∧ (|o| ≤ slotLimit s.timing.config[i] → s.timing.slot[i].measured ≠ .available → t.timing.slot[i].state = .qualifying)
        ∧ (slotLimit s.timing.config[i] < |o| → t.timing.slot[i].state = .disqualified ∧ t.timing.slot[i].qualify = none))
      ∧ (s.timing.gen.tracking = true → s.timing.selected = some i → t.timing.selected = some i →
          t.timing.slot[i].state = .available →
          t.timing.offset = s.timing.offset + max (-5) (min 5 (o - s.timing.offset))
          ∧ ∃ u, u = s.timing.steer o ∧ t.timing.gen = u.gen ∧ t.timing.lockCount = u.lockCount
            ∧ t.timing.partialCount = u.partialCount ∧ t.timing.partialSum = u.partialSum ∧ t.timing.history = u.history)
      ∧ (s.timing.gen.tracking = false ∨ s.timing.selected ≠ some i ∨ t.timing.selected ≠ some i
          ∨ t.timing.slot[i].state ≠ .available → Follows s.timing t.timing)
      ∧ Selects s.timing.selected t.timing ∧ TimingPoints t)
  ∧ (∀ (s : State) (i : SlotId) (r x : Slot), s.takesPulses i = true → r = s.timing.slot[i] → r.gate ≠ none →
    x = { r with gate := none, lastOffset := -9999
                 measured := if r.measured = .lost then .lost else .disqualified
                 qualify := if r.measured = .qualifying then none else r.qualify } →
    ∃ t, exec (.gateOverrun i) s = .next t ∧ Regranted (State.retimeFrom s (s.setSlot i x)) t
      ∧ t.timing.slot[i].lastOffset = -9999 ∧ t.timing.slot[i].gate = none
      ∧ (∀ j : SlotId, j ≠ i → t.timing.slot[j].lastOffset = s.timing.slot[j].lastOffset))

/-- A steering gate (R153, R154, R158): the offset moves by at most 5 toward the gate's, lock follows the table of R154, and a
gate that finds and leaves the generator in LOCKED-FINE enters the partial interval, whose 480th gate pushes the mean. That only such
a gate enters it, and not the one that brings LOCKED-FINE, is the model's reading (log entry 27). -/
def Obligations.Steering : Prop :=
  ∀ (t u : Timing) (gate d : Int), u = t.steer gate → t.gen.tracking = true → d = gate - u.offset →
    u.offset = t.offset + max (-5) (min 5 (gate - t.offset))
    ∧ u.selected = t.selected ∧ u.slot = t.slot ∧ u.config = t.config ∧ u.forced = t.forced ∧ u.noted = t.noted
    ∧ (t.gen = .acquiring →
        (|d| ≤ 20 → t.lockCount + 1 = 4 → u.gen = .locked ∧ u.lockCount = 0)
        ∧ (|d| ≤ 20 → t.lockCount + 1 ≠ 4 → u.gen = .acquiring ∧ u.lockCount = t.lockCount + 1)
        ∧ (20 < |d| → u.gen = .acquiring ∧ u.lockCount = 0))
    ∧ (t.gen = .locked →
        (|d| ≤ 2 → t.lockCount + 1 = 16 → u.gen = .lockedFine ∧ u.lockCount = 0)
        ∧ (|d| ≤ 2 → t.lockCount + 1 ≠ 16 → u.gen = .locked ∧ u.lockCount = t.lockCount + 1)
        ∧ (2 < |d| → |d| ≤ 20 → u.gen = .locked ∧ u.lockCount = 0)
        ∧ (20 < |d| → u.gen = .acquiring ∧ u.lockCount = 0))
    ∧ (t.gen = .lockedFine →
        (|d| ≤ 2 → u.gen = .lockedFine ∧ u.lockCount = 0)
        ∧ (2 < |d| → |d| ≤ 20 → t.lockCount + 1 = 4 → u.gen = .locked ∧ u.lockCount = 0)
        ∧ (2 < |d| → |d| ≤ 20 → t.lockCount + 1 ≠ 4 → u.gen = .lockedFine ∧ u.lockCount = t.lockCount + 1)
        ∧ (20 < |d| → u.gen = .acquiring ∧ u.lockCount = 0))
    ∧ (t.gen = .lockedFine → u.gen = .lockedFine → t.partialCount + 1 ≠ 480 →
        u.partialCount = t.partialCount + 1 ∧ u.partialSum = t.partialSum + u.offset ∧ u.history = t.history)
    ∧ (t.gen = .lockedFine → u.gen = .lockedFine → t.partialCount + 1 = 480 → u.partialCount = 0 ∧ u.partialSum = 0
        ∧ u.history = (Int.tdiv (t.partialSum + u.offset) 480 :: t.history).take 4)
    ∧ (u.gen ≠ .lockedFine → u.partialCount = 0 ∧ u.partialSum = 0 ∧ u.history = t.history)

/-! ## Alarms, events and the ring -/

/-- An event put and a result recorded (R134, R175, R176, R179): below 16 the event enters at the tail with the shelf time and an
IDLE poster is POSTING; at 16 it is lost and overflow-pending is set; a result sets last result and code, counts, puts its
COMMAND event and raises COMMAND-DONE. The poster word shows the index, the queue with overflow-pending, and the poster's state
with its flags (R183, R196). -/
def Obligations.EventsAndResults : Prop :=
  (∀ s : State, s.poster.index < 256 → s.poster.queue.length ≤ 16 → PosterShown s.poster (s.liveWord .poster)) ∧
  (∀ (s : State) (o : Nat) (d : Detail),
    (s.poster.queue.length < 16 → s.putEvent o d = { s with poster := { s.poster with
        queue := s.poster.queue ++ [⟨o, d, s.poster.shelfTime⟩]
        state := if s.poster.state = .idle then .posting else s.poster.state } })
    ∧ (16 ≤ s.poster.queue.length → s.putEvent o d = { s with poster := { s.poster with overflow := true } }))
  ∧ (∀ (s : State) (c : BitVec 4) (o : Nat) (r : CommandResult), s.poster.QueueSound →
    Recorded s (s.recordResult c o r) c o r
    ∧ (s.recordResult c o r).mailbox.count.toNat = (s.mailbox.count.toNat + 1) % 16
    ∧ (s.recordResult c o r).mailbox.state = s.mailbox.state ∧ (s.recordResult c o r).mailbox.pending = s.mailbox.pending)

/-- A hand-over to the alarm unit (R165, R166): a repeated value has no effect; a transition sets the point and its latch, raises
ALARM-CHANGE, leaves every other point and latch, and puts an ALARM event exactly when the report mode names it. -/
def Obligations.PointTransitions : Prop :=
  ∀ (s t : State) (pt : Point) (v : Bool), t = s.setPoint pt v →
    (s.pointRaised pt = v → t = s)
    ∧ (s.pointRaised pt ≠ v →
      t.pointRaised pt = v ∧ t.pointLatched pt = true ∧ t.alarm.alarmChange = true
      ∧ (∀ q : Point, q ≠ pt → t.pointRaised q = s.pointRaised q ∧ t.pointLatched q = s.pointLatched q)
      ∧ ((s.profileOf pt).getLsbD (if v then 4 else 5) = false → t.poster = s.poster)
      ∧ ((s.profileOf pt).getLsbD (if v then 4 else 5) = true → t.poster = (s.putEvent pt.object
          (.alarm pt.kind v ((s.profileOf pt).toNat % 4) (s.suppressed pt))).poster)
      ∧ t.path = s.path ∧ t.mailbox = s.mailbox ∧ t.scan = s.scan ∧ t.sup = s.sup ∧ t.group = s.group
      ∧ t.driver = s.driver ∧ t.timing = s.timing ∧ t.alarm.profile = s.alarm.profile ∧ t.alarm.mode = s.alarm.mode)

/-- The memory cycles of a posting (R180 to R182), for the event at the head of the queue at its descriptor, with the port granted
to the poster and no cycle held: OWN clear enters BUSY, OWN set keeps WRAP; words 1, 2 and 3 are the event's; word 0 is written last,
the event leaves the queue, EVENT-POSTED is raised and the index moves on. OVERFLOWED is overflow-pending as the cycle's grant found
it (log entry 38), and overflow-pending clears if it went out (R175). That words 1 and 2 hold 0 in the bits for which R197 has no field
is log entry 52. -/
def Obligations.DescriptorCycles : Prop :=
  ∀ (s : State) (e : Event) (q : List Event) (b : Bool) (at_ : Nat → Addr), s.path.op = .running → s.poster.state = .posting →
    s.path.grant = some (.poster b) → s.path.held = [] → s.poster.queue = e :: q → s.poster.QueueSound →
    (∀ j, at_ j = BitVec.ofNat 19 (8 * s.poster.ringBase.toNat + 4 * s.poster.index + j)) →
    (s.poster.step = .readWord0 → (s.memWord (at_ 0)).getLsbD 0 = true → ∃ t, exec .descriptorWord0Read s = .next t
      ∧ Regranted { s with poster := { s.poster with
          wrapKept := (s.memWord (at_ 0)).getLsbD 1, step := .writeWord1 } } t)
    ∧ (s.poster.step = .readWord0 → (s.memWord (at_ 0)).getLsbD 0 = false → ∃ t, exec .descriptorWord0Read s = .next t
      ∧ t.poster.state = .busy ∧ s.poster.queue <+: t.poster.queue ∧ t.poster.index = s.poster.index
      ∧ t.poster.ringChange = s.poster.ringChange ∧ t.alarm.ringBusy = true ∧ t.pointRaised (.part 1) = true
      ∧ t.path.mem = s.path.mem)
    ∧ (∀ j w n, (s.poster.step = .writeWord1 ∧ j = 1 ∧ w = wordOf (e.detail.kindCode + 256 * e.object) ∧ n = .writeWord2)
        ∨ (s.poster.step = .writeWord2 ∧ j = 2 ∧ w = e.detail.word ∧ n = .writeWord3)
        ∨ (s.poster.step = .writeWord3 ∧ j = 3 ∧ w = e.stamp ∧ n = .writeWord0) →
      ∃ t, exec .descriptorWordWrite s = .next t
        ∧ Regranted { s.memWrite (at_ j) .word w with poster := { s.poster with step := n } } t)
    ∧ (s.poster.step = .writeWord0 → ∃ t, exec .descriptorWord0Write s = .next t
      ∧ t.path.mem = (s.memWrite (at_ 0) .word (wordOf (2 * bitOf s.poster.wrapKept + 4 * bitOf b
          + 8 * bitOf e.detail.suppressed))).path.mem
      ∧ q <+: t.poster.queue ∧ t.poster.overflow = (s.poster.overflow && !b) ∧ t.alarm.eventPosted = true ∧ t.poster.step = .readWord0
      ∧ (t.poster.state = if t.poster.queue = [] then .idle else .posting)
      ∧ (s.poster.wrapKept = true → t.poster.index = 0 ∧ t.poster.wrapFault = s.poster.wrapFault)
      ∧ (s.poster.wrapKept = false → s.poster.index + 1 = s.poster.ringSize.toNat →
          t.poster.index = 0 ∧ t.poster.wrapFault = true)
      ∧ (s.poster.wrapKept = false → s.poster.index + 1 ≠ s.poster.ringSize.toNat →
          t.poster.index = s.poster.index + 1 ∧ t.poster.wrapFault = s.poster.wrapFault)
      ∧ (t.pointRaised (.part 2) = true ↔ t.poster.wrapFault = true)
      ∧ t.sup = s.sup ∧ t.group = s.group ∧ t.driver = s.driver ∧ t.timing = s.timing ∧ t.mailbox = s.mailbox)

/-! ## What every step keeps -/

/-- Memory in canonical form, and in RUNNING every watched word in memory equal to its owner's value (R17), are kept by every
step, whatever the processor writes and the poster posts; in LOADING the words the loader has passed, and a write-back that waits is of
the word the loader stands on, with a RING SIZE in its range. -/
def Obligations.AgreementKept : Prop := ∀ s t : State, s.Agreement → step s = .next t → t.Agreement

/-- The far-end map stays consistent with the port records and no identity is held twice (R58 to R60). -/
def Obligations.FarEndMapKept : Prop := ∀ s t : State, s.sup.MapSound → step s = .next t → t.sup.MapSound

/-- ALARM-CHANGE follows the latches (R172), and in FOLLOW and ALL-ALARM the relays and cut-offs stay what R170 and R171 give. -/
def Obligations.AlarmsKept : Prop := ∀ s t : State, s.AlarmSound → step s = .next t → t.AlarmSound

/-- The generator tracks only a selected AVAILABLE slot, every offset stays in range, the history stays within four entries (R152,
R157, R158), a qualify timer runs only in QUALIFYING (R149), and a gate in progress has counted fewer than 1,000 pulses (R148). -/
def Obligations.TimingKept : Prop := ∀ s t : State, s.timing.Sound → step s = .next t → t.timing.Sound

/-- The confirm window runs only in AWAIT-CONFIRM, and a command is pending only in AWAIT-CONFIRM and EXECUTING (R126, R140). -/
def Obligations.MailboxKept : Prop := ∀ s t : State, s.MailboxSound → step s = .next t → t.MailboxSound

/-- The drive is on exactly in RUNNING, and every element means what its state says (R115, R116). -/
def Obligations.DriveKept : Prop := ∀ s t : State, s.DriveSound → step s = .next t → t.DriveSound

/-- No port and no element is named twice in the group table, every named port is monitored, and every channel count is 1 to 4 (R74,
R75, R32), in LOADING also with the value of a write-back that waits. -/
def Obligations.GroupTableKept : Prop := ∀ s t : State, s.GroupsDisjoint → step s = .next t → t.GroupsDisjoint

/-- The event queue holds at most 16 events, and the poster is IDLE only with none, POSTING or BUSY only with one (R175, R179). The
memory port is held by the memory path in the start check, in LOADING and for a read-back, and by the poster exactly while it is
POSTING; a processor cycle is held in RUNNING only for the poster (R11, R13; log entry 9). Overflow-pending is set only with 15 or 16
events queued, the ring-change flag in RUNNING only in BUSY or DISABLED, and the wrap-fault flag never in DISABLED (R196). -/
def Obligations.QueueKept : Prop :=
  (∀ s t : State, s.poster.QueueSound → step s = .next t → t.poster.QueueSound)
  ∧ (∀ s t : State, s.PortSound → step s = .next t → t.PortSound)

/-- `State.reset` meets all of them. -/
def Obligations.SoundAtReset : Prop :=
  State.reset.Agreement ∧ State.reset.sup.MapSound ∧ State.reset.AlarmSound ∧ State.reset.timing.Sound
  ∧ State.reset.MailboxSound ∧ State.reset.DriveSound ∧ State.reset.GroupsDisjoint ∧ State.reset.poster.QueueSound ∧ State.reset.PortSound

end
end

