-- ==== Sys2Proof/Laws/State.lean ====
section
/-! SUPPORT. Small lemmas about tables, and folds that keep a part of the state. -/

namespace Sys2Proof.Machine

@[simp] theorem put_same {α : Type} {n : Nat} (v : Vector α n) (i : Fin n) (x : α) : (put v i x)[i] = x := by
  simp [put]

theorem put_get {α : Type} {n : Nat} (v : Vector α n) (i j : Fin n) (x : α) :
    (put v i x)[j] = if i = j then x else v[j] := by
  simp only [put, Fin.getElem_fin, Vector.getElem_set, Fin.ext_iff]

@[simp] theorem put_other {α : Type} {n : Nat} (v : Vector α n) (i j : Fin n) (x : α) (h : i ≠ j) :
    (put v i x)[j] = v[j] := by
  rw [put_get, if_neg h]

@[simp] theorem put_same_val {α : Type} {n : Nat} (v : Vector α n) (i : Fin n) (x : α) (h : i.val < n) :
    (put v i x)[i.val] = x := put_same v i x

@[simp] theorem put_other_val {α : Type} {n : Nat} (v : Vector α n) (i j : Fin n) (x : α) (h : i ≠ j) (hj : j.val < n) :
    (put v i x)[j.val] = v[j.val] := put_other v i j x h

/-- A fold keeps whatever each of its steps keeps. -/
theorem foldl_keeps {α β : Type} (proj : State → β) (f : State → α → State)
    (h : ∀ s a, proj (f s a) = proj s) (l : List α) (s : State) : proj (l.foldl f s) = proj s := by
  induction l generalizing s with
  | nil => rfl
  | cons a l ih => rw [List.foldl_cons, ih, h]

@[simp] theorem foldl_pending {α : Type} (f : State → α → State) (l : List α) (s : State)
    (h : ∀ s a, (f s a).pending = s.pending) : (l.foldl f s).pending = s.pending := foldl_keeps State.pending f h l s

@[simp] theorem ite_pending (c : Prop) [Decidable c] (s t : State) : (if c then s else t).pending = if c then s.pending else t.pending :=
  apply_ite State.pending c s t

@[simp] theorem foldl_now {α : Type} (f : State → α → State) (l : List α) (s : State)
    (h : ∀ s a, (f s a).now = s.now) : (l.foldl f s).now = s.now := foldl_keeps State.now f h l s

@[simp] theorem ite_now (c : Prop) [Decidable c] (s t : State) : (if c then s else t).now = if c then s.now else t.now :=
  apply_ite State.now c s t

@[simp] theorem foldl_path {α : Type} (f : State → α → State) (l : List α) (s : State)
    (h : ∀ s a, (f s a).path = s.path) : (l.foldl f s).path = s.path := foldl_keeps State.path f h l s

@[simp] theorem ite_path (c : Prop) [Decidable c] (s t : State) : (if c then s else t).path = if c then s.path else t.path :=
  apply_ite State.path c s t

@[simp] theorem foldl_mailbox {α : Type} (f : State → α → State) (l : List α) (s : State)
    (h : ∀ s a, (f s a).mailbox = s.mailbox) : (l.foldl f s).mailbox = s.mailbox := foldl_keeps State.mailbox f h l s

@[simp] theorem ite_mailbox (c : Prop) [Decidable c] (s t : State) : (if c then s else t).mailbox = if c then s.mailbox else t.mailbox :=
  apply_ite State.mailbox c s t

@[simp] theorem foldl_scan {α : Type} (f : State → α → State) (l : List α) (s : State)
    (h : ∀ s a, (f s a).scan = s.scan) : (l.foldl f s).scan = s.scan := foldl_keeps State.scan f h l s

@[simp] theorem ite_scan (c : Prop) [Decidable c] (s t : State) : (if c then s else t).scan = if c then s.scan else t.scan :=
  apply_ite State.scan c s t

@[simp] theorem foldl_sup {α : Type} (f : State → α → State) (l : List α) (s : State)
    (h : ∀ s a, (f s a).sup = s.sup) : (l.foldl f s).sup = s.sup := foldl_keeps State.sup f h l s

@[simp] theorem ite_sup (c : Prop) [Decidable c] (s t : State) : (if c then s else t).sup = if c then s.sup else t.sup :=
  apply_ite State.sup c s t

@[simp] theorem foldl_group {α : Type} (f : State → α → State) (l : List α) (s : State)
    (h : ∀ s a, (f s a).group = s.group) : (l.foldl f s).group = s.group := foldl_keeps State.group f h l s

@[simp] theorem ite_group (c : Prop) [Decidable c] (s t : State) : (if c then s else t).group = if c then s.group else t.group :=
  apply_ite State.group c s t

@[simp] theorem foldl_driver {α : Type} (f : State → α → State) (l : List α) (s : State)
    (h : ∀ s a, (f s a).driver = s.driver) : (l.foldl f s).driver = s.driver := foldl_keeps State.driver f h l s

@[simp] theorem ite_driver (c : Prop) [Decidable c] (s t : State) : (if c then s else t).driver = if c then s.driver else t.driver :=
  apply_ite State.driver c s t

@[simp] theorem foldl_timing {α : Type} (f : State → α → State) (l : List α) (s : State)
    (h : ∀ s a, (f s a).timing = s.timing) : (l.foldl f s).timing = s.timing := foldl_keeps State.timing f h l s

@[simp] theorem ite_timing (c : Prop) [Decidable c] (s t : State) : (if c then s else t).timing = if c then s.timing else t.timing :=
  apply_ite State.timing c s t

@[simp] theorem foldl_alarm {α : Type} (f : State → α → State) (l : List α) (s : State)
    (h : ∀ s a, (f s a).alarm = s.alarm) : (l.foldl f s).alarm = s.alarm := foldl_keeps State.alarm f h l s

@[simp] theorem ite_alarm (c : Prop) [Decidable c] (s t : State) : (if c then s else t).alarm = if c then s.alarm else t.alarm :=
  apply_ite State.alarm c s t

@[simp] theorem foldl_poster {α : Type} (f : State → α → State) (l : List α) (s : State)
    (h : ∀ s a, (f s a).poster = s.poster) : (l.foldl f s).poster = s.poster := foldl_keeps State.poster f h l s

@[simp] theorem ite_poster (c : Prop) [Decidable c] (s t : State) : (if c then s else t).poster = if c then s.poster else t.poster :=
  apply_ite State.poster c s t

end Sys2Proof.Machine
end

