-- ==== Sys2Proof/Laws/FramesBase.lean ====
section
/-! SUPPORT. Frames of the shared operations, the alarm unit, the switch driver and the timing unit: which blocks an operation leaves as they were. -/

namespace Sys2Proof.Machine

@[simp] theorem State.memWrite_frame (s : State) (a : Addr) (l : Lanes) (w : Word) :
    (s.memWrite a l w).pending = s.pending ∧
    (s.memWrite a l w).now = s.now ∧
    (s.memWrite a l w).mailbox = s.mailbox ∧
    (s.memWrite a l w).scan = s.scan ∧
    (s.memWrite a l w).sup = s.sup ∧
    (s.memWrite a l w).group = s.group ∧
    (s.memWrite a l w).driver = s.driver ∧
    (s.memWrite a l w).timing = s.timing ∧
    (s.memWrite a l w).alarm = s.alarm ∧
    (s.memWrite a l w).poster = s.poster := by
  refine ⟨rfl, rfl, rfl, rfl, rfl, rfl, rfl, rfl, rfl, rfl⟩

@[simp] theorem State.drive_frame (s : State) (l : Lanes) (w : Word) :
    (s.drive l w).pending = s.pending ∧
    (s.drive l w).now = s.now ∧
    (s.drive l w).mailbox = s.mailbox ∧
    (s.drive l w).scan = s.scan ∧
    (s.drive l w).sup = s.sup ∧
    (s.drive l w).group = s.group ∧
    (s.drive l w).driver = s.driver ∧
    (s.drive l w).timing = s.timing ∧
    (s.drive l w).alarm = s.alarm ∧
    (s.drive l w).poster = s.poster := by
  refine ⟨rfl, rfl, rfl, rfl, rfl, rfl, rfl, rfl, rfl, rfl⟩

@[simp] theorem State.passTo_frame (s : State) (n : Nat) :
    (s.passTo n).pending = s.pending ∧
    (s.passTo n).path = s.path ∧
    (s.passTo n).mailbox = s.mailbox ∧
    (s.passTo n).scan = s.scan ∧
    (s.passTo n).sup = s.sup ∧
    (s.passTo n).group = s.group ∧
    (s.passTo n).driver = s.driver ∧
    (s.passTo n).timing = s.timing ∧
    (s.passTo n).alarm = s.alarm ∧
    (s.passTo n).poster = s.poster := by
  refine ⟨rfl, rfl, rfl, rfl, rfl, rfl, rfl, rfl, rfl, rfl⟩

@[simp] theorem State.putEvent_frame (s : State) (o : Nat) (d : Detail) :
    (s.putEvent o d).pending = s.pending ∧
    (s.putEvent o d).now = s.now ∧
    (s.putEvent o d).path = s.path ∧
    (s.putEvent o d).mailbox = s.mailbox ∧
    (s.putEvent o d).scan = s.scan ∧
    (s.putEvent o d).sup = s.sup ∧
    (s.putEvent o d).group = s.group ∧
    (s.putEvent o d).driver = s.driver ∧
    (s.putEvent o d).timing = s.timing ∧
    (s.putEvent o d).alarm = s.alarm := by
  unfold State.putEvent
  (repeat' split) <;> simp

@[simp] theorem State.judgeRelays_frame (old s : State) :
    (State.judgeRelays old s).pending = s.pending ∧
    (State.judgeRelays old s).now = s.now ∧
    (State.judgeRelays old s).path = s.path ∧
    (State.judgeRelays old s).mailbox = s.mailbox ∧
    (State.judgeRelays old s).scan = s.scan ∧
    (State.judgeRelays old s).sup = s.sup ∧
    (State.judgeRelays old s).group = s.group ∧
    (State.judgeRelays old s).driver = s.driver ∧
    (State.judgeRelays old s).timing = s.timing ∧
    (State.judgeRelays old s).poster = s.poster := by
  unfold State.judgeRelays
  (repeat' split) <;> simp

@[simp] theorem State.cutOff_frame (s : State) :
    (s.cutOff).pending = s.pending ∧
    (s.cutOff).now = s.now ∧
    (s.cutOff).path = s.path ∧
    (s.cutOff).mailbox = s.mailbox ∧
    (s.cutOff).scan = s.scan ∧
    (s.cutOff).sup = s.sup ∧
    (s.cutOff).group = s.group ∧
    (s.cutOff).driver = s.driver ∧
    (s.cutOff).timing = s.timing ∧
    (s.cutOff).poster = s.poster := by
  unfold State.cutOff
  (repeat' split) <;> simp

@[simp] theorem State.enterAllAlarm_frame (s : State) :
    (s.enterAllAlarm).pending = s.pending ∧
    (s.enterAllAlarm).now = s.now ∧
    (s.enterAllAlarm).path = s.path ∧
    (s.enterAllAlarm).mailbox = s.mailbox ∧
    (s.enterAllAlarm).scan = s.scan ∧
    (s.enterAllAlarm).sup = s.sup ∧
    (s.enterAllAlarm).group = s.group ∧
    (s.enterAllAlarm).driver = s.driver ∧
    (s.enterAllAlarm).timing = s.timing ∧
    (s.enterAllAlarm).poster = s.poster := by
  refine ⟨rfl, rfl, rfl, rfl, rfl, rfl, rfl, rfl, rfl, rfl⟩

@[simp] theorem State.enterFollow_frame (s : State) :
    (s.enterFollow).pending = s.pending ∧
    (s.enterFollow).now = s.now ∧
    (s.enterFollow).path = s.path ∧
    (s.enterFollow).mailbox = s.mailbox ∧
    (s.enterFollow).scan = s.scan ∧
    (s.enterFollow).sup = s.sup ∧
    (s.enterFollow).group = s.group ∧
    (s.enterFollow).driver = s.driver ∧
    (s.enterFollow).timing = s.timing ∧
    (s.enterFollow).poster = s.poster := by
  refine ⟨rfl, rfl, rfl, rfl, rfl, rfl, rfl, rfl, rfl, rfl⟩

@[simp] theorem State.latchPoint_frame (s : State) (pt : Point) (v : Bool) :
    (s.latchPoint pt v).pending = s.pending ∧
    (s.latchPoint pt v).now = s.now ∧
    (s.latchPoint pt v).path = s.path ∧
    (s.latchPoint pt v).mailbox = s.mailbox ∧
    (s.latchPoint pt v).scan = s.scan ∧
    (s.latchPoint pt v).sup = s.sup ∧
    (s.latchPoint pt v).group = s.group ∧
    (s.latchPoint pt v).driver = s.driver ∧
    (s.latchPoint pt v).timing = s.timing ∧
    (s.latchPoint pt v).poster = s.poster := by
  refine ⟨rfl, rfl, rfl, rfl, rfl, rfl, rfl, rfl, rfl, rfl⟩

@[simp] theorem State.reportPoint_frame (s : State) (pt : Point) (v : Bool) :
    (s.reportPoint pt v).pending = s.pending ∧
    (s.reportPoint pt v).now = s.now ∧
    (s.reportPoint pt v).path = s.path ∧
    (s.reportPoint pt v).mailbox = s.mailbox ∧
    (s.reportPoint pt v).scan = s.scan ∧
    (s.reportPoint pt v).sup = s.sup ∧
    (s.reportPoint pt v).group = s.group ∧
    (s.reportPoint pt v).driver = s.driver ∧
    (s.reportPoint pt v).timing = s.timing ∧
    (s.reportPoint pt v).alarm = s.alarm := by
  unfold State.reportPoint
  (repeat' split) <;> simp

@[simp] theorem State.setPoint_frame (s : State) (pt : Point) (v : Bool) :
    (s.setPoint pt v).pending = s.pending ∧
    (s.setPoint pt v).now = s.now ∧
    (s.setPoint pt v).path = s.path ∧
    (s.setPoint pt v).mailbox = s.mailbox ∧
    (s.setPoint pt v).scan = s.scan ∧
    (s.setPoint pt v).sup = s.sup ∧
    (s.setPoint pt v).group = s.group ∧
    (s.setPoint pt v).driver = s.driver ∧
    (s.setPoint pt v).timing = s.timing := by
  unfold State.setPoint
  (repeat' split) <;> simp

@[simp] theorem State.setElement_frame (s : State) (e : ElementId) (x : Element) :
    (s.setElement e x).pending = s.pending ∧
    (s.setElement e x).now = s.now ∧
    (s.setElement e x).path = s.path ∧
    (s.setElement e x).mailbox = s.mailbox ∧
    (s.setElement e x).scan = s.scan ∧
    (s.setElement e x).sup = s.sup ∧
    (s.setElement e x).group = s.group ∧
    (s.setElement e x).timing = s.timing ∧
    (s.setElement e x).alarm = s.alarm ∧
    (s.setElement e x).poster = s.poster := by
  refine ⟨rfl, rfl, rfl, rfl, rfl, rfl, rfl, rfl, rfl, rfl⟩

@[simp] theorem State.commandElement_frame (s : State) (e : ElementId) (p : Position) :
    (s.commandElement e p).pending = s.pending ∧
    (s.commandElement e p).now = s.now ∧
    (s.commandElement e p).path = s.path ∧
    (s.commandElement e p).mailbox = s.mailbox ∧
    (s.commandElement e p).scan = s.scan ∧
    (s.commandElement e p).sup = s.sup ∧
    (s.commandElement e p).group = s.group ∧
    (s.commandElement e p).timing = s.timing ∧
    (s.commandElement e p).alarm = s.alarm ∧
    (s.commandElement e p).poster = s.poster := by
  refine ⟨rfl, rfl, rfl, rfl, rfl, rfl, rfl, rfl, rfl, rfl⟩

@[simp] theorem State.adoptElements_frame (s : State) :
    (s.adoptElements).pending = s.pending ∧
    (s.adoptElements).now = s.now ∧
    (s.adoptElements).path = s.path ∧
    (s.adoptElements).mailbox = s.mailbox ∧
    (s.adoptElements).scan = s.scan ∧
    (s.adoptElements).sup = s.sup ∧
    (s.adoptElements).group = s.group ∧
    (s.adoptElements).timing = s.timing ∧
    (s.adoptElements).alarm = s.alarm ∧
    (s.adoptElements).poster = s.poster := by
  refine ⟨rfl, rfl, rfl, rfl, rfl, rfl, rfl, rfl, rfl, rfl⟩

@[simp] theorem State.setSlot_frame (s : State) (i : SlotId) (r : Slot) :
    (s.setSlot i r).pending = s.pending ∧
    (s.setSlot i r).now = s.now ∧
    (s.setSlot i r).path = s.path ∧
    (s.setSlot i r).mailbox = s.mailbox ∧
    (s.setSlot i r).scan = s.scan ∧
    (s.setSlot i r).sup = s.sup ∧
    (s.setSlot i r).group = s.group ∧
    (s.setSlot i r).driver = s.driver ∧
    (s.setSlot i r).alarm = s.alarm ∧
    (s.setSlot i r).poster = s.poster := by
  refine ⟨rfl, rfl, rfl, rfl, rfl, rfl, rfl, rfl, rfl, rfl⟩

@[simp] theorem State.lineTravels_frame (s : State) (l : LineId) :
    (s.lineTravels l).pending = s.pending ∧
    (s.lineTravels l).now = s.now ∧
    (s.lineTravels l).path = s.path ∧
    (s.lineTravels l).mailbox = s.mailbox ∧
    (s.lineTravels l).scan = s.scan ∧
    (s.lineTravels l).sup = s.sup ∧
    (s.lineTravels l).group = s.group ∧
    (s.lineTravels l).driver = s.driver ∧
    (s.lineTravels l).alarm = s.alarm ∧
    (s.lineTravels l).poster = s.poster := by
  unfold State.lineTravels
  simp

@[simp] theorem State.lineFaults_frame (s : State) (l : LineId) :
    (s.lineFaults l).pending = s.pending ∧
    (s.lineFaults l).now = s.now ∧
    (s.lineFaults l).path = s.path ∧
    (s.lineFaults l).mailbox = s.mailbox ∧
    (s.lineFaults l).scan = s.scan ∧
    (s.lineFaults l).sup = s.sup ∧
    (s.lineFaults l).group = s.group ∧
    (s.lineFaults l).driver = s.driver ∧
    (s.lineFaults l).alarm = s.alarm ∧
    (s.lineFaults l).poster = s.poster := by
  unfold State.lineFaults
  simp

@[simp] theorem State.takeDecision_frame (s : State) (l : LineId) :
    (s.takeDecision l).pending = s.pending ∧
    (s.takeDecision l).now = s.now ∧
    (s.takeDecision l).path = s.path ∧
    (s.takeDecision l).mailbox = s.mailbox ∧
    (s.takeDecision l).scan = s.scan ∧
    (s.takeDecision l).sup = s.sup ∧
    (s.takeDecision l).group = s.group ∧
    (s.takeDecision l).driver = s.driver ∧
    (s.takeDecision l).alarm = s.alarm ∧
    (s.takeDecision l).poster = s.poster := by
  unfold State.takeDecision
  (repeat' split) <;> simp

@[simp] theorem State.lineReport_frame (s : State) (l : LineId) (e : ElementId) :
    (s.lineReport l e).pending = s.pending ∧
    (s.lineReport l e).now = s.now ∧
    (s.lineReport l e).path = s.path ∧
    (s.lineReport l e).mailbox = s.mailbox ∧
    (s.lineReport l e).scan = s.scan ∧
    (s.lineReport l e).sup = s.sup ∧
    (s.lineReport l e).group = s.group ∧
    (s.lineReport l e).driver = s.driver ∧
    (s.lineReport l e).alarm = s.alarm ∧
    (s.lineReport l e).poster = s.poster := by
  unfold State.lineReport
  (repeat' split) <;> simp

@[simp] theorem State.decideSlots_frame (s : State) :
    (s.decideSlots).pending = s.pending ∧
    (s.decideSlots).now = s.now ∧
    (s.decideSlots).path = s.path ∧
    (s.decideSlots).mailbox = s.mailbox ∧
    (s.decideSlots).scan = s.scan ∧
    (s.decideSlots).sup = s.sup ∧
    (s.decideSlots).group = s.group ∧
    (s.decideSlots).driver = s.driver ∧
    (s.decideSlots).alarm = s.alarm ∧
    (s.decideSlots).poster = s.poster := by
  refine ⟨rfl, rfl, rfl, rfl, rfl, rfl, rfl, rfl, rfl, rfl⟩

@[simp] theorem State.reselect_frame (s : State) :
    (s.reselect).pending = s.pending ∧
    (s.reselect).now = s.now ∧
    (s.reselect).path = s.path ∧
    (s.reselect).mailbox = s.mailbox ∧
    (s.reselect).scan = s.scan ∧
    (s.reselect).sup = s.sup ∧
    (s.reselect).group = s.group ∧
    (s.reselect).driver = s.driver ∧
    (s.reselect).alarm = s.alarm ∧
    (s.reselect).poster = s.poster := by
  refine ⟨rfl, rfl, rfl, rfl, rfl, rfl, rfl, rfl, rfl, rfl⟩

@[simp] theorem State.timingEvent_frame (began s : State) :
    (State.timingEvent began s).pending = s.pending ∧
    (State.timingEvent began s).now = s.now ∧
    (State.timingEvent began s).path = s.path ∧
    (State.timingEvent began s).mailbox = s.mailbox ∧
    (State.timingEvent began s).scan = s.scan ∧
    (State.timingEvent began s).sup = s.sup ∧
    (State.timingEvent began s).group = s.group ∧
    (State.timingEvent began s).driver = s.driver ∧
    (State.timingEvent began s).timing = s.timing ∧
    (State.timingEvent began s).alarm = s.alarm := by
  unfold State.timingEvent
  (repeat' split) <;> simp

@[simp] theorem State.timingAlarms_frame (s : State) :
    (s.timingAlarms).pending = s.pending ∧
    (s.timingAlarms).now = s.now ∧
    (s.timingAlarms).path = s.path ∧
    (s.timingAlarms).mailbox = s.mailbox ∧
    (s.timingAlarms).scan = s.scan ∧
    (s.timingAlarms).sup = s.sup ∧
    (s.timingAlarms).group = s.group ∧
    (s.timingAlarms).driver = s.driver ∧
    (s.timingAlarms).timing = s.timing := by
  unfold State.timingAlarms
  simp

@[simp] theorem State.retimeFrom_frame (began s : State) :
    (State.retimeFrom began s).pending = s.pending ∧
    (State.retimeFrom began s).now = s.now ∧
    (State.retimeFrom began s).path = s.path ∧
    (State.retimeFrom began s).mailbox = s.mailbox ∧
    (State.retimeFrom began s).scan = s.scan ∧
    (State.retimeFrom began s).sup = s.sup ∧
    (State.retimeFrom began s).group = s.group ∧
    (State.retimeFrom began s).driver = s.driver := by
  unfold State.retimeFrom
  simp

@[simp] theorem State.retime_frame (s : State) :
    (s.retime).pending = s.pending ∧
    (s.retime).now = s.now ∧
    (s.retime).path = s.path ∧
    (s.retime).mailbox = s.mailbox ∧
    (s.retime).scan = s.scan ∧
    (s.retime).sup = s.sup ∧
    (s.retime).group = s.group ∧
    (s.retime).driver = s.driver := by
  unfold State.retime
  simp

@[simp] theorem State.timingReport_frame (s : State) (e : ElementId) :
    (s.timingReport e).pending = s.pending ∧
    (s.timingReport e).now = s.now ∧
    (s.timingReport e).path = s.path ∧
    (s.timingReport e).mailbox = s.mailbox ∧
    (s.timingReport e).scan = s.scan ∧
    (s.timingReport e).sup = s.sup ∧
    (s.timingReport e).group = s.group ∧
    (s.timingReport e).driver = s.driver := by
  unfold State.timingReport
  simp

@[simp] theorem State.timingGroupChange_frame (s : State) (g : GroupId) :
    (s.timingGroupChange g).pending = s.pending ∧
    (s.timingGroupChange g).now = s.now ∧
    (s.timingGroupChange g).path = s.path ∧
    (s.timingGroupChange g).mailbox = s.mailbox ∧
    (s.timingGroupChange g).scan = s.scan ∧
    (s.timingGroupChange g).sup = s.sup ∧
    (s.timingGroupChange g).group = s.group ∧
    (s.timingGroupChange g).driver = s.driver := by
  unfold State.timingGroupChange
  (repeat' split) <;> simp

@[simp] theorem State.takePulse_frame (s : State) (i : SlotId) :
    (s.takePulse i).pending = s.pending ∧
    (s.takePulse i).now = s.now ∧
    (s.takePulse i).path = s.path ∧
    (s.takePulse i).mailbox = s.mailbox ∧
    (s.takePulse i).scan = s.scan ∧
    (s.takePulse i).sup = s.sup ∧
    (s.takePulse i).group = s.group ∧
    (s.takePulse i).driver = s.driver := by
  simp only [State.takePulse]
  split <;> simp

@[simp] theorem State.lossExpire_frame (s : State) (i : SlotId) :
    (s.lossExpire i).pending = s.pending ∧
    (s.lossExpire i).path = s.path ∧
    (s.lossExpire i).mailbox = s.mailbox ∧
    (s.lossExpire i).scan = s.scan ∧
    (s.lossExpire i).sup = s.sup ∧
    (s.lossExpire i).group = s.group ∧
    (s.lossExpire i).driver = s.driver := by
  unfold State.lossExpire
  (repeat' split) <;> simp

@[simp] theorem State.qualifyExpire_frame (s : State) (i : SlotId) :
    (s.qualifyExpire i).pending = s.pending ∧
    (s.qualifyExpire i).path = s.path ∧
    (s.qualifyExpire i).mailbox = s.mailbox ∧
    (s.qualifyExpire i).scan = s.scan ∧
    (s.qualifyExpire i).sup = s.sup ∧
    (s.qualifyExpire i).group = s.group ∧
    (s.qualifyExpire i).driver = s.driver := by
  unfold State.qualifyExpire
  (repeat' split) <;> simp

@[simp] theorem State.settleExpire_frame (s : State) (l : LineId) :
    (s.settleExpire l).pending = s.pending ∧
    (s.settleExpire l).path = s.path ∧
    (s.settleExpire l).mailbox = s.mailbox ∧
    (s.settleExpire l).scan = s.scan ∧
    (s.settleExpire l).sup = s.sup ∧
    (s.settleExpire l).group = s.group ∧
    (s.settleExpire l).driver = s.driver := by
  unfold State.settleExpire
  dsimp only
  (repeat' split) <;> simp

@[simp] theorem State.abandonGate_frame (s : State) (i : SlotId) :
    (s.abandonGate i).pending = s.pending ∧
    (s.abandonGate i).now = s.now ∧
    (s.abandonGate i).path = s.path ∧
    (s.abandonGate i).mailbox = s.mailbox ∧
    (s.abandonGate i).scan = s.scan ∧
    (s.abandonGate i).sup = s.sup ∧
    (s.abandonGate i).group = s.group ∧
    (s.abandonGate i).driver = s.driver := by
  unfold State.abandonGate
  (repeat' split) <;> simp

@[simp] theorem State.judgedGate_frame (s : State) (i : SlotId) (m : Nat) :
    (s.judgedGate i m).pending = s.pending ∧
    (s.judgedGate i m).now = s.now ∧
    (s.judgedGate i m).path = s.path ∧
    (s.judgedGate i m).mailbox = s.mailbox ∧
    (s.judgedGate i m).scan = s.scan ∧
    (s.judgedGate i m).sup = s.sup ∧
    (s.judgedGate i m).group = s.group ∧
    (s.judgedGate i m).driver = s.driver := by
  unfold State.judgedGate
  simp

@[simp] theorem State.completeGate_frame (s : State) (i : SlotId) (m : Nat) :
    (s.completeGate i m).pending = s.pending ∧
    (s.completeGate i m).now = s.now ∧
    (s.completeGate i m).path = s.path ∧
    (s.completeGate i m).mailbox = s.mailbox ∧
    (s.completeGate i m).scan = s.scan ∧
    (s.completeGate i m).sup = s.sup ∧
    (s.completeGate i m).group = s.group ∧
    (s.completeGate i m).driver = s.driver := by
  unfold State.completeGate
  (repeat' split) <;> simp

@[simp] theorem State.setForce_frame (s : State) (f : Option SlotId) :
    (s.setForce f).pending = s.pending ∧
    (s.setForce f).now = s.now ∧
    (s.setForce f).path = s.path ∧
    (s.setForce f).mailbox = s.mailbox ∧
    (s.setForce f).scan = s.scan ∧
    (s.setForce f).sup = s.sup ∧
    (s.setForce f).group = s.group ∧
    (s.setForce f).driver = s.driver := by
  unfold State.setForce
  simp

@[simp] theorem State.startLine_frame (s : State) (l : LineId) :
    (s.startLine l).pending = s.pending ∧
    (s.startLine l).now = s.now ∧
    (s.startLine l).path = s.path ∧
    (s.startLine l).mailbox = s.mailbox ∧
    (s.startLine l).scan = s.scan ∧
    (s.startLine l).sup = s.sup ∧
    (s.startLine l).group = s.group ∧
    (s.startLine l).driver = s.driver ∧
    (s.startLine l).alarm = s.alarm ∧
    (s.startLine l).poster = s.poster := by
  unfold State.startLine
  simp only []
  split <;> split <;> simp

@[simp] theorem State.timingStart_frame (s : State) :
    (s.timingStart).pending = s.pending ∧
    (s.timingStart).now = s.now ∧
    (s.timingStart).path = s.path ∧
    (s.timingStart).mailbox = s.mailbox ∧
    (s.timingStart).scan = s.scan ∧
    (s.timingStart).sup = s.sup ∧
    (s.timingStart).group = s.group ∧
    (s.timingStart).driver = s.driver := by
  unfold State.timingStart
  simp

end Sys2Proof.Machine
end

