-- ==== Sys2Proof/Laws/FramesGroups.lean ====
section
/-! SUPPORT. Frames of the protection controller and the port supervisor: which blocks an operation leaves as they were. -/

namespace Sys2Proof.Machine

@[simp] theorem State.setGroup_frame (s : State) (g : GroupId) (r : Group) :
    (s.setGroup g r).pending = s.pending ∧
    (s.setGroup g r).now = s.now ∧
    (s.setGroup g r).path = s.path ∧
    (s.setGroup g r).mailbox = s.mailbox ∧
    (s.setGroup g r).scan = s.scan ∧
    (s.setGroup g r).sup = s.sup ∧
    (s.setGroup g r).driver = s.driver ∧
    (s.setGroup g r).timing = s.timing ∧
    (s.setGroup g r).alarm = s.alarm ∧
    (s.setGroup g r).poster = s.poster := by
  refine ⟨rfl, rfl, rfl, rfl, rfl, rfl, rfl, rfl, rfl, rfl⟩

@[simp] theorem State.cancelManual_frame (s : State) (g : GroupId) :
    (s.cancelManual g).pending = s.pending ∧
    (s.cancelManual g).now = s.now ∧
    (s.cancelManual g).path = s.path ∧
    (s.cancelManual g).mailbox = s.mailbox ∧
    (s.cancelManual g).scan = s.scan ∧
    (s.cancelManual g).sup = s.sup ∧
    (s.cancelManual g).driver = s.driver ∧
    (s.cancelManual g).timing = s.timing ∧
    (s.cancelManual g).alarm = s.alarm := by
  unfold State.cancelManual
  (repeat' split) <;> simp

@[simp] theorem State.bringRequests_frame (s : State) (g : GroupId) :
    (s.bringRequests g).pending = s.pending ∧
    (s.bringRequests g).now = s.now ∧
    (s.bringRequests g).path = s.path ∧
    (s.bringRequests g).mailbox = s.mailbox ∧
    (s.bringRequests g).scan = s.scan ∧
    (s.bringRequests g).sup = s.sup ∧
    (s.bringRequests g).driver = s.driver ∧
    (s.bringRequests g).timing = s.timing ∧
    (s.bringRequests g).alarm = s.alarm := by
  unfold State.bringRequests
  simp

@[simp] theorem State.commandGroup_frame (s : State) (g : GroupId) :
    (s.commandGroup g).pending = s.pending ∧
    (s.commandGroup g).now = s.now ∧
    (s.commandGroup g).path = s.path ∧
    (s.commandGroup g).mailbox = s.mailbox ∧
    (s.commandGroup g).scan = s.scan ∧
    (s.commandGroup g).sup = s.sup ∧
    (s.commandGroup g).group = s.group ∧
    (s.commandGroup g).timing = s.timing ∧
    (s.commandGroup g).alarm = s.alarm ∧
    (s.commandGroup g).poster = s.poster := by
  unfold State.commandGroup
  dsimp only
  (repeat' split) <;> simp

@[simp] theorem State.evaluate_frame (s : State) (first : Bool) (g : GroupId) :
    (s.evaluate first g).pending = s.pending ∧
    (s.evaluate first g).now = s.now ∧
    (s.evaluate first g).path = s.path ∧
    (s.evaluate first g).mailbox = s.mailbox ∧
    (s.evaluate first g).scan = s.scan ∧
    (s.evaluate first g).sup = s.sup ∧
    (s.evaluate first g).timing = s.timing ∧
    (s.evaluate first g).alarm = s.alarm := by
  unfold State.evaluate
  (repeat' split) <;> simp

@[simp] theorem State.noteReport_frame (s : State) (heard : Driver) (g : GroupId) (e : ElementId) :
    (s.noteReport heard g e).pending = s.pending ∧
    (s.noteReport heard g e).now = s.now ∧
    (s.noteReport heard g e).path = s.path ∧
    (s.noteReport heard g e).mailbox = s.mailbox ∧
    (s.noteReport heard g e).scan = s.scan ∧
    (s.noteReport heard g e).sup = s.sup ∧
    (s.noteReport heard g e).driver = s.driver ∧
    (s.noteReport heard g e).timing = s.timing ∧
    (s.noteReport heard g e).alarm = s.alarm ∧
    (s.noteReport heard g e).poster = s.poster := by
  unfold State.noteReport
  dsimp only
  (repeat' split) <;> simp

@[simp] theorem State.handConditions_frame (s : State) (heard : Driver) (g : GroupId) :
    (s.handConditions heard g).pending = s.pending ∧
    (s.handConditions heard g).now = s.now ∧
    (s.handConditions heard g).path = s.path ∧
    (s.handConditions heard g).mailbox = s.mailbox ∧
    (s.handConditions heard g).scan = s.scan ∧
    (s.handConditions heard g).sup = s.sup ∧
    (s.handConditions heard g).driver = s.driver ∧
    (s.handConditions heard g).timing = s.timing := by
  unfold State.handConditions
  simp

@[simp] theorem State.setTransmit_frame (s : State) (p : Port) (w : Word) :
    (s.setTransmit p w).pending = s.pending ∧
    (s.setTransmit p w).now = s.now ∧
    (s.setTransmit p w).path = s.path ∧
    (s.setTransmit p w).mailbox = s.mailbox ∧
    (s.setTransmit p w).sup = s.sup ∧
    (s.setTransmit p w).group = s.group ∧
    (s.setTransmit p w).driver = s.driver ∧
    (s.setTransmit p w).timing = s.timing ∧
    (s.setTransmit p w).alarm = s.alarm ∧
    (s.setTransmit p w).poster = s.poster := by
  refine ⟨rfl, rfl, rfl, rfl, rfl, rfl, rfl, rfl, rfl, rfl⟩

@[simp] theorem State.formTransmit_frame (s : State) (heard : Driver) (g : GroupId) :
    (s.formTransmit heard g).pending = s.pending ∧
    (s.formTransmit heard g).now = s.now ∧
    (s.formTransmit heard g).path = s.path ∧
    (s.formTransmit heard g).mailbox = s.mailbox ∧
    (s.formTransmit heard g).sup = s.sup ∧
    (s.formTransmit heard g).group = s.group ∧
    (s.formTransmit heard g).driver = s.driver ∧
    (s.formTransmit heard g).timing = s.timing ∧
    (s.formTransmit heard g).alarm = s.alarm ∧
    (s.formTransmit heard g).poster = s.poster := by
  unfold State.formTransmit
  dsimp only
  (repeat' split) <;> simp

@[simp] theorem State.takeUpdate_frame (s : State) (heard : Driver) (first : Bool) (g : GroupId) :
    (s.takeUpdate heard first g).pending = s.pending ∧
    (s.takeUpdate heard first g).now = s.now ∧
    (s.takeUpdate heard first g).path = s.path ∧
    (s.takeUpdate heard first g).mailbox = s.mailbox ∧
    (s.takeUpdate heard first g).sup = s.sup ∧
    (s.takeUpdate heard first g).timing = s.timing := by
  unfold State.takeUpdate
  dsimp only
  split <;> simp

@[simp] theorem State.takeOwnReport_frame (s : State) (old heard : Driver) (g : GroupId) (e : Option ElementId) :
    (s.takeOwnReport old heard g e).pending = s.pending ∧
    (s.takeOwnReport old heard g e).now = s.now ∧
    (s.takeOwnReport old heard g e).path = s.path ∧
    (s.takeOwnReport old heard g e).mailbox = s.mailbox ∧
    (s.takeOwnReport old heard g e).sup = s.sup ∧
    (s.takeOwnReport old heard g e).timing = s.timing := by
  unfold State.takeOwnReport
  (repeat' split) <;> simp

@[simp] theorem State.commandElement_on (s : State) (e : ElementId) (p : Position) :
    (s.commandElement e p).driver.on = s.driver.on := rfl

@[simp] theorem State.commandGroup_on (s : State) (g : GroupId) : (s.commandGroup g).driver.on = s.driver.on := by
  unfold State.commandGroup
  dsimp only
  (repeat' split) <;> simp

@[simp] theorem State.evaluate_on (s : State) (first : Bool) (g : GroupId) :
    (s.evaluate first g).driver.on = s.driver.on := by
  unfold State.evaluate
  (repeat' split) <;> simp

/-- An update turns the drive neither on nor off. -/
@[simp] theorem State.takeUpdate_on (s : State) (heard : Driver) (first : Bool) (g : GroupId) :
    (s.takeUpdate heard first g).driver.on = s.driver.on := by
  unfold State.takeUpdate
  dsimp only
  split <;> simp

/-- A block that has taken the last report on one element reads that element's, and the others' as before (R121). -/
theorem Driver.hearing_report (old d : Driver) (o : Option ElementId) (e : ElementId) (on : d.on = old.on) :
    (old.hearing d o).report e = if o = some e then d.report e else old.report e := by
  cases o with
  | none => rfl
  | some b =>
    by_cases hb : b = e
    · subst hb; simp [Driver.hearing, Driver.report, on]
    · rw [if_neg (by simpa using hb)]
      simp only [Driver.hearing, Driver.report, put_other _ _ _ _ hb]

/-- No report between two drivers, no update. -/
theorem State.takeOwnReport_none (s : State) (old heard : Driver) (g : GroupId) (o : Option ElementId)
    (h : ∀ e, heard.report e = old.report e) : s.takeOwnReport old heard g o = s := by
  cases o with
  | none => rfl
  | some e => simp [State.takeOwnReport, Driver.reported, h]

/-- An update whose commands make no report is the whole of the group's update (R90, R121). -/
theorem State.groupUpdate_of_no_report (s : State) (first : Bool) (g : GroupId)
    (h : ∀ e, (s.takeUpdate s.driver first g).driver.report e = s.driver.report e) :
    s.groupUpdate first g = s.takeUpdate s.driver first g := by
  have heard : ∀ o e, (s.driver.hearing (s.takeUpdate s.driver first g).driver o).report e = s.driver.report e := by
    intro o e
    rw [Driver.hearing_report _ _ _ _ (by simp), h, ite_self]
  unfold State.groupUpdate
  dsimp only
  rw [State.takeOwnReport_none _ s.driver _ _ _ (heard _),
    State.takeOwnReport_none _ _ _ _ _ (fun e => (h e).trans (heard _ e).symm)]
  unfold State.reportSelector State.reported Driver.reported
  simp only [h]
  split <;> simp

@[simp] theorem State.reportSelector_frame (before s : State) (g : GroupId) :
    (State.reportSelector before s g).pending = s.pending ∧
    (State.reportSelector before s g).now = s.now ∧
    (State.reportSelector before s g).path = s.path ∧
    (State.reportSelector before s g).mailbox = s.mailbox ∧
    (State.reportSelector before s g).scan = s.scan ∧
    (State.reportSelector before s g).sup = s.sup ∧
    (State.reportSelector before s g).group = s.group ∧
    (State.reportSelector before s g).driver = s.driver := by
  unfold State.reportSelector
  (repeat' split) <;> simp

@[simp] theorem State.groupUpdate_frame (s : State) (first : Bool) (g : GroupId) :
    (s.groupUpdate first g).pending = s.pending ∧
    (s.groupUpdate first g).now = s.now ∧
    (s.groupUpdate first g).path = s.path ∧
    (s.groupUpdate first g).mailbox = s.mailbox ∧
    (s.groupUpdate first g).sup = s.sup := by
  unfold State.groupUpdate
  simp

@[simp] theorem State.updateGroup_frame (s : State) (g : GroupId) :
    (s.updateGroup g).pending = s.pending ∧
    (s.updateGroup g).now = s.now ∧
    (s.updateGroup g).path = s.path ∧
    (s.updateGroup g).mailbox = s.mailbox ∧
    (s.updateGroup g).sup = s.sup := by
  unfold State.updateGroup
  simp

@[simp] theorem State.takeReport_frame (s : State) (e : ElementId) :
    (s.takeReport e).pending = s.pending ∧
    (s.takeReport e).now = s.now ∧
    (s.takeReport e).path = s.path ∧
    (s.takeReport e).mailbox = s.mailbox ∧
    (s.takeReport e).sup = s.sup := by
  unfold State.takeReport
  (repeat' split) <;> simp

@[simp] theorem State.takeReportIf_frame (before s : State) (e : ElementId) :
    (State.takeReportIf before s e).pending = s.pending ∧
    (State.takeReportIf before s e).now = s.now ∧
    (State.takeReportIf before s e).path = s.path ∧
    (State.takeReportIf before s e).mailbox = s.mailbox ∧
    (State.takeReportIf before s e).sup = s.sup := by
  unfold State.takeReportIf
  (repeat' split) <;> simp

@[simp] theorem State.senseChange_frame (s : State) (e : ElementId) (p : Option Position) :
    (s.senseChange e p).pending = s.pending ∧
    (s.senseChange e p).now = s.now ∧
    (s.senseChange e p).path = s.path ∧
    (s.senseChange e p).mailbox = s.mailbox ∧
    (s.senseChange e p).sup = s.sup := by
  unfold State.senseChange
  (repeat' split) <;> simp

@[simp] theorem State.travelExpire_frame (s : State) (e : ElementId) :
    (s.travelExpire e).pending = s.pending ∧
    (s.travelExpire e).path = s.path ∧
    (s.travelExpire e).mailbox = s.mailbox ∧
    (s.travelExpire e).sup = s.sup := by
  unfold State.travelExpire
  (repeat' split) <;> simp

@[simp] theorem State.judgeCandidate_frame (s : State) (g : GroupId) (w : Word) :
    (s.judgeCandidate g w).pending = s.pending ∧
    (s.judgeCandidate g w).now = s.now ∧
    (s.judgeCandidate g w).path = s.path ∧
    (s.judgeCandidate g w).mailbox = s.mailbox ∧
    (s.judgeCandidate g w).sup = s.sup := by
  unfold State.judgeCandidate
  (repeat' split) <;> simp

@[simp] theorem State.takeWord_frame (s : State) (g : GroupId) (w : Word) :
    (s.takeWord g w).pending = s.pending ∧
    (s.takeWord g w).now = s.now ∧
    (s.takeWord g w).path = s.path ∧
    (s.takeWord g w).mailbox = s.mailbox ∧
    (s.takeWord g w).sup = s.sup := by
  unfold State.takeWord
  simp

@[simp] theorem State.takeBridgeWord_frame (s : State) (p : Port) (w : Word) :
    (s.takeBridgeWord p w).pending = s.pending ∧
    (s.takeBridgeWord p w).now = s.now ∧
    (s.takeBridgeWord p w).path = s.path ∧
    (s.takeBridgeWord p w).mailbox = s.mailbox ∧
    (s.takeBridgeWord p w).sup = s.sup := by
  unfold State.takeBridgeWord
  (repeat' split) <;> simp

@[simp] theorem State.holdOffExpire_frame (s : State) (g : GroupId) (k : ChannelIx) :
    (s.holdOffExpire g k).pending = s.pending ∧
    (s.holdOffExpire g k).path = s.path ∧
    (s.holdOffExpire g k).mailbox = s.mailbox ∧
    (s.holdOffExpire g k).sup = s.sup := by
  unfold State.holdOffExpire
  (repeat' split) <;> simp

@[simp] theorem State.restoreWaitExpire_frame (s : State) (g : GroupId) :
    (s.restoreWaitExpire g).pending = s.pending ∧
    (s.restoreWaitExpire g).path = s.path ∧
    (s.restoreWaitExpire g).mailbox = s.mailbox ∧
    (s.restoreWaitExpire g).sup = s.sup := by
  unfold State.restoreWaitExpire
  (repeat' split) <;> simp

@[simp] theorem State.confirmationExpire_frame (s : State) (g : GroupId) :
    (s.confirmationExpire g).pending = s.pending ∧
    (s.confirmationExpire g).path = s.path ∧
    (s.confirmationExpire g).mailbox = s.mailbox ∧
    (s.confirmationExpire g).sup = s.sup := by
  unfold State.confirmationExpire
  (repeat' split) <;> simp

@[simp] theorem State.storeCommand_frame (s : State) (c : StoredKind) (o n : Nat) :
    ((s.storeCommand c o n).1).pending = s.pending ∧
    ((s.storeCommand c o n).1).now = s.now ∧
    ((s.storeCommand c o n).1).path = s.path ∧
    ((s.storeCommand c o n).1).mailbox = s.mailbox ∧
    ((s.storeCommand c o n).1).sup = s.sup := by
  unfold State.storeCommand
  dsimp only
  (repeat' split) <;> simp

@[simp] theorem State.clearGroup_frame (s : State) (o n : Nat) :
    ((s.clearGroup o n).1).pending = s.pending ∧
    ((s.clearGroup o n).1).now = s.now ∧
    ((s.clearGroup o n).1).path = s.path ∧
    ((s.clearGroup o n).1).mailbox = s.mailbox ∧
    ((s.clearGroup o n).1).sup = s.sup := by
  unfold State.clearGroup
  dsimp only
  (repeat' split) <;> simp

@[simp] theorem State.endTransmit_frame (s : State) (a b : Vector Word 8) :
    (s.endTransmit a b).pending = s.pending ∧
    (s.endTransmit a b).now = s.now ∧
    (s.endTransmit a b).path = s.path ∧
    (s.endTransmit a b).mailbox = s.mailbox ∧
    (s.endTransmit a b).sup = s.sup ∧
    (s.endTransmit a b).group = s.group ∧
    (s.endTransmit a b).driver = s.driver ∧
    (s.endTransmit a b).timing = s.timing ∧
    (s.endTransmit a b).alarm = s.alarm ∧
    (s.endTransmit a b).poster = s.poster := by
  unfold State.endTransmit
  (repeat' split) <;> simp

@[simp] theorem State.handElements_frame (s : State) (g : GroupId) :
    (s.handElements g).pending = s.pending ∧
    (s.handElements g).now = s.now ∧
    (s.handElements g).path = s.path ∧
    (s.handElements g).mailbox = s.mailbox ∧
    (s.handElements g).scan = s.scan ∧
    (s.handElements g).sup = s.sup ∧
    (s.handElements g).group = s.group ∧
    (s.handElements g).driver = s.driver ∧
    (s.handElements g).timing = s.timing := by
  unfold State.handElements
  simp

@[simp] theorem State.groupChanged_frame (s : State) (g : GroupId) (old : Vector Word 8) :
    (s.groupChanged g old).pending = s.pending ∧
    (s.groupChanged g old).now = s.now ∧
    (s.groupChanged g old).path = s.path ∧
    (s.groupChanged g old).mailbox = s.mailbox ∧
    (s.groupChanged g old).sup = s.sup := by
  unfold State.groupChanged
  simp

@[simp] theorem State.adoptGroup_frame (s : State) (g : GroupId) :
    (s.adoptGroup g).pending = s.pending ∧
    (s.adoptGroup g).now = s.now ∧
    (s.adoptGroup g).path = s.path ∧
    (s.adoptGroup g).mailbox = s.mailbox ∧
    (s.adoptGroup g).sup = s.sup ∧
    (s.adoptGroup g).driver = s.driver ∧
    (s.adoptGroup g).timing = s.timing := by
  unfold State.adoptGroup
  simp

@[simp] theorem State.firstEvaluations_frame (s : State) (n : Nat) :
    (s.firstEvaluations n).pending = s.pending ∧
    (s.firstEvaluations n).now = s.now ∧
    (s.firstEvaluations n).path = s.path ∧
    (s.firstEvaluations n).mailbox = s.mailbox ∧
    (s.firstEvaluations n).sup = s.sup := by
  unfold State.firstEvaluations
  simp

@[simp] theorem State.portPoints_frame (s : State) (p : Port) :
    (s.portPoints p).pending = s.pending ∧
    (s.portPoints p).now = s.now ∧
    (s.portPoints p).path = s.path ∧
    (s.portPoints p).mailbox = s.mailbox ∧
    (s.portPoints p).scan = s.scan ∧
    (s.portPoints p).sup = s.sup ∧
    (s.portPoints p).group = s.group ∧
    (s.portPoints p).driver = s.driver ∧
    (s.portPoints p).timing = s.timing := by
  unfold State.portPoints
  simp

@[simp] theorem State.handOver_frame (old s : State) (w : Option (Port × Word)) :
    (State.handOver old s w).pending = s.pending ∧
    (State.handOver old s w).now = s.now ∧
    (State.handOver old s w).path = s.path ∧
    (State.handOver old s w).mailbox = s.mailbox ∧
    (State.handOver old s w).sup = s.sup := by
  unfold State.handOver
  (repeat' split) <;> simp

@[simp] theorem State.takeResult_frame (s : State) (p : Port) (a : Option Answer) :
    (s.takeResult p a).pending = s.pending ∧
    (s.takeResult p a).now = s.now ∧
    (s.takeResult p a).path = s.path ∧
    (s.takeResult p a).mailbox = s.mailbox := by
  unfold State.takeResult
  (repeat' split) <;> simp

@[simp] theorem State.roundEnd_frame (s : State) (n : Nat) :
    (s.roundEnd n).pending = s.pending ∧
    (s.roundEnd n).now = s.now ∧
    (s.roundEnd n).path = s.path ∧
    (s.roundEnd n).mailbox = s.mailbox ∧
    (s.roundEnd n).sup = s.sup := by
  unfold State.roundEnd
  (repeat' split) <;> simp

@[simp] theorem State.drain_frame (s : State) (l : List ProcessedRound) :
    (s.drain l).pending = s.pending ∧
    (s.drain l).now = s.now ∧
    (s.drain l).path = s.path ∧
    (s.drain l).mailbox = s.mailbox := by
  induction l generalizing s with
  | nil => simp [State.drain]
  | cons r rest ih =>
    unfold State.drain
    split <;> simp [ih]

@[simp] theorem State.portUpdate_frame (s : State) :
    (s.portUpdate).pending = s.pending ∧
    (s.portUpdate).now = s.now ∧
    (s.portUpdate).path = s.path ∧
    (s.portUpdate).mailbox = s.mailbox := by
  unfold State.portUpdate
  (repeat' split) <;> simp

@[simp] theorem State.deliverRound_frame (s : State) (r : ProcessedRound) :
    (s.deliverRound r).pending = s.pending ∧
    (s.deliverRound r).now = s.now ∧
    (s.deliverRound r).path = s.path ∧
    (s.deliverRound r).mailbox = s.mailbox := by
  unfold State.deliverRound
  simp

@[simp] theorem State.changeMaintenance_frame (s : State) (p : Port) (v : Bool) :
    (s.changeMaintenance p v).pending = s.pending ∧
    (s.changeMaintenance p v).now = s.now ∧
    (s.changeMaintenance p v).path = s.path ∧
    (s.changeMaintenance p v).mailbox = s.mailbox := by
  unfold State.changeMaintenance
  simp

@[simp] theorem State.maint_frame (s : State) (o : Nat) :
    ((s.maint o).1).pending = s.pending ∧
    ((s.maint o).1).now = s.now ∧
    ((s.maint o).1).path = s.path ∧
    ((s.maint o).1).mailbox = s.mailbox := by
  unfold State.maint
  dsimp only
  (repeat' split) <;> simp

@[simp] theorem State.release_frame (s : State) (o : Nat) :
    ((s.release o).1).pending = s.pending ∧
    ((s.release o).1).now = s.now ∧
    ((s.release o).1).path = s.path ∧
    ((s.release o).1).mailbox = s.mailbox := by
  unfold State.release
  dsimp only
  (repeat' split) <;> simp

end Sys2Proof.Machine
end

