-- ==== Sys2Proof/Laws/FramesPath.lean ====
section
/-! SUPPORT. Frames of the poster, screening, the mailbox, the memory path and the scan controller: which blocks an operation leaves as they were. -/

namespace Sys2Proof.Machine

@[simp] theorem State.takeRing_frame (s : State) (u : PosterState) :
    (s.takeRing u).pending = s.pending ∧
    (s.takeRing u).now = s.now ∧
    (s.takeRing u).path = s.path ∧
    (s.takeRing u).mailbox = s.mailbox ∧
    (s.takeRing u).scan = s.scan ∧
    (s.takeRing u).sup = s.sup ∧
    (s.takeRing u).group = s.group ∧
    (s.takeRing u).driver = s.driver ∧
    (s.takeRing u).timing = s.timing ∧
    (s.takeRing u).alarm = s.alarm := by
  unfold State.takeRing
  (repeat' split) <;> simp

@[simp] theorem State.handRingFormat_frame (s : State) :
    (s.handRingFormat).pending = s.pending ∧
    (s.handRingFormat).now = s.now ∧
    (s.handRingFormat).path = s.path ∧
    (s.handRingFormat).mailbox = s.mailbox ∧
    (s.handRingFormat).scan = s.scan ∧
    (s.handRingFormat).sup = s.sup ∧
    (s.handRingFormat).group = s.group ∧
    (s.handRingFormat).driver = s.driver ∧
    (s.handRingFormat).timing = s.timing := by
  unfold State.handRingFormat
  simp

@[simp] theorem State.startRing_frame (s : State) :
    (s.startRing).pending = s.pending ∧
    (s.startRing).now = s.now ∧
    (s.startRing).path = s.path ∧
    (s.startRing).mailbox = s.mailbox ∧
    (s.startRing).scan = s.scan ∧
    (s.startRing).sup = s.sup ∧
    (s.startRing).group = s.group ∧
    (s.startRing).driver = s.driver ∧
    (s.startRing).timing = s.timing := by
  unfold State.startRing
  simp

@[simp] theorem State.enterBusy_frame (s : State) :
    (s.enterBusy).pending = s.pending ∧
    (s.enterBusy).now = s.now ∧
    (s.enterBusy).path = s.path ∧
    (s.enterBusy).mailbox = s.mailbox ∧
    (s.enterBusy).scan = s.scan ∧
    (s.enterBusy).sup = s.sup ∧
    (s.enterBusy).group = s.group ∧
    (s.enterBusy).driver = s.driver ∧
    (s.enterBusy).timing = s.timing := by
  unfold State.enterBusy
  simp

@[simp] theorem State.readWord0_frame (s : State) :
    (s.readWord0).pending = s.pending ∧
    (s.readWord0).now = s.now ∧
    (s.readWord0).path = s.path ∧
    (s.readWord0).mailbox = s.mailbox ∧
    (s.readWord0).scan = s.scan ∧
    (s.readWord0).sup = s.sup ∧
    (s.readWord0).group = s.group ∧
    (s.readWord0).driver = s.driver ∧
    (s.readWord0).timing = s.timing := by
  unfold State.readWord0
  (repeat' split) <;> simp

@[simp] theorem State.writeDescriptor_frame (s : State) (j : Nat) (w : Word) (n : PostStep) :
    (s.writeDescriptor j w n).pending = s.pending ∧
    (s.writeDescriptor j w n).now = s.now ∧
    (s.writeDescriptor j w n).mailbox = s.mailbox ∧
    (s.writeDescriptor j w n).scan = s.scan ∧
    (s.writeDescriptor j w n).sup = s.sup ∧
    (s.writeDescriptor j w n).group = s.group ∧
    (s.writeDescriptor j w n).driver = s.driver ∧
    (s.writeDescriptor j w n).timing = s.timing ∧
    (s.writeDescriptor j w n).alarm = s.alarm := by
  refine ⟨rfl, rfl, rfl, rfl, rfl, rfl, rfl, rfl, rfl⟩

@[simp] theorem State.writeWord_frame (s : State) :
    (s.writeWord).pending = s.pending ∧
    (s.writeWord).now = s.now ∧
    (s.writeWord).mailbox = s.mailbox ∧
    (s.writeWord).scan = s.scan ∧
    (s.writeWord).sup = s.sup ∧
    (s.writeWord).group = s.group ∧
    (s.writeWord).driver = s.driver ∧
    (s.writeWord).timing = s.timing ∧
    (s.writeWord).alarm = s.alarm := by
  unfold State.writeWord
  (repeat' split) <;> simp

@[simp] theorem State.writeWord0_frame (s : State) :
    (s.writeWord0).pending = s.pending ∧
    (s.writeWord0).now = s.now ∧
    (s.writeWord0).mailbox = s.mailbox ∧
    (s.writeWord0).scan = s.scan ∧
    (s.writeWord0).sup = s.sup ∧
    (s.writeWord0).group = s.group ∧
    (s.writeWord0).driver = s.driver ∧
    (s.writeWord0).timing = s.timing := by
  unfold State.writeWord0
  (repeat' split) <;> simp

@[simp] theorem State.endBusy_frame (s : State) :
    (s.endBusy).pending = s.pending ∧
    (s.endBusy).now = s.now ∧
    (s.endBusy).path = s.path ∧
    (s.endBusy).mailbox = s.mailbox ∧
    (s.endBusy).scan = s.scan ∧
    (s.endBusy).sup = s.sup ∧
    (s.endBusy).group = s.group ∧
    (s.endBusy).driver = s.driver ∧
    (s.endBusy).timing = s.timing := by
  unfold State.endBusy
  simp

@[simp] theorem State.resume_frame (s : State) :
    (s.resume).pending = s.pending ∧
    (s.resume).now = s.now ∧
    (s.resume).path = s.path ∧
    (s.resume).mailbox = s.mailbox ∧
    (s.resume).scan = s.scan ∧
    (s.resume).sup = s.sup ∧
    (s.resume).group = s.group ∧
    (s.resume).driver = s.driver ∧
    (s.resume).timing = s.timing := by
  unfold State.resume
  dsimp only
  (repeat' split) <;> simp

@[simp] theorem State.setHeld_frame (s : State) (w : Watched) (v : Word) :
    (s.setHeld w v).pending = s.pending ∧
    (s.setHeld w v).now = s.now ∧
    (s.setHeld w v).path = s.path ∧
    (s.setHeld w v).mailbox = s.mailbox ∧
    (s.setHeld w v).driver = s.driver := by
  cases w <;> simp [State.setHeld]

@[simp] theorem State.changed_frame (old s : State) (w : Watched) :
    (State.changed old s w).pending = s.pending ∧
    (State.changed old s w).now = s.now ∧
    (State.changed old s w).path = s.path ∧
    (State.changed old s w).mailbox = s.mailbox := by
  cases w <;> simp [State.changed]

@[simp] theorem State.takeHeld_frame (s : State) (w : Watched) (v : Word) :
    (s.takeHeld w v).pending = s.pending ∧
    (s.takeHeld w v).now = s.now ∧
    (s.takeHeld w v).path = s.path ∧
    (s.takeHeld w v).mailbox = s.mailbox := by
  unfold State.takeHeld
  (repeat' split) <;> simp

@[simp] theorem State.provision_frame (s : State) (w : Watched) (v : Verdict) :
    (s.provision w v).pending = s.pending ∧
    (s.provision w v).now = s.now ∧
    (s.provision w v).path = s.path ∧
    (s.provision w v).mailbox = s.mailbox ∧
    (s.provision w v).scan = s.scan ∧
    (s.provision w v).sup = s.sup ∧
    (s.provision w v).group = s.group ∧
    (s.provision w v).driver = s.driver ∧
    (s.provision w v).timing = s.timing ∧
    (s.provision w v).alarm = s.alarm := by
  unfold State.provision
  (repeat' split) <;> simp

@[simp] theorem State.watchedWrite_frame (s : State) (w : Watched) (l : Lanes) (d : Word) :
    (s.watchedWrite w l d).pending = s.pending ∧
    (s.watchedWrite w l d).now = s.now ∧
    (s.watchedWrite w l d).mailbox = s.mailbox := by
  unfold State.watchedWrite
  simp

@[simp] theorem State.recordResult_frame (s : State) (c : BitVec 4) (o : Nat) (r : CommandResult) :
    (s.recordResult c o r).pending = s.pending ∧
    (s.recordResult c o r).now = s.now ∧
    (s.recordResult c o r).path = s.path ∧
    (s.recordResult c o r).scan = s.scan ∧
    (s.recordResult c o r).sup = s.sup ∧
    (s.recordResult c o r).group = s.group ∧
    (s.recordResult c o r).driver = s.driver ∧
    (s.recordResult c o r).timing = s.timing := by
  unfold State.recordResult
  simp

@[simp] theorem State.recordWord_frame (s : State) (w : Word) (r : CommandResult) :
    (s.recordWord w r).pending = s.pending ∧
    (s.recordWord w r).now = s.now ∧
    (s.recordWord w r).path = s.path ∧
    (s.recordWord w r).scan = s.scan ∧
    (s.recordWord w r).sup = s.sup ∧
    (s.recordWord w r).group = s.group ∧
    (s.recordWord w r).driver = s.driver ∧
    (s.recordWord w r).timing = s.timing := by
  unfold State.recordWord
  simp

@[simp] theorem State.settleMailbox_frame (s : State) (m : MailboxState) :
    (s.settleMailbox m).pending = s.pending ∧
    (s.settleMailbox m).now = s.now ∧
    (s.settleMailbox m).path = s.path ∧
    (s.settleMailbox m).scan = s.scan ∧
    (s.settleMailbox m).sup = s.sup ∧
    (s.settleMailbox m).group = s.group ∧
    (s.settleMailbox m).driver = s.driver ∧
    (s.settleMailbox m).timing = s.timing ∧
    (s.settleMailbox m).alarm = s.alarm ∧
    (s.settleMailbox m).poster = s.poster := by
  refine ⟨rfl, rfl, rfl, rfl, rfl, rfl, rfl, rfl, rfl, rfl⟩

@[simp] theorem State.forceRef_frame (s : State) (o : Nat) :
    ((s.forceRef o).1).pending = s.pending ∧
    ((s.forceRef o).1).now = s.now ∧
    ((s.forceRef o).1).path = s.path ∧
    ((s.forceRef o).1).mailbox = s.mailbox ∧
    ((s.forceRef o).1).scan = s.scan ∧
    ((s.forceRef o).1).sup = s.sup ∧
    ((s.forceRef o).1).group = s.group ∧
    ((s.forceRef o).1).driver = s.driver := by
  unfold State.forceRef
  (repeat' split) <;> simp

@[simp] theorem State.handToOwner_frame (s : State) (c : Command) (o n : Nat) :
    ((s.handToOwner c o n).1).pending = s.pending ∧
    ((s.handToOwner c o n).1).now = s.now ∧
    ((s.handToOwner c o n).1).path = s.path ∧
    ((s.handToOwner c o n).1).mailbox = s.mailbox := by
  cases c <;> simp [State.handToOwner]

@[simp] theorem State.executeWord_frame (s : State) (c : Command) (w : Word) :
    (s.executeWord c w).pending = s.pending ∧
    (s.executeWord c w).now = s.now ∧
    (s.executeWord c w).path = s.path := by
  unfold State.executeWord
  simp

@[simp] theorem State.newCommand_frame (s : State) (w : Word) :
    (s.newCommand w).pending = s.pending ∧
    (s.newCommand w).now = s.now ∧
    (s.newCommand w).path = s.path := by
  unfold State.newCommand
  (repeat' split) <;> simp

@[simp] theorem State.block_frame (s : State) (w : Word) (r : CommandResult) :
    (s.block w r).pending = s.pending ∧
    (s.block w r).now = s.now ∧
    (s.block w r).path = s.path ∧
    (s.block w r).scan = s.scan ∧
    (s.block w r).sup = s.sup ∧
    (s.block w r).group = s.group ∧
    (s.block w r).driver = s.driver ∧
    (s.block w r).timing = s.timing := by
  unfold State.block
  simp

@[simp] theorem State.commandWrite_frame (s : State) (w : Word) :
    (s.commandWrite w).pending = s.pending ∧
    (s.commandWrite w).now = s.now ∧
    (s.commandWrite w).path = s.path := by
  unfold State.commandWrite
  (repeat' split) <;> simp

@[simp] theorem State.confirmed_frame (s : State) (w : Word) :
    (s.confirmed w).pending = s.pending ∧
    (s.confirmed w).now = s.now ∧
    (s.confirmed w).path = s.path := by
  unfold State.confirmed
  (repeat' split) <;> simp

@[simp] theorem State.confirmWrite_frame (s : State) (w : Word) :
    (s.confirmWrite w).pending = s.pending ∧
    (s.confirmWrite w).now = s.now ∧
    (s.confirmWrite w).path = s.path := by
  unfold State.confirmWrite
  (repeat' split) <;> simp

@[simp] theorem State.mailboxByte_frame (s : State) :
    (s.mailboxByte).pending = s.pending ∧
    (s.mailboxByte).now = s.now ∧
    (s.mailboxByte).path = s.path ∧
    (s.mailboxByte).scan = s.scan ∧
    (s.mailboxByte).sup = s.sup ∧
    (s.mailboxByte).group = s.group ∧
    (s.mailboxByte).driver = s.driver ∧
    (s.mailboxByte).timing = s.timing := by
  unfold State.mailboxByte
  (repeat' split) <;> simp

@[simp] theorem State.windowExpire_frame (s : State) :
    (s.windowExpire).pending = s.pending ∧
    (s.windowExpire).path = s.path ∧
    (s.windowExpire).scan = s.scan ∧
    (s.windowExpire).sup = s.sup ∧
    (s.windowExpire).group = s.group ∧
    (s.windowExpire).driver = s.driver ∧
    (s.windowExpire).timing = s.timing := by
  unfold State.windowExpire
  (repeat' split) <;> simp

@[simp] theorem State.writeStatus_frame (s : State) (l : Lanes) (d : Word) :
    (s.writeStatus l d).pending = s.pending ∧
    (s.writeStatus l d).now = s.now ∧
    (s.writeStatus l d).path = s.path ∧
    (s.writeStatus l d).scan = s.scan ∧
    (s.writeStatus l d).sup = s.sup ∧
    (s.writeStatus l d).group = s.group ∧
    (s.writeStatus l d).driver = s.driver ∧
    (s.writeStatus l d).timing = s.timing ∧
    (s.writeStatus l d).alarm = s.alarm ∧
    (s.writeStatus l d).poster = s.poster := by
  unfold State.writeStatus
  (repeat' split) <;> simp

@[simp] theorem State.completeRestart_frame (s : State) :
    (s.completeRestart).pending = s.pending ∧
    (s.completeRestart).now = s.now ∧
    (s.completeRestart).path = s.path ∧
    (s.completeRestart).scan = s.scan ∧
    (s.completeRestart).sup = s.sup ∧
    (s.completeRestart).group = s.group ∧
    (s.completeRestart).driver = s.driver ∧
    (s.completeRestart).timing = s.timing := by
  unfold State.completeRestart
  (repeat' split) <;> simp

@[simp] theorem State.passCycle_frame (s : State) (c : Cycle) :
    (s.passCycle c).pending = s.pending ∧
    (s.passCycle c).now = s.now ∧
    (s.passCycle c).mailbox = s.mailbox ∧
    (s.passCycle c).scan = s.scan ∧
    (s.passCycle c).sup = s.sup ∧
    (s.passCycle c).group = s.group ∧
    (s.passCycle c).driver = s.driver ∧
    (s.passCycle c).timing = s.timing ∧
    (s.passCycle c).alarm = s.alarm ∧
    (s.passCycle c).poster = s.poster := by
  unfold State.passCycle
  (repeat' split) <;> simp

@[simp] theorem State.beginRestart_frame (s : State) :
    (s.beginRestart).pending = s.pending ∧
    (s.beginRestart).now = s.now ∧
    (s.beginRestart).mailbox = s.mailbox := by
  refine ⟨rfl, rfl, rfl⟩

@[simp] theorem State.confirmCycle_frame (s : State) (w : Word) :
    (s.confirmCycle w).pending = s.pending ∧
    (s.confirmCycle w).now = s.now := by
  unfold State.confirmCycle
  simp

@[simp] theorem State.triggered_frame (s : State) (t : Trigger) (l : Lanes) (d : Word) :
    (s.triggered t l d).pending = s.pending ∧
    (s.triggered t l d).now = s.now := by
  unfold State.triggered
  split <;> simp

@[simp] theorem State.setShelfTime_frame (s : State) (w : Word) :
    (s.setShelfTime w).pending = s.pending ∧
    (s.setShelfTime w).now = s.now ∧
    (s.setShelfTime w).path = s.path ∧
    (s.setShelfTime w).mailbox = s.mailbox ∧
    (s.setShelfTime w).scan = s.scan ∧
    (s.setShelfTime w).sup = s.sup ∧
    (s.setShelfTime w).group = s.group ∧
    (s.setShelfTime w).driver = s.driver ∧
    (s.setShelfTime w).timing = s.timing ∧
    (s.setShelfTime w).alarm = s.alarm := by
  refine ⟨rfl, rfl, rfl, rfl, rfl, rfl, rfl, rfl, rfl, rfl⟩

@[simp] theorem State.advanceShelfTime_frame (s : State) :
    (s.advanceShelfTime).pending = s.pending ∧
    (s.advanceShelfTime).path = s.path ∧
    (s.advanceShelfTime).mailbox = s.mailbox ∧
    (s.advanceShelfTime).scan = s.scan ∧
    (s.advanceShelfTime).sup = s.sup ∧
    (s.advanceShelfTime).group = s.group ∧
    (s.advanceShelfTime).driver = s.driver ∧
    (s.advanceShelfTime).timing = s.timing ∧
    (s.advanceShelfTime).alarm = s.alarm := by
  refine ⟨rfl, rfl, rfl, rfl, rfl, rfl, rfl, rfl, rfl⟩

@[simp] theorem State.writeLive_frame (s : State) (v : LiveWord) (l : Lanes) (d : Word) :
    (s.writeLive v l d).pending = s.pending ∧
    (s.writeLive v l d).now = s.now ∧
    (s.writeLive v l d).path = s.path ∧
    (s.writeLive v l d).scan = s.scan ∧
    (s.writeLive v l d).sup = s.sup ∧
    (s.writeLive v l d).group = s.group ∧
    (s.writeLive v l d).driver = s.driver ∧
    (s.writeLive v l d).timing = s.timing ∧
    (s.writeLive v l d).alarm = s.alarm := by
  cases v <;> simp [State.writeLive]

@[simp] theorem State.readLive_frame (s : State) (v : LiveWord) (l : Lanes) :
    (s.readLive v l).pending = s.pending ∧
    (s.readLive v l).now = s.now ∧
    (s.readLive v l).mailbox = s.mailbox ∧
    (s.readLive v l).scan = s.scan ∧
    (s.readLive v l).sup = s.sup ∧
    (s.readLive v l).group = s.group ∧
    (s.readLive v l).driver = s.driver ∧
    (s.readLive v l).timing = s.timing ∧
    (s.readLive v l).poster = s.poster := by
  unfold State.readLive
  (repeat' split) <;> simp

@[simp] theorem State.readChange_frame (s : State) (w : Fin 16) (l : Lanes) :
    (s.readChange w l).pending = s.pending ∧
    (s.readChange w l).now = s.now ∧
    (s.readChange w l).mailbox = s.mailbox ∧
    (s.readChange w l).scan = s.scan ∧
    (s.readChange w l).sup = s.sup ∧
    (s.readChange w l).group = s.group ∧
    (s.readChange w l).driver = s.driver ∧
    (s.readChange w l).timing = s.timing ∧
    (s.readChange w l).poster = s.poster := by
  refine ⟨rfl, rfl, rfl, rfl, rfl, rfl, rfl, rfl, rfl⟩

@[simp] theorem State.serveRunning_frame (s : State) (c : Cycle) :
    (s.serveRunning c).pending = s.pending ∧
    (s.serveRunning c).now = s.now := by
  unfold State.serveRunning
  (repeat' split) <;> simp

@[simp] theorem State.holdCycle_frame (s : State) (c : Cycle) :
    (s.holdCycle c).pending = s.pending ∧
    (s.holdCycle c).now = s.now ∧
    (s.holdCycle c).mailbox = s.mailbox ∧
    (s.holdCycle c).scan = s.scan ∧
    (s.holdCycle c).sup = s.sup ∧
    (s.holdCycle c).group = s.group ∧
    (s.holdCycle c).driver = s.driver ∧
    (s.holdCycle c).timing = s.timing ∧
    (s.holdCycle c).alarm = s.alarm ∧
    (s.holdCycle c).poster = s.poster := by
  refine ⟨rfl, rfl, rfl, rfl, rfl, rfl, rfl, rfl, rfl, rfl⟩

@[simp] theorem State.serveStandby_frame (s : State) (c : Cycle) :
    (s.serveStandby c).pending = s.pending ∧
    (s.serveStandby c).now = s.now ∧
    (s.serveStandby c).mailbox = s.mailbox ∧
    (s.serveStandby c).scan = s.scan ∧
    (s.serveStandby c).sup = s.sup ∧
    (s.serveStandby c).group = s.group ∧
    (s.serveStandby c).driver = s.driver ∧
    (s.serveStandby c).timing = s.timing ∧
    (s.serveStandby c).poster = s.poster := by
  unfold State.serveStandby
  (repeat' split) <;> simp

@[simp] theorem State.processorCycle_frame (s : State) (c : Cycle) :
    (s.processorCycle c).pending = s.pending ∧
    (s.processorCycle c).now = s.now := by
  unfold State.processorCycle
  (repeat' split) <;> simp

@[simp] theorem State.serve_frame (s : State) (c : Cycle) :
    (s.serve c).pending = s.pending ∧
    (s.serve c).now = s.now := by
  unfold State.serve
  split <;> simp

@[simp] theorem State.serveHeld_frame (s : State) :
    (s.serveHeld).pending = s.pending ∧
    (s.serveHeld).now = s.now := by
  unfold State.serveHeld
  simp

@[simp] theorem State.grantAfresh_frame (s : State) :
    (s.grantAfresh).pending = s.pending ∧
    (s.grantAfresh).now = s.now ∧
    (s.grantAfresh).mailbox = s.mailbox ∧
    (s.grantAfresh).scan = s.scan ∧
    (s.grantAfresh).sup = s.sup ∧
    (s.grantAfresh).group = s.group ∧
    (s.grantAfresh).driver = s.driver ∧
    (s.grantAfresh).timing = s.timing ∧
    (s.grantAfresh).alarm = s.alarm ∧
    (s.grantAfresh).poster = s.poster := by
  refine ⟨rfl, rfl, rfl, rfl, rfl, rfl, rfl, rfl, rfl, rfl⟩

@[simp] theorem State.eventDone_frame (s : State) :
    (s.eventDone).pending = s.pending ∧
    (s.eventDone).now = s.now ∧
    (s.eventDone).mailbox = s.mailbox ∧
    (s.eventDone).scan = s.scan ∧
    (s.eventDone).sup = s.sup ∧
    (s.eventDone).group = s.group ∧
    (s.eventDone).driver = s.driver ∧
    (s.eventDone).timing = s.timing ∧
    (s.eventDone).alarm = s.alarm ∧
    (s.eventDone).poster = s.poster := by
  unfold State.eventDone
  (repeat' split) <;> simp

@[simp] theorem State.processor_frame (s : State) (c : Cycle) :
    (s.processor c).pending = s.pending ∧
    (s.processor c).now = s.now := by
  unfold State.processor
  (repeat' split) <;> simp

@[simp] theorem State.enterStandby_frame (s : State) :
    (s.enterStandby).pending = s.pending ∧
    (s.enterStandby).now = s.now := by
  unfold State.enterStandby
  simp

@[simp] theorem State.enterLoading_frame (s : State) :
    (s.enterLoading).pending = s.pending ∧
    (s.enterLoading).now = s.now ∧
    (s.enterLoading).mailbox = s.mailbox ∧
    (s.enterLoading).scan = s.scan ∧
    (s.enterLoading).sup = s.sup ∧
    (s.enterLoading).group = s.group ∧
    (s.enterLoading).driver = s.driver ∧
    (s.enterLoading).timing = s.timing ∧
    (s.enterLoading).alarm = s.alarm ∧
    (s.enterLoading).poster = s.poster := by
  refine ⟨rfl, rfl, rfl, rfl, rfl, rfl, rfl, rfl, rfl, rfl⟩

@[simp] theorem State.beginRound_frame (s : State) :
    (s.beginRound).pending = s.pending ∧
    (s.beginRound).now = s.now ∧
    (s.beginRound).path = s.path ∧
    (s.beginRound).mailbox = s.mailbox ∧
    (s.beginRound).sup = s.sup ∧
    (s.beginRound).group = s.group ∧
    (s.beginRound).driver = s.driver ∧
    (s.beginRound).timing = s.timing ∧
    (s.beginRound).alarm = s.alarm ∧
    (s.beginRound).poster = s.poster := by
  refine ⟨rfl, rfl, rfl, rfl, rfl, rfl, rfl, rfl, rfl, rfl⟩

@[simp] theorem State.beginRunning_frame (s : State) :
    (s.beginRunning).pending = s.pending ∧
    (s.beginRunning).now = s.now := by
  unfold State.beginRunning
  simp

@[simp] theorem State.endStartCheck_frame (s : State) :
    (s.endStartCheck).pending = s.pending ∧
    (s.endStartCheck).now = s.now := by
  unfold State.endStartCheck
  (repeat' split) <;> simp

@[simp] theorem State.loaderNext_frame (s : State) :
    (s.loaderNext).pending = s.pending ∧
    (s.loaderNext).now = s.now := by
  unfold State.loaderNext
  simp

@[simp] theorem State.loadWord_frame (s : State) :
    (s.loadWord).pending = s.pending ∧
    (s.loadWord).now = s.now := by
  unfold State.loadWord
  (repeat' split) <;> simp

@[simp] theorem State.writeBackWord_frame (s : State) :
    (s.writeBackWord).pending = s.pending ∧
    (s.writeBackWord).now = s.now := by
  unfold State.writeBackWord
  (repeat' split) <;> simp

@[simp] theorem State.readBack_frame (s : State) :
    (s.readBack).pending = s.pending ∧
    (s.readBack).now = s.now := by
  unfold State.readBack
  (repeat' split) <;> simp

@[simp] theorem State.setRound_frame (s : State) (r : Option Round) :
    (s.setRound r).pending = s.pending ∧
    (s.setRound r).now = s.now ∧
    (s.setRound r).path = s.path ∧
    (s.setRound r).mailbox = s.mailbox ∧
    (s.setRound r).sup = s.sup ∧
    (s.setRound r).group = s.group ∧
    (s.setRound r).driver = s.driver ∧
    (s.setRound r).timing = s.timing ∧
    (s.setRound r).alarm = s.alarm ∧
    (s.setRound r).poster = s.poster := by
  refine ⟨rfl, rfl, rfl, rfl, rfl, rfl, rfl, rfl, rfl, rfl⟩

@[simp] theorem State.startRound_frame (s : State) :
    (s.startRound).pending = s.pending ∧
    (s.startRound).now = s.now ∧
    (s.startRound).path = s.path ∧
    (s.startRound).mailbox = s.mailbox ∧
    (s.startRound).sup = s.sup ∧
    (s.startRound).group = s.group ∧
    (s.startRound).driver = s.driver ∧
    (s.startRound).timing = s.timing ∧
    (s.startRound).alarm = s.alarm ∧
    (s.startRound).poster = s.poster := by
  unfold State.startRound
  (repeat' split) <;> simp

@[simp] theorem State.startSlot_frame (s : State) :
    (s.startSlot).pending = s.pending ∧
    (s.startSlot).now = s.now ∧
    (s.startSlot).path = s.path ∧
    (s.startSlot).mailbox = s.mailbox ∧
    (s.startSlot).sup = s.sup ∧
    (s.startSlot).group = s.group ∧
    (s.startSlot).driver = s.driver ∧
    (s.startSlot).timing = s.timing ∧
    (s.startSlot).alarm = s.alarm ∧
    (s.startSlot).poster = s.poster := by
  unfold State.startSlot
  (repeat' split) <;> simp

@[simp] theorem State.takeAnswer_frame (s : State) (k : Bool) (a : Answer) :
    (s.takeAnswer k a).pending = s.pending ∧
    (s.takeAnswer k a).now = s.now ∧
    (s.takeAnswer k a).path = s.path ∧
    (s.takeAnswer k a).mailbox = s.mailbox ∧
    (s.takeAnswer k a).sup = s.sup ∧
    (s.takeAnswer k a).group = s.group ∧
    (s.takeAnswer k a).driver = s.driver ∧
    (s.takeAnswer k a).timing = s.timing ∧
    (s.takeAnswer k a).alarm = s.alarm ∧
    (s.takeAnswer k a).poster = s.poster := by
  unfold State.takeAnswer
  (repeat' split) <;> simp

@[simp] theorem State.classifyRound_frame (s : State) (r : List (Port × Option Answer)) :
    (s.classifyRound r).pending = s.pending ∧
    (s.classifyRound r).now = s.now ∧
    (s.classifyRound r).path = s.path ∧
    (s.classifyRound r).mailbox = s.mailbox := by
  unfold State.classifyRound
  simp

@[simp] theorem State.endSlot_frame (s : State) :
    (s.endSlot).pending = s.pending ∧
    (s.endSlot).now = s.now ∧
    (s.endSlot).path = s.path ∧
    (s.endSlot).mailbox = s.mailbox := by
  unfold State.endSlot
  (repeat' split) <;> simp

end Sys2Proof.Machine
end

