-- ==== Sys2Proof/Laws/GroupUpdate.lean ====
section
/-! SUPPORT. What a group's update and the reports of its own commands do (R90, R121): the update is taken once, and the updates for
its own reports change only what a report brings. -/

namespace Sys2Proof.Machine

/-! ## The highest request (R89) -/

theorem topRequest_foldl (l : List Request) (b : Request) :
    l.foldl (fun best x => if x.beats best then x else best) b = b
      ∨ l.foldl (fun best x => if x.beats best then x else best) b ∈ l := by
  induction l generalizing b with
  | nil => exact .inl rfl
  | cons x l ih =>
    rw [List.foldl_cons]
    rcases ih (if x.beats b then x else b) with h | h
    · rw [h]
      split
      · exact .inr (List.mem_cons_self ..)
      · exact .inl rfl
    · exact .inr (List.mem_cons_of_mem _ h)

/-- The local top request is CLEAR or one of the requests held (R89). -/
theorem topRequest_mem (l : List Request) : topRequest l = Request.clear ∨ topRequest l ∈ l := topRequest_foldl l _

/-! ## Bringing the requests up to date twice -/

theorem Channel.meet_again (c : Channel) (cond : Condition) (now h : Nat) :
    (c.meet cond now h).meet cond now h = c.meet cond now h := by
  cases cond <;> simp only [Channel.meet, Channel.startHoldOff]
  all_goals (repeat' split) <;> simp_all

/-- A request of level 3 or 4 is held for a channel whose condition request is raised (R79, R82). -/
theorem Group.held_channel (r : Group) (q : Request) (h : q ∈ r.localRequests) (l : q.level = 4 ∨ q.level = 3) :
    ∃ k : ChannelIx, q.channel = channelNumber k ∧ r.channel[k].request ≠ .clear := by
  unfold Group.localRequests Group.automaticRequests Group.conditionRequests at h
  simp only [List.mem_append] at h
  rcases h with h | h | h
  · split at h
    · cases hs : r.stored with
      | none => simp [hs] at h
      | some c => cases c <;> simp [hs, Stored.request] at h <;> subst h <;> simp at l
    · simp at h
  · split at h
    · simp only [List.mem_append, List.mem_flatMap] at h
      rcases h with h | ⟨k, -, h⟩
      · split at h
        · simp at h; subst h; simp at l
        · simp at h
      · refine ⟨k, ?_⟩
        cases hr : r.channel[k].request with
        | clear => simp only [hr, Condition.requests, List.not_mem_nil] at h
        | degrade => simp only [hr, Condition.requests, List.mem_singleton] at h; subst h; simp
        | fail => simp only [hr, Condition.requests, List.mem_singleton] at h; subst h; simp
    · simp at h
  · split at h
    · cases he : r.entry with
      | none => simp [he] at h
      | some c => cases c <;> simp [he, Entry.request] at h <;> subst h <;> simp at l
    · simp at h

/-- A group at rest: a further update for no new input finds every request, the winner, the commands and the confirmation timer as
they are. -/
structure State.Calm (s : State) (g : GroupId) : Prop where
  refreshed : s.refreshGroup s.group[g] = s.group[g]
  manual    : s.group[g].conditionRequests ≠ [] → ∀ k, s.group[g].stored ≠ some (.manual k)
  entry     : s.settleEntry s.group[g] = s.group[g]
  top       : topRequest s.group[g].localRequests = s.group[g].top
  chosen    : s.group[g].choose = (s.group[g].winner, s.group[g].source)
  commanded : (s.commandGroup g).driver = s.driver
  confirmed : s.group[g].confirm s.now = s.group[g]
  evaluated : s.group[g].evaluated = true

@[simp] theorem State.setGroup_self (s : State) (g : GroupId) : s.setGroup g s.group[g] = s := by
  simp [State.setGroup, put]

@[simp] theorem State.setGroup_group (s : State) (g : GroupId) (r : Group) : (s.setGroup g r).group[g] = r := put_same _ _ _

theorem State.cancelManual_none (s : State) (g : GroupId) (h : ∀ k, s.group[g].stored ≠ some (.manual k)) :
    s.cancelManual g = s := by
  unfold State.cancelManual
  split
  · exact absurd ‹_› (h _)
  all_goals rfl

/-- The commands of an evaluation touch the driver alone. -/
theorem State.commandGroup_eq (s : State) (g : GroupId) :
    s.commandGroup g = { s with driver := (s.commandGroup g).driver } := by
  unfold State.commandGroup
  dsimp only
  (repeat' split) <;> rfl

theorem State.Calm.bringRequests {s : State} {g : GroupId} (h : s.Calm g) : s.bringRequests g = s := by
  have hm : (if s.group[g].conditionRequests ≠ [] then s.cancelManual g else s) = s := by
    split
    · exact s.cancelManual_none g (h.manual ‹_›)
    · rfl
  unfold State.bringRequests
  rw [h.refreshed, State.setGroup_self]
  dsimp only
  rw [hm, h.entry, h.top]
  exact s.setGroup_self g

theorem State.Calm.evaluate {s : State} {g : GroupId} (h : s.Calm g) : s.evaluate false g = s := by
  have hc : s.commandGroup g = s := by rw [s.commandGroup_eq, h.commanded]
  have hw : s.setGroup g { s.group[g] with winner := s.group[g].choose.1, source := s.group[g].choose.2 } = s := by
    rw [h.chosen]; exact s.setGroup_self g
  have he : s.setGroup g { s.group[g] with evaluated := true } = s := by
    rw [show ({ s.group[g] with evaluated := true } : Group) = s.group[g] by rw [← h.evaluated]]; exact s.setGroup_self g
  unfold State.evaluate
  dsimp only
  rw [hw, hc]
  simp only [h.chosen, if_true, h.confirmed, Bool.false_eq_true, if_false]
  exact he

/-- An update of a group at rest only hands on what it has heard. -/
theorem State.Calm.takeUpdate {s : State} {g : GroupId} (h : s.Calm g) (heard : Driver) :
    s.takeUpdate heard false g = (s.handConditions heard g).formTransmit heard g := by
  unfold State.takeUpdate
  simp only [h.bringRequests, h.evaluated, Bool.or_true, if_true, h.evaluate]

/-! ## Commands given twice (R117) -/

theorem Element.command_again (x : Element) (p : Position) (n : Nat) : (x.command p n).command p n = x.command p n := by
  have h : (x.command p n).commanded = p := by
    unfold Element.command; (repeat' split) <;> simp_all
  rw [Element.command, if_pos h.symm]

/-- Two commands to one element, given again: the last stands as it stood. -/
theorem Element.command_twice (x : Element) (p q : Position) (n : Nat) :
    (((x.command p n).command q n).command p n).command q n = (x.command p n).command q n := by
  by_cases hpq : p = q
  · subst hpq; simp only [Element.command_again]
  · have hc : ∀ y : Element, (y.command p n).commanded = p := by
      intro y; unfold Element.command; (repeat' split) <;> simp_all
    have hs : ∀ (y : Element) r, (y.command r n).sensed = y.sensed := by
      intro y r; unfold Element.command; (repeat' split) <;> rfl
    have hq : ∀ y : Element, y.commanded ≠ q → y.command q n
        = if y.sensed = some q then ⟨q, y.sensed, .settled, none⟩ else ⟨q, y.sensed, .travelling, some n⟩ := by
      intro y hy; rw [Element.command, if_neg (fun h => hy h.symm)]
    rw [hq (((x.command p n).command q n).command p n) (by rw [hc]; exact hpq), hq (x.command p n) (by rw [hc]; exact hpq)]
    simp only [hs]
    split <;> simp_all

/-- The driver after an element is commanded, where one is named and aimed. -/
def Driver.aim (d : Driver) (n : Nat) (e : Option ElementId) (p : Option Position) : Driver :=
  match e, p with
  | some e, some p => { d with element := put d.element e (d.element[e].command p n) }
  | _, _ => d

/-- What the commands of an evaluation make of the driver. -/
theorem State.commandGroup_driver (s : State) (g : GroupId) :
    (s.commandGroup g).driver = ((s.driver.aim (s.now + Config.travelTime) (GroupConfig.bridge s.group[g].config)
      s.group[g].bridgeTarget).aim (s.now + Config.travelTime) (GroupConfig.selector s.group[g].config)
        (some s.group[g].selectorTarget)) := by
  unfold State.commandGroup
  dsimp only
  cases hb : s.group[g].bridgeTarget <;> cases he : GroupConfig.bridge s.group[g].config <;>
    cases hs : GroupConfig.selector s.group[g].config <;>
    rfl

theorem Driver.aim_again (d : Driver) (n : Nat) (a b : Option ElementId) (p q : Option Position) :
    (((d.aim n a p).aim n b q).aim n a p).aim n b q = (d.aim n a p).aim n b q := by
  cases a with
  | none => cases b <;> cases q <;> simp [Driver.aim, Element.command_again, put]
  | some a =>
    cases p with
    | none => cases b <;> cases q <;> simp [Driver.aim, Element.command_again, put]
    | some p =>
      cases b with
      | none => simp [Driver.aim, Element.command_again, put]
      | some b =>
        cases q with
        | none => simp [Driver.aim, Element.command_again, put]
        | some q =>
          simp only [Driver.aim]
          congr 1
          apply Vector.ext
          intro i hi
          have g : ∀ (v : Vector Element 32) (e : ElementId) (x : Element), (put v e x)[i] = if e.val = i then x else v[i] := by
            intro v e x; simp [put, Vector.getElem_set]
          by_cases hab : a = b
          · subst hab
            simp only [g, put_same, Element.command_twice]
            split <;> rfl
          · have hba : b ≠ a := fun h => hab h.symm
            simp only [g, put_same, put_other _ _ _ _ hab, put_other _ _ _ _ hba, Element.command_again]
            (repeat' split) <;> rfl

/-- The commands of an evaluation, given again, change nothing. -/
theorem State.commandGroup_again (s t : State) (g : GroupId) (hn : t.now = s.now) (hd : t.driver = (s.commandGroup g).driver)
    (hc : t.group[g].config = s.group[g].config) (hb : t.group[g].bridgeTarget = s.group[g].bridgeTarget)
    (hs : t.group[g].selectorTarget = s.group[g].selectorTarget) : (t.commandGroup g).driver = t.driver := by
  rw [t.commandGroup_driver, hd, s.commandGroup_driver, hn, hc, hb, hs, Driver.aim_again]

/-- The entry depends on the clock, the driver and the record, its conditions apart. -/
theorem State.settleEntry_congr {s t : State} {r : Group} {q : GroupConditions} (hn : t.now = s.now) (hd : t.driver = s.driver) :
    t.settleEntry { r with conditions := q } = { s.settleEntry r with conditions := q } := by
  have h1 : ({ r with conditions := q } : Group).heldAboveEntry = r.heldAboveEntry := rfl
  have h2 : ({ r with conditions := q } : Group).ownFailure = r.ownFailure := rfl
  have h3 : ∀ k, t.entersEntry { r with conditions := q } k = s.entersEntry r k := by
    intro k; unfold State.entersEntry State.element; rw [hd]; rfl
  have h4 : ∀ k, t.enterEntry { r with conditions := q } k = { s.enterEntry r k with conditions := q } := by
    intro k; unfold State.enterEntry State.after; rw [hn]; dsimp only; split <;> rfl
  unfold State.settleEntry
  rw [h1, h2]
  cases r.heldAboveEntry
  · dsimp only
    cases r.entry.isSome
    · cases r.ownFailure with
      | none => rfl
      | some k =>
        simp only [h3, h4]
        cases s.entersEntry r k <;> rfl
    · rfl
  · rfl

/-- The confirmation timer has nothing to do with the conditions, the restore wait and the evaluated flag. -/
theorem Group.confirm_congr (r : Group) (q : GroupConditions) (w : Timer) (ev : Bool) (n : Nat) :
    ({ r with conditions := q, restoreWait := w, evaluated := ev } : Group).confirm n
      = { r.confirm n with conditions := q, restoreWait := w, evaluated := ev } := by
  have h : ({ r with conditions := q, restoreWait := w, evaluated := ev } : Group).disagreement = r.disagreement := rfl
  unfold Group.confirm
  rw [h]
  cases r.disagreement with
  | none => rfl
  | some k =>
    dsimp only
    by_cases ht : r.timeout = true
    · rw [if_pos ht, if_pos ht]
    · rw [if_neg ht, if_neg ht]
      split
      · rfl
      · split <;> rfl

/-- What the confirmation timer leaves of a record. -/
theorem Group.confirm_frame (r : Group) (n : Nat) : r.confirm n
    = { r with confirmation := (r.confirm n).confirmation, timeout := (r.confirm n).timeout } := by
  unfold Group.confirm
  (repeat' split) <;> rfl

/-- The confirmation timer worked twice in one moment. -/
theorem Group.confirm_again (r : Group) (n : Nat) : (r.confirm n).confirm n = r.confirm n := by
  have h : (r.confirm n).disagreement = r.disagreement := by rw [r.confirm_frame n]; rfl
  rw [Group.confirm, h]
  cases hd : r.disagreement with
  | none => simp [Group.confirm, hd]
  | some k =>
    simp only [Group.confirm, hd]
    (repeat' split) <;> simp_all

/-- A group at rest stays so when only its conditions and the blocks that are told of them change. -/
theorem State.Calm.congr {s t : State} {g : GroupId} {q : GroupConditions} (h : s.Calm g) (hs : t.sup = s.sup)
    (hn : t.now = s.now) (hd : t.driver = s.driver) (hg : t.group[g] = { s.group[g] with conditions := q })
    (hc : q.crossShelf = s.group[g].conditions.crossShelf) (hw : q.swapped = s.group[g].conditions.swapped) : t.Calm g where
  refreshed := by
    have hr := h.refreshed
    have key : t.refreshGroup { s.group[g] with conditions := q }
        = { s.refreshGroup s.group[g] with conditions := { q with
            crossShelf := (s.refreshGroup s.group[g]).conditions.crossShelf
            swapped := (s.refreshGroup s.group[g]).conditions.swapped } } := by
      unfold State.refreshGroup State.refreshChannel State.channelCondition Group.dropFarEnd
      simp only [hs, hn]
      split <;> rfl
    rw [hg, key, hr, ← hc, ← hw]
  manual := by rw [hg]; exact h.manual
  entry := by rw [hg, State.settleEntry_congr hn hd, h.entry]
  top := by rw [hg]; exact h.top
  chosen := by rw [hg]; exact h.chosen
  commanded := by
    have := h.commanded
    rw [s.commandGroup_driver] at this
    rw [t.commandGroup_driver, hd, hn, hg]
    exact this
  confirmed := by
    have := Group.confirm_congr s.group[g] q s.group[g].restoreWait s.group[g].evaluated s.now
    rw [h.confirmed] at this
    rw [hg, hn]
    exact this
  evaluated := by rw [hg]; exact h.evaluated

/-! ## An evaluation leaves a group at rest -/

/-- Bringing a record up to date again changes nothing (R80 to R83, R103). -/
theorem State.refreshGroup_again (s : State) (r : Group) : s.refreshGroup (s.refreshGroup r) = s.refreshGroup r := by
  have hc : ∀ (c : Channel) (cfg : Vector Word 8) (k : ChannelIx),
      s.refreshChannel cfg k (s.refreshChannel cfg k c) = s.refreshChannel cfg k c := by
    intro c cfg k
    have : ∀ (c : Channel) (q : Condition) (cond : Condition) (n h : Nat),
        ({ c with request := q } : Channel).meet cond n h = { c.meet cond n h with request := q } := by
      intro c q cond n h
      cases cond <;> simp only [Channel.meet, Channel.startHoldOff] <;> (repeat' split) <;> simp_all
    unfold State.refreshChannel
    dsimp only
    rw [this, Channel.meet_again]
  have hv : ∀ (cfg : Vector Word 8) (v : Vector Channel 4), Vector.ofFn (fun k : ChannelIx =>
      s.refreshChannel cfg k (Vector.ofFn (fun k : ChannelIx => s.refreshChannel cfg k v[k]))[k])
      = Vector.ofFn (fun k : ChannelIx => s.refreshChannel cfg k v[k]) := by
    intro cfg v
    apply Vector.ext
    intro i hi
    simp [hc]
  unfold State.refreshGroup
  dsimp only
  split
  · simp_all [Group.dropFarEnd]
  · simp_all

/-- Bringing a record up to date depends on its configuration, channels and far-end word, and leaves the rest. -/
theorem State.refreshGroup_congr {s t : State} (hs : t.sup = s.sup) (hn : t.now = s.now) (r : Group) (st : Option Stored)
    (en : Option Entry) (rw_ : Timer) (tp wi : Request) (so : Source) (ev : Bool) (cf : Option (Fin 8 × Nat)) (to_ : Bool) :
    t.refreshGroup { r with stored := st, entry := en, restoreWait := rw_, top := tp, winner := wi, source := so
                            evaluated := ev, confirmation := cf, timeout := to_ }
      = { s.refreshGroup r with stored := st, entry := en, restoreWait := rw_, top := tp, winner := wi, source := so
                                evaluated := ev, confirmation := cf, timeout := to_ } := by
  unfold State.refreshGroup State.refreshChannel State.channelCondition Group.dropFarEnd
  simp only [hs, hn]
  split <;> rfl

/-- A request put last is the highest only where it beats the others. -/
theorem topRequest_append (l : List Request) (x : Request) :
    topRequest (l ++ [x]) = if x.beats (topRequest l) then x else topRequest l := by
  simp only [topRequest, List.foldl_append]; rfl

/-- An entry made does not put a request of level 2 or above in its place (R79). -/
theorem Group.heldAbove_entry (r : Group) (e : Entry) (w : Timer) (hn : r.entry = none)
    (h : ({ r with entry := some e, restoreWait := w } : Group).heldAboveEntry = true) : r.heldAboveEntry = true := by
  have hl : ({ r with entry := some e, restoreWait := w } : Group).localRequests
      = r.localRequests ++ (if GroupConfig.complete r.config then [e.request] else []) := by
    unfold Group.localRequests Group.automaticRequests
    simp only [hn]
    rw [show ({ r with entry := some e, restoreWait := w } : Group).conditionRequests = r.conditionRequests from rfl]
    simp
  have he : e.request.level = 1 := by cases e <;> rfl
  unfold Group.heldAboveEntry topLevel at h ⊢
  rw [hl] at h
  split at h
  · rw [topRequest_append] at h
    split at h
    · rw [he] at h; simp at h
    · exact h
  · simpa using h

/-- What settling the entry leaves of a record (R87, R88). -/
theorem State.settleEntry_frame (s : State) (r : Group) : s.settleEntry r
    = { r with entry := (s.settleEntry r).entry, restoreWait := (s.settleEntry r).restoreWait } := by
  unfold State.settleEntry State.enterEntry
  (repeat' split) <;> rfl

/-- With a request of level 2 or above there is no entry and no timer of one (R88). -/
theorem State.settleEntry_above (s : State) (r : Group) (h : (s.settleEntry r).heldAboveEntry = true) :
    (s.settleEntry r).entry = none ∧ (s.settleEntry r).restoreWait = none := by
  by_cases ha : r.heldAboveEntry = true
  · simp [State.settleEntry, ha]
  · exfalso
    apply ha
    unfold State.settleEntry at h
    rw [if_neg ha] at h
    split at h
    · exact h
    · have hn : r.entry = none := by cases he : r.entry <;> simp_all
      split at h
      · split at h
        · unfold State.enterEntry at h
          split at h
          · exact r.heldAbove_entry _ _ hn h
          · exact r.heldAbove_entry _ r.restoreWait hn h
        · exact h
      · exact h

/-- What a cancelled MANUAL leaves of a group (R86). -/
theorem State.cancelManual_group (s : State) (g : GroupId) :
    ∃ st, (s.cancelManual g).group[g] = { s.group[g] with stored := st } ∧ ∀ k, st ≠ some (.manual k) := by
  unfold State.cancelManual
  split
  · exact ⟨none, by simp only [State.putEvent_frame, State.setGroup_group], by simp⟩
  · exact ⟨s.group[g].stored, rfl, by simp_all⟩
  · exact ⟨s.group[g].stored, rfl, by simp_all⟩
  · exact ⟨s.group[g].stored, rfl, by simp_all⟩

/-- What the steps 1 to 3 of an update leave of a group (R90): the record refreshed, with no MANUAL beside a condition request, no
entry beside a request of level 2 or above, and the highest request held. -/
theorem State.bringRequests_group (s : State) (g : GroupId) : ∃ (st : Option Stored) (en : Option Entry) (w : Timer) (r : Group),
    r = { s.refreshGroup s.group[g] with stored := st, entry := en, restoreWait := w, top := r.top }
    ∧ (s.bringRequests g).group[g] = r
    ∧ (r.conditionRequests ≠ [] → ∀ k, st ≠ some (.manual k))
    ∧ r.top = topRequest r.localRequests
    ∧ (r.heldAboveEntry = true → en = none ∧ w = none) := by
  have step : ∀ (u : State) (c : Group) (st : Option Stored), u.group[g] = { c with stored := st } →
      (c.conditionRequests ≠ [] → ∀ k, st ≠ some (.manual k)) →
      ∃ (en : Option Entry) (w : Timer) (r : Group),
        r = { c with stored := st, entry := en, restoreWait := w, top := r.top }
        ∧ ({ u.settleEntry u.group[g] with top := topRequest (u.settleEntry u.group[g]).localRequests } : Group) = r
        ∧ (r.conditionRequests ≠ [] → ∀ k, st ≠ some (.manual k))
        ∧ r.top = topRequest r.localRequests ∧ (r.heldAboveEntry = true → en = none ∧ w = none) := by
    intro u c st hu hm
    have hf := u.settleEntry_frame u.group[g]
    refine ⟨(u.settleEntry u.group[g]).entry, (u.settleEntry u.group[g]).restoreWait, _, ?_, rfl, ?_, rfl, ?_⟩
    · dsimp only; rw [hf, hu]
    · intro h; apply hm
      rw [hf, hu] at h
      exact h
    · intro h; exact u.settleEntry_above _ h
  unfold State.bringRequests
  dsimp only
  rw [State.setGroup_group]
  split
  · obtain ⟨st, h1, h2⟩ := (s.setGroup g (s.refreshGroup s.group[g])).cancelManual_group g
    rw [State.setGroup_group] at h1
    obtain ⟨en, w, r, h⟩ := step _ _ st h1 (fun _ => h2)
    exact ⟨st, en, w, r, h⟩
  · obtain ⟨en, w, r, h⟩ := step (s.setGroup g (s.refreshGroup s.group[g])) (s.refreshGroup s.group[g])
      (s.refreshGroup s.group[g]).stored (State.setGroup_group _ _ _)
      (fun h => absurd h (by rename_i hx; rwa [State.setGroup_group] at hx))
    exact ⟨_, en, w, r, h⟩

/-- The winner of a record chosen anew is the local top, with the source LOCAL, or not the local side's (R91, R105). -/
theorem Group.choose_local (r : Group) (h : r.choose.2 = .local) :
    r.choose.1 = Request.clear ∨ r.choose.1 = r.top := by
  unfold Group.choose at h ⊢
  (repeat' split) <;> simp_all

/-- Once a group is evaluated its winner is no channel's that has lost its request, so no entry is made (R87). -/
theorem State.settleEntry_evaluated (s : State) (r : Group) (hw : r.choose = (r.winner, r.source))
    (ht : r.top = topRequest r.localRequests) (he : r.heldAboveEntry = true → r.entry = none ∧ r.restoreWait = none) :
    s.settleEntry r = r := by
  unfold State.settleEntry
  split
  · obtain ⟨h1, h2⟩ := he ‹_›; rw [← h1, ← h2]
  · split
    · rfl
    · split
      · rename_i k hk
        rw [if_neg]
        intro hc
        unfold Group.ownFailure at hk
        split at hk
        · rename_i hl
          split at hk
          · rename_i hb
            have hkc : channelNumber k = r.winner.channel := by
              injection hk with hk; subst hk; ext; simp [channelNumber]; omega
            have hloc := r.choose_local (by rw [hw]; exact hl.1)
            rw [hw] at hloc
            rcases hloc with h | h
            · simp only at h; rw [h] at hl; simp [Request.clear] at hl
            · simp only at h
              rw [ht] at h
              rcases topRequest_mem r.localRequests with hm | hm
              · rw [hm] at h; rw [h] at hl; simp [Request.clear] at hl
              · rw [← h] at hm
                obtain ⟨j, hj, hr⟩ := r.held_channel _ hm hl.2
                have : k = j := by
                  rw [← hkc] at hj
                  ext
                  have := congrArg Fin.val hj
                  simpa [channelNumber] using this
                subst this
                simp [State.entersEntry] at hc
                exact hr hc.1.1.2
          · cases hk
        · cases hk
      · rfl

/-- An evaluation's record and driver (R90 to R92, R96, R110): the winner chosen, then the commands, then the timers. -/
theorem State.evaluate_group (s : State) (first : Bool) (g : GroupId) :
    ∃ (c : Group) (cf : Option (Fin 8 × Nat)) (to_ : Bool) (w : Timer),
      c = { s.group[g] with winner := s.group[g].choose.1, source := s.group[g].choose.2 }
      ∧ (s.evaluate first g).group[g] = { c with confirmation := cf, timeout := to_, restoreWait := w, evaluated := true }
      ∧ ({ c with confirmation := cf, timeout := to_ } : Group) = c.confirm s.now
      ∧ (c.entry = none → w = c.restoreWait)
      ∧ (s.evaluate first g).driver = ((s.setGroup g c).commandGroup g).driver := by
  obtain ⟨c, hc⟩ : ∃ c : Group, c = { s.group[g] with winner := s.group[g].choose.1, source := s.group[g].choose.2 } := ⟨_, rfl⟩
  have hf := c.confirm_frame s.now
  have hv : ∀ b : Bool, ({ (if b then (c.confirm s.now).firstEvaluated s.now else c.confirm s.now) with evaluated := true } : Group)
      = { c with confirmation := (c.confirm s.now).confirmation, timeout := (c.confirm s.now).timeout
                 restoreWait := (if b then c.firstEvaluated s.now else c).restoreWait, evaluated := true } := by
    intro b
    rw [hf]
    cases b
    · rfl
    · simp only [if_true, Group.firstEvaluated]
      cases c.entry with
      | none => rfl
      | some e => cases e <;> rfl
  refine ⟨c, (c.confirm s.now).confirmation, (c.confirm s.now).timeout,
    (if first then c.firstEvaluated s.now else c).restoreWait, hc, ?_, hf.symm, ?_, ?_⟩
  · rw [← hv first]
    unfold State.evaluate
    dsimp only
    rw [State.setGroup_group, ← hc]
    generalize hu : (if s.group[g].winner = s.group[g].choose.1 then (s.setGroup g c).commandGroup g else _) = u
    have h : u.group[g] = c ∧ u.now = s.now := by
      rw [← hu]
      split <;> simp only [State.putEvent_frame, State.commandGroup_frame, State.setGroup_frame, State.setGroup_group, and_self]
    rw [h.1, h.2]
  · intro h
    cases first
    · rfl
    · simp only [if_true, Group.firstEvaluated]; rw [h]
  · unfold State.evaluate
    dsimp only
    rw [← hc]
    split <;> simp only [State.setGroup_frame, State.putEvent_frame]

/-- An evaluation leaves the group at rest: its commands, given again, change nothing, and no request, entry or timer follows from it
(R87, R89, R91, R108, R110). -/
theorem State.evaluated_calm (s : State) (first : Bool) (g : GroupId) : ((s.bringRequests g).evaluate first g).Calm g := by
  obtain ⟨st, en, w, r, hr, hg, hm, ht, he⟩ := s.bringRequests_group g
  have hsup : (s.bringRequests g).sup = s.sup := (s.bringRequests_frame g).2.2.2.2.2.1
  have hnow : (s.bringRequests g).now = s.now := (s.bringRequests_frame g).2.1
  generalize s.bringRequests g = b at hg hsup hnow
  obtain ⟨c, cf, to_, w', hc, hrec, hconf, hw, hdrv⟩ := b.evaluate_group first g
  rw [hg] at hc
  have tsup : (b.evaluate first g).sup = s.sup := by rw [← hsup]; simp
  have tnow : (b.evaluate first g).now = s.now := by rw [← hnow]; simp
  generalize b.evaluate first g = t at hrec hdrv tsup tnow
  constructor
  · rw [hrec, hc, hr]
    have := State.refreshGroup_congr (s := s) (t := t) tsup tnow (s.refreshGroup s.group[g]) st en w' r.top r.choose.1 r.choose.2 true
      cf to_
    rw [State.refreshGroup_again] at this
    rw [hr] at this ⊢
    exact this
  · rw [hrec, hc]
    intro h k
    have := hm h k
    rw [hr]
    exact this
  · rw [hrec, hc]
    apply State.settleEntry_evaluated
    · rfl
    · exact ht
    · intro h
      obtain ⟨h1, h2⟩ := he h
      have hen : r.entry = none := by rw [hr]; exact h1
      have hwn : r.restoreWait = none := by rw [hr]; exact h2
      refine ⟨hen, ?_⟩
      dsimp only
      rw [hw (by rw [hc]; exact hen), hc]
      exact hwn
  · rw [hrec, hc]; exact ht.symm
  · rw [hrec, hc]; rfl
  · refine State.commandGroup_again (b.setGroup g c) t g ?_ hdrv ?_ ?_ ?_
    · rw [tnow, (b.setGroup_frame g c).2.1, hnow]
    all_goals rw [hrec, State.setGroup_group]
    all_goals rfl
  · rw [hrec, tnow]
    have h1 : ({ c with confirmation := cf, timeout := to_ } : Group).confirm s.now
        = { c with confirmation := cf, timeout := to_ } := by
      rw [hconf, hnow]; exact c.confirm_again s.now
    have h2 := Group.confirm_congr { c with confirmation := cf, timeout := to_ } c.conditions w' true s.now
    rw [h1] at h2
    exact h2
  · rw [hrec]

theorem State.setPoint_fold_frame (s : State) (g : GroupId) (q : GroupConditions) (l : List (Fin 6)) :
    (l.foldl (fun s k => s.setPoint (.group g k) (q.get k)) s).group = s.group :=
  foldl_keeps State.group _ (fun _ _ => by simp) l s

/-- What handing the conditions over and forming the transmit word leave of the group (R93, R100). -/
theorem State.handed_group (s : State) (heard : Driver) (g : GroupId) :
    ((s.handConditions heard g).formTransmit heard g).group[g]
      = { s.group[g] with conditions := s.group[g].conditionsFor heard } := by
  unfold State.handConditions
  dsimp only
  simp only [State.formTransmit_frame, State.setPoint_fold_frame, State.setGroup_group]

theorem State.noteReport_group (s : State) (heard : Driver) (g : GroupId) (e : ElementId) :
    (s.noteReport heard g e).group[g] = { s.group[g] with conditions := { s.group[g].conditions with
      onProtect := if GroupConfig.selector s.group[g].config = some e
        then (heard.report e).onProtect s.group[g].conditions.onProtect else s.group[g].conditions.onProtect } } := by
  unfold State.noteReport
  dsimp only
  split
  · rw [State.setGroup_group]
  · rfl

theorem State.Calm.handed {s : State} {g : GroupId} (h : s.Calm g) (heard : Driver) :
    ((s.handConditions heard g).formTransmit heard g).Calm g :=
  h.congr (by simp) (by simp) (by simp) (s.handed_group heard g) rfl rfl

theorem State.Calm.noted {s : State} {g : GroupId} (h : s.Calm g) (heard : Driver) (e : ElementId) :
    (s.noteReport heard g e).Calm g :=
  h.congr (by simp) (by simp) (by simp) (s.noteReport_group heard g e) rfl rfl

/-- An update that evaluates the group leaves it at rest. -/
theorem State.takeUpdate_calm (s : State) (heard : Driver) (first : Bool) (g : GroupId)
    (h : first = true ∨ (s.bringRequests g).group[g].evaluated = true) : (s.takeUpdate heard first g).Calm g := by
  unfold State.takeUpdate
  dsimp only
  rw [if_pos (by simpa using h)]
  exact (s.evaluated_calm first g).handed heard

/-- A report of an update's own command, taken by the group at rest (R121): it is noted and handed on, and nothing else changes. -/
theorem State.Calm.takeOwnReport {s : State} {g : GroupId} (h : s.Calm g) (old heard : Driver) (e : Option ElementId) :
    s.takeOwnReport old heard g e = s
    ∨ ∃ x, e = some x ∧ Driver.reported old heard x = true
      ∧ s.takeOwnReport old heard g e = ((s.noteReport heard g x).handConditions heard g).formTransmit heard g := by
  cases e with
  | none => exact .inl rfl
  | some x =>
    by_cases hr : Driver.reported old heard x = true
    · refine .inr ⟨x, rfl, hr, ?_⟩
      unfold State.takeOwnReport
      dsimp only
      rw [if_pos hr]
      exact (h.noted heard x).takeUpdate heard
    · refine .inl ?_
      unfold State.takeOwnReport
      dsimp only
      rw [if_neg hr]

theorem State.Calm.ownReport_calm {s : State} {g : GroupId} (h : s.Calm g) (old heard : Driver) (e : Option ElementId) :
    (s.takeOwnReport old heard g e).Calm g := by
  rcases h.takeOwnReport old heard e with h' | ⟨x, -, -, h'⟩
  · rw [h']; exact h
  · rw [h']; exact (h.noted heard x).handed heard

/-- A report of an update's own command changes in the group only its conditions ON PROTECT and SWITCH FAULT, and no element. -/
theorem State.Calm.ownReport_group {s : State} {g : GroupId} (h : s.Calm g) (old heard : Driver) (e : Option ElementId)
    (h1 : s.group[g].conditions.protectUnavailable = (s.group[g].conditionsFor old).protectUnavailable)
    (h2 : s.group[g].conditions.protocolFailure = (s.group[g].conditionsFor old).protocolFailure) :
    (s.takeOwnReport old heard g e).driver = s.driver ∧ ∃ on sf, (s.takeOwnReport old heard g e).group[g]
      = { s.group[g] with conditions := { s.group[g].conditions with onProtect := on, switchFault := sf } } := by
  rcases h.takeOwnReport old heard e with h' | ⟨x, -, -, h'⟩
  · rw [h']; exact ⟨rfl, s.group[g].conditions.onProtect, s.group[g].conditions.switchFault, rfl⟩
  · refine ⟨by rw [h']; simp, if GroupConfig.selector s.group[g].config = some x
      then (heard.report x).onProtect s.group[g].conditions.onProtect else s.group[g].conditions.onProtect,
      heard.faulted (GroupConfig.selector s.group[g].config) || heard.faulted (GroupConfig.bridge s.group[g].config), ?_⟩
    rw [h', State.handed_group, State.noteReport_group]
    unfold Group.conditionsFor at h1 h2 ⊢
    dsimp only at h1 h2 ⊢
    rw [← h1, ← h2]

/-- What a group's update with its own reports leaves (R90, R121): the record and the elements of the one update, ON PROTECT and SWITCH
FAULT apart. -/
theorem State.groupUpdate_group (s : State) (first : Bool) (g : GroupId) :
    (s.groupUpdate first g).driver = (s.takeUpdate s.driver first g).driver
    ∧ ∃ on sf, (s.groupUpdate first g).group[g] = { (s.takeUpdate s.driver first g).group[g] with
        conditions := { (s.takeUpdate s.driver first g).group[g].conditions with onProtect := on, switchFault := sf } } := by
  by_cases he : first = true ∨ (s.bringRequests g).group[g].evaluated = true
  · have hu := s.takeUpdate_calm s.driver first g he
    have h1 : (s.takeUpdate s.driver first g).group[g].conditions
        = (s.takeUpdate s.driver first g).group[g].conditionsFor s.driver := by
      unfold State.takeUpdate
      dsimp only
      rw [State.handed_group]
      rfl
    unfold State.groupUpdate
    dsimp only
    rw [(State.reportSelector_frame _ _ _).2.2.2.2.2.2.1, (State.reportSelector_frame _ _ _).2.2.2.2.2.2.2]
    generalize s.takeUpdate s.driver first g = u at hu h1
    obtain ⟨d1, on1, sf1, g1⟩ := hu.ownReport_group s.driver (s.driver.hearing u.driver (GroupConfig.bridge s.group[g].config))
      (GroupConfig.bridge s.group[g].config) (congrArg _ h1) (congrArg _ h1)
    have hv := hu.ownReport_calm s.driver (s.driver.hearing u.driver (GroupConfig.bridge s.group[g].config))
      (GroupConfig.bridge s.group[g].config)
    generalize u.takeOwnReport s.driver (s.driver.hearing u.driver (GroupConfig.bridge s.group[g].config)) g
      (GroupConfig.bridge s.group[g].config) = v at d1 g1 hv
    obtain ⟨d2, on2, sf2, g2⟩ := hv.ownReport_group (s.driver.hearing u.driver (GroupConfig.bridge s.group[g].config)) u.driver
      (GroupConfig.selector s.group[g].config)
      (by have h := congrArg GroupConditions.protectUnavailable h1; rw [g1]; exact h)
      (by have h := congrArg GroupConditions.protocolFailure h1; rw [g1]; exact h)
    refine ⟨d2.trans d1, on2, sf2, ?_⟩
    rw [g2, g1]
  · have hd : (s.takeUpdate s.driver first g).driver = s.driver := by
      unfold State.takeUpdate
      dsimp only
      rw [if_neg (by simpa using he)]
      simp
    rw [s.groupUpdate_of_no_report first g (fun e => by rw [hd])]
    exact ⟨rfl, (s.takeUpdate s.driver first g).group[g].conditions.onProtect,
      (s.takeUpdate s.driver first g).group[g].conditions.switchFault, rfl⟩

end Sys2Proof.Machine
end

