-- ==== Sys2Proof/Laws/Layout.lean ====
section
/-! SUPPORT. The image map read both ways, and the loader's order. -/

namespace Sys2Proof.Machine

theorem imageWordAt_profile : ∀ k, imageWordAt (Watched.profile k).offset = some (.watched (.profile k)) := by
  decide +kernel
theorem imageWordAt_calibration :
    ∀ n j, imageWordAt (Watched.calibration n j).offset = some (.watched (.calibration n j)) := by decide +kernel
theorem imageWordAt_port : ∀ p j, imageWordAt (Watched.port p j).offset = some (.watched (.port p j)) := by decide +kernel
theorem imageWordAt_group : ∀ g j, imageWordAt (Watched.group g j).offset = some (.watched (.group g j)) := by
  decide +kernel
theorem imageWordAt_slot : ∀ i j, imageWordAt (Watched.slot i j).offset = some (.watched (.slot i j)) := by decide +kernel
theorem imageWordAt_source : ∀ l, imageWordAt (Watched.source l).offset = some (.watched (.source l)) := by decide +kernel

/-- The word at an image word's offset is that word. -/
theorem imageWordAt_offset (w : ImageWord) : imageWordAt w.offset = some w := by
  rcases w with w | t | l | c
  · cases w <;> first
      | rfl | apply imageWordAt_profile | apply imageWordAt_calibration | apply imageWordAt_port
      | apply imageWordAt_group | apply imageWordAt_slot | apply imageWordAt_source
  · rcases t with _ | (_ | _) <;> rfl
  · cases l <;> first | rfl | (rename_i x; revert x; decide +kernel)
  · revert c; decide +kernel

/-- Two image words lie at different offsets. -/
theorem ImageWord.offset_injective {v w : ImageWord} (h : v.offset = w.offset) : v = w := by
  have hv := imageWordAt_offset v
  rw [h, imageWordAt_offset w] at hv
  exact (Option.some.inj hv).symm

/-- The offsets of a range that hold a word are that word's. -/
def rangeAgrees (start size : Nat) : Bool :=
  (List.range' start size).all (fun o => match imageWordAt o with | some w => decide (w.offset = o) | none => true)

theorem rangeAgrees_0 : rangeAgrees 0x000 512 = true := by decide +kernel
theorem rangeAgrees_1 : rangeAgrees 0x200 512 = true := by decide +kernel
theorem rangeAgrees_2 : rangeAgrees 0x400 512 = true := by decide +kernel
theorem rangeAgrees_3 : rangeAgrees 0x600 512 = true := by decide +kernel
theorem rangeAgrees_4 : rangeAgrees 0x800 1024 = true := by decide +kernel
theorem rangeAgrees_5 : rangeAgrees 0xC00 1024 = true := by decide +kernel

/-- An offset in a range that agrees, holding a word, is that word's. -/
theorem offset_of_rangeAgrees {start size o : Nat} {w : ImageWord} (all : rangeAgrees start size = true) (h : imageWordAt o = some w)
    (lo : start ≤ o) (hi : o < start + size) : w.offset = o := by
  have one := List.all_eq_true.mp all o (List.mem_range'_1.mpr ⟨lo, hi⟩)
  simpa [h] using one

/-- An offset of the image that holds a word is that word's. -/
theorem offset_of_imageWordAt {o : Nat} {w : ImageWord} (ho : o < 4096) (h : imageWordAt o = some w) : w.offset = o := by
  by_cases h1 : o < 0x200; · exact offset_of_rangeAgrees rangeAgrees_0 h (by omega) (by omega)
  by_cases h2 : o < 0x400; · exact offset_of_rangeAgrees rangeAgrees_1 h (by omega) (by omega)
  by_cases h3 : o < 0x600; · exact offset_of_rangeAgrees rangeAgrees_2 h (by omega) (by omega)
  by_cases h4 : o < 0x800; · exact offset_of_rangeAgrees rangeAgrees_3 h (by omega) (by omega)
  by_cases h5 : o < 0xC00; · exact offset_of_rangeAgrees rangeAgrees_4 h (by omega) (by omega)
  exact offset_of_rangeAgrees rangeAgrees_5 h (by omega) (by omega)

/-- The loader passes the words in the order of their offsets. -/
theorem loaderOrder_rising : (loaderOrder.map Watched.offset).IsChain (· < ·) := by decide +kernel

theorem loaderOrder_nodup : loaderOrder.Nodup :=
  List.Nodup.of_map Watched.offset ((List.isChain_iff_pairwise.mp loaderOrder_rising).imp (fun h => Nat.ne_of_lt h))

theorem loaderOrder_length : loaderOrder.length = 361 := by decide +kernel

/-- The loader passes every watched word. -/
theorem mem_loaderOrder (w : Watched) : w ∈ loaderOrder := by
  cases w with
  | slot i j => match i with | 0 | 1 | 2 | 3 => simp [loaderOrder]
  | source l => match l with | 0 | 1 => simp [loaderOrder]
  | _ => simp [loaderOrder]

end Sys2Proof.Machine
end

