-- ==== Sys2Proof/Laws/Memory.lean ====
section
/-! SUPPORT. Shelf memory: every write keeps the canonical form, and reads what was written. -/

namespace Sys2Proof.Machine

theorem Memory.wfFrom_mono {lo hi : Nat} (h : lo ≤ hi) : ∀ m : Memory, Memory.wfFrom hi m = true →
    Memory.wfFrom lo m = true
  | [], _ => rfl
  | (a, b) :: m, hm => by
    simp only [Memory.wfFrom, Bool.and_eq_true, decide_eq_true_eq] at hm ⊢
    exact ⟨⟨by omega, hm.1.2⟩, hm.2⟩

/-- A write keeps the canonical form, also below a bound it respects. -/
theorem Memory.wfFrom_write (k : Nat) (v : Byte) : ∀ (m : Memory) (lo : Nat), lo ≤ k → Memory.wfFrom lo m = true →
    Memory.wfFrom lo (Memory.write m k v) = true
  | [], lo, hk, _ => by
    unfold Memory.write
    split
    · rfl
    · simp_all [Memory.wfFrom]
  | (a, b) :: m, lo, hk, hm => by
    have hm' := hm
    simp only [Memory.wfFrom, Bool.and_eq_true, decide_eq_true_eq] at hm'
    unfold Memory.write
    split
    · next h =>
      split
      · exact hm
      · simp only [Memory.wfFrom, Bool.and_eq_true, decide_eq_true_eq]
        exact ⟨⟨hk, by assumption⟩, ⟨by omega, hm'.1.2⟩, hm'.2⟩
    · split
      · next h1 h2 =>
        subst h2
        split
        · exact Memory.wfFrom_mono (by omega) m hm'.2
        · simp only [Memory.wfFrom, Bool.and_eq_true, decide_eq_true_eq]
          exact ⟨⟨hk, by assumption⟩, hm'.2⟩
      · simp only [Memory.wfFrom, Bool.and_eq_true, decide_eq_true_eq]
        exact ⟨hm'.1, Memory.wfFrom_write k v m (a + 1) (by omega) hm'.2⟩

theorem Memory.wf_write (m : Memory) (k : Nat) (v : Byte) (h : m.wf = true) : (m.write k v).wf = true :=
  Memory.wfFrom_write k v m 0 (Nat.zero_le _) h

theorem Memory.wf_writeLanes (m : Memory) (a : Addr) (l : Lanes) (w : Word) (h : m.wf = true) :
    (m.writeLanes a l w).wf = true := by
  unfold Memory.writeLanes
  cases l <;> simp only [Lanes.hasLow, Lanes.hasHigh] <;> simp [Memory.wf_write, h]

/-- A cell below every listed one reads as unwritten. -/
theorem Memory.read_below (k : Nat) : ∀ (m : Memory) (lo : Nat), k < lo → Memory.wfFrom lo m = true →
    Memory.read m k = Memory.unwritten
  | [], _, _, _ => rfl
  | (a, b) :: m, lo, hk, hm => by
    simp only [Memory.wfFrom, Bool.and_eq_true, decide_eq_true_eq] at hm
    unfold Memory.read
    rw [if_pos (by omega)]

/-- What a cell reads after a write, in a memory in canonical form. -/
theorem Memory.read_writeFrom (k j : Nat) (v : Byte) : ∀ (m : Memory) (lo : Nat), Memory.wfFrom lo m = true →
    Memory.read (Memory.write m k v) j = if j = k then v else Memory.read m j
  | [], _, _ => by
    unfold Memory.write
    split
    · next hv => by_cases hj : j = k <;> simp [Memory.read, hj, hv]
    · by_cases hj : j = k
      · subst hj; simp [Memory.read]
      · simp [Memory.read, hj]
  | (a, b) :: m, lo, hm => by
    simp only [Memory.wfFrom, Bool.and_eq_true, decide_eq_true_eq] at hm
    unfold Memory.write
    split
    · next h =>
      split
      · next hv =>
        by_cases hj : j = k
        · subst hj; simp [Memory.read, h, hv]
        · simp [hj]
      · by_cases hj : j = k
        · subst hj; simp [Memory.read]
        · rw [if_neg hj]
          by_cases hlt : j < k
          · have : j < a := by omega
            simp [Memory.read, hlt, this]
          · simp [Memory.read, hlt, hj]
    · next hka =>
      split
      · next heq =>
        subst heq
        split
        · next hv =>
          by_cases hj : j = k
          · subst hj; simp [hv, Memory.read_below j m (j + 1) (by omega) hm.2]
          · by_cases hlt : j < k
            · simp [Memory.read, hj, hlt, Memory.read_below j m (k + 1) (by omega) hm.2]
            · simp [Memory.read, hj, hlt]
        · by_cases hj : j = k
          · subst hj; simp [Memory.read]
          · simp [Memory.read, hj]
      · next hne =>
        by_cases hlt : j < a
        · have : j ≠ k := by omega
          simp [Memory.read, hlt, this]
        · by_cases hja : j = a
          · subst hja
            have : j ≠ k := fun h => hne h.symm
            simp [Memory.read, this]
          · simp [Memory.read, hlt, hja, Memory.read_writeFrom k j v m (a + 1) hm.2]

theorem Memory.read_write (m : Memory) (k j : Nat) (v : Byte) (h : m.wf = true) :
    (m.write k v).read j = if j = k then v else m.read j := Memory.read_writeFrom k j v m 0 h

/-- A word is its two lanes. -/
theorem word_lanes (w : Word) : (BitVec.extractLsb' 8 8 w ++ BitVec.extractLsb' 0 8 w : BitVec (8 + 8)) = w := by
  apply BitVec.eq_of_getLsbD_eq
  intro i hi
  rw [BitVec.getLsbD_append]
  split
  · simp [*]
  · rw [BitVec.getLsbD_extractLsb', show 8 + (i - 8) = i by omega, decide_eq_true (by omega), Bool.true_and]

theorem low_lane (a b : Byte) : BitVec.extractLsb' 0 8 (a ++ b) = b := by
  apply BitVec.eq_of_getLsbD_eq
  intro i hi
  rw [BitVec.getLsbD_extractLsb', BitVec.getLsbD_append, if_pos (by omega), Nat.zero_add, decide_eq_true hi,
    Bool.true_and]

theorem high_lane (a b : Byte) : BitVec.extractLsb' 8 8 (a ++ b) = a := by
  apply BitVec.eq_of_getLsbD_eq
  intro i hi
  rw [BitVec.getLsbD_extractLsb', BitVec.getLsbD_append, if_neg (by omega), Nat.add_sub_cancel_left,
    decide_eq_true hi, Bool.true_and]

/-- A word after a write of lanes: the lanes written at that address, the old word elsewhere. -/
theorem Memory.readWord_writeLanes (m : Memory) (a b : Addr) (l : Lanes) (w : Word) (h : m.wf = true) :
    (m.writeLanes a l w).readWord b = if b = a then mergeLanes l (m.readWord a) w else m.readWord b := by
  have hl := Memory.wf_write m (2 * a.toNat) (w.extractLsb' 0 8) h
  by_cases hab : b = a
  · subst hab
    rw [if_pos rfl]
    have ne1 : 2 * b.toNat + 1 ≠ 2 * b.toNat := by omega
    have ne2 : 2 * b.toNat ≠ 2 * b.toNat + 1 := by omega
    cases l
    · change ((m.write (2 * b.toNat) (w.extractLsb' 0 8)).write (2 * b.toNat + 1) (w.extractLsb' 8 8)).readWord b = w
      unfold Memory.readWord
      rw [Memory.read_write _ _ _ _ hl, Memory.read_write _ _ _ _ hl, if_pos rfl, if_neg ne2,
        Memory.read_write _ _ _ _ h, if_pos rfl]
      exact word_lanes w
    · change (m.write (2 * b.toNat) (w.extractLsb' 0 8)).readWord b
        = BitVec.extractLsb' 8 8 (m.readWord b) ++ BitVec.extractLsb' 0 8 w
      unfold Memory.readWord
      rw [Memory.read_write _ _ _ _ h, Memory.read_write _ _ _ _ h, if_pos rfl, if_neg ne1, high_lane]
    · change (m.write (2 * b.toNat + 1) (w.extractLsb' 8 8)).readWord b
        = BitVec.extractLsb' 8 8 w ++ BitVec.extractLsb' 0 8 (m.readWord b)
      unfold Memory.readWord
      rw [Memory.read_write _ _ _ _ h, Memory.read_write _ _ _ _ h, if_pos rfl, if_neg ne2, low_lane]
  · have hne : b.toNat ≠ a.toNat := fun e => hab (BitVec.eq_of_toNat_eq e)
    rw [if_neg hab]
    have h1 : 2 * b.toNat ≠ 2 * a.toNat := by omega
    have h2 : 2 * b.toNat ≠ 2 * a.toNat + 1 := by omega
    have h3 : 2 * b.toNat + 1 ≠ 2 * a.toNat := by omega
    cases l <;> simp only [Memory.writeLanes, Memory.readWord, Lanes.hasLow, Lanes.hasHigh] <;>
      simp [Memory.read_write, h, hl, h1, h2, h3]

end Sys2Proof.Machine
end

