-- ==== Sys2Proof/Laws/PerInstr.lean ====
section
/-! SUPPORT. A law of the commands as syntax, by constructor: of the processor cycles among them only two are reads. -/

/-- Every command that is a processor cycle is a write, but for the reads of the CHANGE words and of IDENTIFICATION: the reads
without an effect have no row (log entry 43). -/
def Sys2Proof.Laws.OnlyTwoReads.Statement (i : Sys2Proof.Instr) : Prop :=
  ∀ c, Sys2Proof.Machine.cycleOf i = some c → c.write = false →
    (∃ w, c.place = .image (.change w)) ∨ c.place = .image (.live .identification)

namespace Sys2Proof.Laws.OnlyTwoReads

open Sys2Proof Sys2Proof.Machine

theorem of_none {i : Instr} (h : cycleOf i = none) : Statement i := by
  intro c e
  rw [h] at e
  exact nomatch e

theorem of_write {i : Instr} {c : Cycle} (h : cycleOf i = some c) (w : c.write = true) : Statement i := by
  intro c' e r
  rw [h] at e
  injection e with e
  subst e
  rw [w] at r
  exact nomatch r

theorem powerOn (straps : BitVec 2) : Statement (.powerOn straps) := of_none rfl
theorem startCheck : Statement (.startCheck) := of_none rfl
theorem loaderRead : Statement (.loaderRead) := of_none rfl
theorem loaderWriteBack : Statement (.loaderWriteBack) := of_none rfl
theorem passWrite (addr : Addr) (lanes : Lanes) (data : Word) : Statement (.passWrite addr lanes data) :=
  of_write rfl rfl
theorem shelfNumberWrite (lanes : Lanes) (data : Word) : Statement (.shelfNumberWrite lanes data) := of_write rfl rfl
theorem attentionMaskWrite (lanes : Lanes) (data : Word) : Statement (.attentionMaskWrite lanes data) :=
  of_write rfl rfl
theorem ringBaseWrite (lanes : Lanes) (data : Word) : Statement (.ringBaseWrite lanes data) := of_write rfl rfl
theorem ringSizeWrite (lanes : Lanes) (data : Word) : Statement (.ringSizeWrite lanes data) := of_write rfl rfl
theorem alarmProfileWrite (kind : Fin 22) (lanes : Lanes) (data : Word) : Statement (.alarmProfileWrite kind lanes data) :=
  of_write rfl rfl
theorem calibrationWrite (set : Fin 8) (field : Fin 4) (lanes : Lanes) (data : Word) : Statement (.calibrationWrite set field lanes data) :=
  of_write rfl rfl
theorem monitorKindWrite (p : Port) (lanes : Lanes) (data : Word) : Statement (.monitorKindWrite p lanes data) :=
  of_write rfl rfl
theorem expectedTraceWrite (p : Port) (lanes : Lanes) (data : Word) : Statement (.expectedTraceWrite p lanes data) :=
  of_write rfl rfl
theorem thresholdWrite (p : Port) (t : Threshold) (lanes : Lanes) (data : Word) : Statement (.thresholdWrite p t lanes data) :=
  of_write rfl rfl
theorem hysteresisWrite (p : Port) (lanes : Lanes) (data : Word) : Statement (.hysteresisWrite p lanes data) :=
  of_write rfl rfl
theorem calibrationSetWrite (p : Port) (lanes : Lanes) (data : Word) : Statement (.calibrationSetWrite p lanes data) :=
  of_write rfl rfl
theorem persistenceWrite (p : Port) (lanes : Lanes) (data : Word) : Statement (.persistenceWrite p lanes data) :=
  of_write rfl rfl
theorem groupKindWrite (g : GroupId) (lanes : Lanes) (data : Word) : Statement (.groupKindWrite g lanes data) :=
  of_write rfl rfl
theorem groupMemberWrite (g : GroupId) (field : Fin 6) (lanes : Lanes) (data : Word) : Statement (.groupMemberWrite g field lanes data) :=
  of_write rfl rfl
theorem groupPolicyWrite (g : GroupId) (lanes : Lanes) (data : Word) : Statement (.groupPolicyWrite g lanes data) :=
  of_write rfl rfl
theorem slotConfigurationWrite (i : SlotId) (field : Fin 3) (lanes : Lanes) (data : Word) : Statement (.slotConfigurationWrite i field lanes data) :=
  of_write rfl rfl
theorem slotSourceWrite (l : LineId) (lanes : Lanes) (data : Word) : Statement (.slotSourceWrite l lanes data) :=
  of_write rfl rfl
theorem stationInputKindWrite (lanes : Lanes) (data : Word) : Statement (.stationInputKindWrite lanes data) :=
  of_write rfl rfl
theorem imageReadyWrite (lanes : Lanes) (data : Word) : Statement (.imageReadyWrite lanes data) := of_write rfl rfl
theorem imageReadyReadBack : Statement (.imageReadyReadBack) := of_none rfl
theorem bar (object : BitVec 6) (channel : BitVec 3) (spare : BitVec 3) : Statement (.bar object channel spare) :=
  of_write rfl rfl
theorem force (object : BitVec 6) (channel : BitVec 3) (spare : BitVec 3) : Statement (.force object channel spare) :=
  of_write rfl rfl
theorem manual (object : BitVec 6) (channel : BitVec 3) (spare : BitVec 3) : Statement (.manual object channel spare) :=
  of_write rfl rfl
theorem clear (object : BitVec 6) (channel : BitVec 3) (spare : BitVec 3) : Statement (.clear object channel spare) :=
  of_write rfl rfl
theorem forceRef (object : BitVec 6) (channel : BitVec 3) (spare : BitVec 3) : Statement (.forceRef object channel spare) :=
  of_write rfl rfl
theorem clearRef (object : BitVec 6) (channel : BitVec 3) (spare : BitVec 3) : Statement (.clearRef object channel spare) :=
  of_write rfl rfl
theorem maint (object : BitVec 6) (channel : BitVec 3) (spare : BitVec 3) : Statement (.maint object channel spare) :=
  of_write rfl rfl
theorem release (object : BitVec 6) (channel : BitVec 3) (spare : BitVec 3) : Statement (.release object channel spare) :=
  of_write rfl rfl
theorem resume (object : BitVec 6) (channel : BitVec 3) (spare : BitVec 3) : Statement (.resume object channel spare) :=
  of_write rfl rfl
theorem aco (object : BitVec 6) (channel : BitVec 3) (spare : BitVec 3) : Statement (.aco object channel spare) :=
  of_write rfl rfl
theorem restart (object : BitVec 6) (channel : BitVec 3) (spare : BitVec 3) : Statement (.restart object channel spare) :=
  of_write rfl rfl
theorem confirm (data : Word) : Statement (.confirm data) := of_write rfl rfl
theorem mailboxByteWrite (target : MailboxWord) (lane : Lane) (byte : Byte) : Statement (.mailboxByteWrite target lane byte) :=
  of_write rfl rfl
theorem confirmWindowExpiry : Statement (.confirmWindowExpiry) := of_none rfl
theorem statusWrite (lanes : Lanes) (data : Word) : Statement (.statusWrite lanes data) := of_write rfl rfl
theorem shelfTimeWrite (lanes : Lanes) (data : Word) : Statement (.shelfTimeWrite lanes data) := of_write rfl rfl
theorem shelfTimeAdvance : Statement (.shelfTimeAdvance) := of_none rfl
theorem changeWordRead (w : Fin 16) (lanes : Lanes) : Statement (.changeWordRead w lanes) := by
  intro c e _
  injection e with e
  subst e
  exact .inl ⟨w, rfl⟩
theorem identificationRead (lanes : Lanes) : Statement (.identificationRead lanes) := by
  intro c e _
  injection e with e
  subst e
  exact .inr rfl
theorem scanRoundStart : Statement (.scanRoundStart) := of_none rfl
theorem portSlotStart : Statement (.portSlotStart) := of_none rfl
theorem moduleAnswer (checkPasses : Bool) (answer : Answer) : Statement (.moduleAnswer checkPasses answer) :=
  of_none rfl
theorem portSlotEnd : Statement (.portSlotEnd) := of_none rfl
theorem portUpdate : Statement (.portUpdate) := of_none rfl
theorem holdOffExpiry (g : GroupId) (k : ChannelIx) : Statement (.holdOffExpiry g k) := of_none rfl
theorem restoreWaitExpiry (g : GroupId) : Statement (.restoreWaitExpiry g) := of_none rfl
theorem confirmationTimerExpiry (g : GroupId) : Statement (.confirmationTimerExpiry g) := of_none rfl
theorem senseChange (e : ElementId) (lines : BitVec 5) : Statement (.senseChange e lines) := of_none rfl
theorem travelTimerExpiry (e : ElementId) : Statement (.travelTimerExpiry e) := of_none rfl
theorem settleTimerExpiry (l : LineId) : Statement (.settleTimerExpiry l) := of_none rfl
theorem slotPulse (i : SlotId) : Statement (.slotPulse i) := of_none rfl
theorem lossWindowExpiry (i : SlotId) : Statement (.lossWindowExpiry i) := of_none rfl
theorem gateComplete (i : SlotId) (count : Nat) : Statement (.gateComplete i count) := of_none rfl
theorem gateOverrun (i : SlotId) : Statement (.gateOverrun i) := of_none rfl
theorem qualifyTimerExpiry (i : SlotId) : Statement (.qualifyTimerExpiry i) := of_none rfl
theorem acoInput : Statement (.acoInput) := of_none rfl
theorem descriptorWord0Read : Statement (.descriptorWord0Read) := of_none rfl
theorem descriptorWordWrite : Statement (.descriptorWordWrite) := of_none rfl
theorem descriptorWord0Write : Statement (.descriptorWord0Write) := of_none rfl
theorem unknownCommandWrite (data : Word) : Statement (.unknownCommandWrite data) := of_write rfl rfl

end Sys2Proof.Laws.OnlyTwoReads
end

