-- ==== Sys2Proof/Laws/Values.lean ====
section
/-! SUPPORT. What the shared operations do, each said once: events, points, results, held values, and the grant at the end of
a command. -/

namespace Sys2Proof.Machine

/-! ## The drive output (R115, R116) -/

/-- The drive outputs follow from the switch driver alone. -/
theorem State.driveOutput_of_driver {s t : State} (h : t.driver = s.driver) : t.driveOutput = s.driveOutput := by
  funext e; simp only [State.driveOutput, State.element, h]

@[simp] theorem State.driveOutput_off {s : State} (h : s.driver.on = false) (e : ElementId) : s.driveOutput e = none := by
  simp [State.driveOutput, h]

/-! ## Events and points -/

/-- An event put is queued, or lost with overflow-pending set (R175). -/
theorem State.putEvent_cases (s : State) (o : Nat) (d : Detail) :
    (s.poster.queue.length < 16 ∧ s.putEvent o d = { s with poster := { s.poster with
        queue := s.poster.queue ++ [⟨o, d, s.poster.shelfTime⟩]
        state := if s.poster.state = .idle then .posting else s.poster.state } })
    ∨ (16 ≤ s.poster.queue.length ∧ s.putEvent o d = { s with poster := { s.poster with overflow := true } }) := by
  unfold State.putEvent Config.queueSize
  by_cases h : s.poster.queue.length < 16
  · exact .inl ⟨h, if_pos h⟩
  · exact .inr ⟨by omega, if_neg h⟩

theorem State.putEvent_queue_prefix (s : State) (o : Nat) (d : Detail) :
    s.poster.queue <+: (s.putEvent o d).poster.queue := by
  rcases s.putEvent_cases o d with ⟨-, h⟩ | ⟨-, h⟩
  · rw [h]
    exact List.prefix_append _ _
  · rw [h]

/-- Points have different numbers (R164). -/
theorem Point.index_injective {p q : Point} (h : p.index = q.index) : p = q := by
  cases p <;> cases q <;> simp only [Point.index] at h <;>
    first | (exfalso; omega) | (congr 1 <;> (apply Fin.ext; omega))

theorem Point.index_lt (p : Point) : p.index < 255 := by
  cases p <;> simp only [Point.index] <;> omega

theorem getLsbD_pointBit (p q : Point) : (pointBit p).getLsbD q.index = decide (q = p) := by
  have hp := p.index_lt
  have hq := q.index_lt
  by_cases h : q = p
  · subst h
    simp [pointBit, BitVec.getLsbD_shiftLeft]
    omega
  · have hne : q.index ≠ p.index := fun e => h (Point.index_injective e)
    simp [pointBit, BitVec.getLsbD_shiftLeft, h]
    omega

theorem State.setPoint_same (s : State) (p : Point) (v : Bool) (h : s.pointRaised p = v) : s.setPoint p v = s := by
  unfold State.setPoint
  rw [if_pos h]

theorem State.judgeRelays_points (old s : State) :
    (State.judgeRelays old s).alarm.raised = s.alarm.raised ∧ (State.judgeRelays old s).alarm.latched = s.alarm.latched
    ∧ (State.judgeRelays old s).alarm.alarmChange = s.alarm.alarmChange
    ∧ (State.judgeRelays old s).alarm.mode = s.alarm.mode ∧ (State.judgeRelays old s).alarm.profile = s.alarm.profile
    ∧ (State.judgeRelays old s).alarm.mask = s.alarm.mask := by
  unfold State.judgeRelays
  split <;> simp

/-- A transition sets the point and its latch, and touches no other point (R166). -/
theorem State.setPoint_points (s : State) (p : Point) (v : Bool) (h : s.pointRaised p ≠ v) (q : Point) :
    ((s.setPoint p v).pointRaised q = if q = p then v else s.pointRaised q)
    ∧ ((s.setPoint p v).pointLatched q = (s.pointLatched q || decide (q = p))) := by
  have e : s.setPoint p v = State.judgeRelays s ((s.latchPoint p v).reportPoint p v) := if_neg h
  rw [e]
  unfold State.pointRaised State.pointLatched
  have hj := State.judgeRelays_points s ((s.latchPoint p v).reportPoint p v)
  rw [hj.1, hj.2.1]
  simp only [State.reportPoint_frame, State.latchPoint, BitVec.getLsbD_or, getLsbD_pointBit]
  have hq := q.index_lt
  cases v <;> by_cases e : q = p <;> simp [e, getLsbD_pointBit] <;> omega

/-- After a hand-over the point holds the value handed over (R165). -/
theorem State.setPoint_raised (s : State) (p : Point) (v : Bool) : (s.setPoint p v).pointRaised p = v := by
  by_cases h : s.pointRaised p = v
  · rw [State.setPoint_same s p v h, h]
  · simpa using (State.setPoint_points s p v h p).1

theorem State.setPoint_raised_other (s : State) (p q : Point) (v : Bool) (h : q ≠ p) :
    (s.setPoint p v).pointRaised q = s.pointRaised q := by
  by_cases e : s.pointRaised p = v
  · rw [State.setPoint_same s p v e]
  · simpa [h] using (State.setPoint_points s p v e q).1

/-! ## Results -/

/-- A result recorded (R134), block by block. -/
theorem State.recordResult_mailbox (s : State) (c : BitVec 4) (o : Nat) (r : CommandResult) :
    (s.recordResult c o r).mailbox =
      { s.mailbox with lastResult := r, lastCode := c, count := s.mailbox.count + 1 }
    ∧ (s.recordResult c o r).alarm = { s.alarm with commandDone := true }
    ∧ (s.recordResult c o r).poster = (s.putEvent o (.command c r)).poster := by
  unfold State.recordResult State.putEvent
  refine ⟨?_, ?_, ?_⟩ <;> simp only [] <;> split <;> rfl

/-! ## Held values -/

@[simp] theorem State.heldWord_setHeld (s : State) (w : Watched) (v : Word) : (s.setHeld w v).heldWord w = v := by
  cases w <;> simp [State.setHeld, State.heldWord]

theorem State.heldWord_setHeld_other (s : State) (w x : Watched) (v : Word) (h : x ≠ w) :
    (s.setHeld w v).heldWord x = s.heldWord x := by
  have two : ∀ {α : Type} {m n : Nat} (t : Vector (Vector α n) m) (i i' : Fin m) (j j' : Fin n) (a : α),
      ¬ (i' = i ∧ j' = j) → (put t i (put t[i] j a))[i'][j'] = t[i'][j'] := by
    intro α m n t i i' j j' a hne
    by_cases e : i' = i
    · subst e
      rw [put_same, put_other _ _ _ _ (fun e => hne ⟨rfl, e.symm⟩)]
    · rw [put_other _ _ _ _ (fun e' => e e'.symm)]
  cases w <;> cases x <;> simp only [State.setHeld, State.heldWord] <;> first | rfl | (exact absurd rfl h) | skip
  · exact put_other _ _ _ _ (fun e => h (by rw [e]))
  · exact two _ _ _ _ _ _ (fun e => h (by rw [e.1, e.2]))
  · exact two _ _ _ _ _ _ (fun e => h (by rw [e.1, e.2]))
  · rename_i g j g' j'
    by_cases e : g' = g
    · subst e
      exact (congrArg (fun r : Group => r.config[j']) (put_same _ _ _)).trans
        (put_other _ _ _ _ (fun e => h (by rw [e])))
    · exact congrArg (fun r : Group => r.config[j']) (put_other _ _ _ _ (fun e' => e e'.symm))
  · exact two _ _ _ _ _ _ (fun e => h (by rw [e.1, e.2]))
  · exact put_other _ _ _ _ (fun e => h (by rw [e]))

/-! ## The end of a command -/

/-- A command that is no memory cycle ends with at most the grant of a free port (R11). -/
theorem State.eventDone_eq (s : State) : ∃ g, s.eventDone = { s with path := { s.path with grant := g } } := by
  unfold State.eventDone State.grantAfresh
  split
  · exact ⟨_, rfl⟩
  · exact ⟨s.path.grant, rfl⟩

/-- A processor's command whose cycle needs no port, or finds it free, is its cycle, with the grant that follows (R11). -/
theorem State.processor_served (s : State) (c : Cycle) (h : s.needsPort c = true → s.path.grant = none) :
    ∃ g, s.processor c = { s.processorCycle c with path := { (s.processorCycle c).path with grant := g } } := by
  unfold State.processor
  split
  next hc => rw [if_pos (h hc)]; exact ⟨_, rfl⟩
  · exact (s.processorCycle c).eventDone_eq

/-- A processor's command whose cycle needs a busy port waits on the ready line (R13). -/
theorem State.processor_held (s : State) (c : Cycle) (h : s.needsPort c = true) (busy : s.path.grant ≠ none) :
    s.processor c = s.holdCycle c := by
  unfold State.processor
  rw [if_pos h, if_neg busy]

/-- With no cycle held a port that falls free serves none. -/
theorem State.serveHeld_none (s : State) (h : s.path.held = []) : s.serveHeld = s := by
  obtain ⟨_, _, ⟨_, _, _, _, _, held, _, _, _⟩, _, _, _, _, _, _, _, _⟩ := s
  cases h
  rfl

/-- In the start check and in LOADING every held cycle is held on (R13). -/
theorem State.serve_busy (s : State) (c : Cycle) (h : s.path.op = .startCheck ∨ s.path.op = .loading) :
    s.serve c = s.holdCycle c := by
  unfold State.serve State.processorCycle
  rcases h with h | h <;> rw [h] <;> simp

theorem State.serveHeld_busy (s : State) (h : s.path.op = .startCheck ∨ s.path.op = .loading) : s.serveHeld = s := by
  have fold : ∀ (l : List Cycle) (u : State), u.path.op = .startCheck ∨ u.path.op = .loading →
      l.foldl State.serve u = { u with path := { u.path with held := u.path.held ++ l } } := by
    intro l
    induction l with
    | nil => intro u _; simp
    | cons c l ih =>
      intro u hu
      rw [List.foldl_cons, u.serve_busy c hu, ih (u.holdCycle c) hu]
      simp [State.holdCycle]
  exact fold s.path.held { s with path := { s.path with held := [] } } h

/-- A master cycle's command is its effect, with the cycles held that meet the free port and the grant that follows. -/
theorem State.finishMaster_eq (s : State) (due : Bool) :
    ∃ u g, s.finishMaster due = .next { u with path := { u.path with grant := g } }
      ∧ u = if due then s.serveHeld else s := by
  unfold State.finishMaster
  cases due
  · obtain ⟨g, hg⟩ := s.eventDone_eq
    exact ⟨s, g, by simp [hg], rfl⟩
  · exact ⟨s.serveHeld, _, rfl, rfl⟩

/-- Every command answers a next state: the part has no fault, and no arm is refused. -/
theorem exec_next (c : Instr) (s : State) : ∃ t, exec c s = .next t := by
  cases c <;> exact ⟨_, rfl⟩

/-- In RUNNING a processor's cycle is served by the class of the word (R3). -/
theorem State.processorCycle_running (s : State) (c : Cycle) (h : s.path.op = .running) :
    s.processorCycle c = s.serveRunning c := by
  unfold State.processorCycle
  rw [h]

theorem State.processorCycle_held (s : State) (c : Cycle) (h : s.path.op = .startCheck ∨ s.path.op = .loading) :
    s.processorCycle c = s.holdCycle c := by
  unfold State.processorCycle
  rcases h with h | h <;> rw [h]

/-- A write of a named image word in RUNNING (R3). -/
theorem State.serveRunning_watched (s : State) (w : Watched) (l : Lanes) (d : Word) :
    s.serveRunning (writeCycle (.watched w) l d) = s.watchedWrite w l d := rfl

end Sys2Proof.Machine
end

