-- ==== Sys2Proof/WellFormed.lean ====
section
/-! DEFINITION. The static checks on a command: what its row says of its operands beyond their widths. -/

namespace Sys2Proof

/-- A gate completes with a count the oscillator can have reached and that has not abandoned it (R148). -/
def gateCountOk (m : Nat) : Bool := 0 < m && m ≤ Config.gateLimit

/-- The code of an unknown command word is NONE or 12 to 15 (R127, R187). -/
def unknownCodeOk (w : Word) : Bool := w.toNat % 16 = 0 || 12 ≤ w.toNat % 16

/-- The checks of a command. -/
def Instr.wellFormed : Instr → Bool
  | .gateComplete _ m => gateCountOk m
  | .unknownCommandWrite w => unknownCodeOk w
  | .powerOn _ | .startCheck | .loaderRead | .loaderWriteBack | .passWrite _ _ _ | .shelfNumberWrite _ _
  | .attentionMaskWrite _ _ | .ringBaseWrite _ _ | .ringSizeWrite _ _ | .alarmProfileWrite _ _ _
  | .calibrationWrite _ _ _ _ | .monitorKindWrite _ _ _ | .expectedTraceWrite _ _ _ | .thresholdWrite _ _ _ _
  | .hysteresisWrite _ _ _ | .calibrationSetWrite _ _ _ | .persistenceWrite _ _ _ | .groupKindWrite _ _ _
  | .groupMemberWrite _ _ _ _ | .groupPolicyWrite _ _ _ | .slotConfigurationWrite _ _ _ _ | .slotSourceWrite _ _ _
  | .stationInputKindWrite _ _ | .imageReadyWrite _ _ | .imageReadyReadBack | .bar _ _ _ | .force _ _ _
  | .manual _ _ _ | .clear _ _ _ | .forceRef _ _ _ | .clearRef _ _ _ | .maint _ _ _ | .release _ _ _
  | .resume _ _ _ | .aco _ _ _ | .restart _ _ _ | .confirm _ | .mailboxByteWrite _ _ _ | .confirmWindowExpiry
  | .statusWrite _ _ | .shelfTimeWrite _ _ | .shelfTimeAdvance | .changeWordRead _ _ | .identificationRead _
  | .scanRoundStart | .portSlotStart | .moduleAnswer _ _ | .portSlotEnd | .portUpdate | .holdOffExpiry _ _
  | .restoreWaitExpiry _ | .confirmationTimerExpiry _ | .senseChange _ _ | .travelTimerExpiry _
  | .settleTimerExpiry _ | .slotPulse _ | .lossWindowExpiry _ | .gateOverrun _ | .qualifyTimerExpiry _
  | .acoInput | .descriptorWord0Read | .descriptorWordWrite | .descriptorWord0Write => true

end Sys2Proof
end

