-- ==== Sys2Proof/Tests/Slice0.lean ====
section
/-! SUPPORT. Tests: the static checks, worked examples of the spec, and for every statement with hypotheses a concrete state that
meets them. -/

namespace Sys2Proof.Tests

open Sys2Proof Sys2Proof.Machine Sys2Proof.Claims

set_option Elab.async false -- one theorem at a time: the tests together need many threads otherwise

/-! ## Small states -/

/-- Running, nothing configured, the mailbox READY and the poster IDLE. -/
def running : State :=
  { State.reset with
    path := { State.reset.path with op := .running, grant := none }
    driver := { State.reset.driver with on := true }
    poster := { State.reset.poster with state := .idle, ringBase := 0x8000, ringSize := 0x0040 } }

def standby : State := { State.reset with path := { State.reset.path with op := .standby, grant := none } }

/-- LOADING with the loader at word `n`. -/
def loading (n : Nat) : State := { State.reset with path := { State.reset.path with op := .loading, loaderAt := n } }

/-- The same state with one word of the image in memory. -/
def withWord (s : State) (offset : Nat) (w : Word) : State := s.memWrite (s.imageAddr offset) .word w

def withMailbox (s : State) (m : MailboxState) : State := { s with mailbox := { s.mailbox with state := m } }

/-- AWAIT-CONFIRM with a command word pending. -/
def awaiting (s : State) (w : Word) : State :=
  { s with mailbox := { s.mailbox with state := .awaitConfirm, pending := some w, window := some 4000 } }

def anEvent : Event := ⟨2, .switch ⟨0, 0⟩ ⟨5, 1⟩, 0x1234⟩

/-- POSTING with one event queued, the given cycle next and the port granted to it. -/
def postingAt (step : PostStep) : State :=
  { running with
    path := { running.path with grant := some (.poster false) }
    poster := { running.poster with state := .posting, queue := [anEvent], step := step } }

/-- The same with `n` events queued, and overflow-pending as the grant and as the poster now hold it. -/
def postingWith (step : PostStep) (n : Nat) (granted overflow : Bool) : State :=
  let s := postingAt step
  { s with
    path := { s.path with grant := some (.poster granted) }
    poster := { s.poster with queue := List.replicate n anEvent, overflow := overflow } }

/-- Processor cycles held on the ready line. -/
def holding (s : State) (ys : List Cycle) : State := { s with path := { s.path with held := ys } }

def withPoster (s : State) (st : PosterState) : State := { s with poster := { s.poster with state := st } }

/-- Sixteen events queued. -/
def fullQueue (s : State) : State := { s with poster := { s.poster with queue := List.replicate 16 anEvent } }

/-- The calibration of the spec's worked conversion. -/
def set2 : Vector Word 4 := #v[400, signedWord (-380), 3600, signedWord (-60)]

/-- Ports 5 and 6 of monitor kind POWER with calibration set 2, port 7 of kind LOL-ONLY. -/
def equipped : State :=
  let power : Vector Word 8 := #v[2, 0, 0xFE0C, 0xFE0C, 0x0064, 0, 2, 3]
  let lol : Vector Word 8 := #v[1, 0, 0xFE0C, 0xFE0C, 0x0064, 0, 0, 3]
  { running with sup := { running.sup with
      config := put (put (put running.sup.config 5 power) 6 power) 7 lol
      calibration := put running.sup.calibration 2 set2 } }

/-- Group 2 PAIRED, protect port 6, working port 5, selector element 4, revertive (Operator Commands, worked sequence). -/
def pairedConfig : Vector Word 8 := #v[0x0011, 6, 5, 63, 63, 63, 0x3F04, 0x1505]

def paired (evaluated : Bool) : State :=
  { equipped with group := put equipped.group 2 { Group.reset with config := pairedConfig, evaluated := evaluated } }

/-- The same group changed. -/
def pairedWith (f : Group → Group) : State :=
  let s := paired true
  { s with group := put s.group 2 (f s.group[(2 : GroupId)]) }

/-- Group 3 SHARED of two channels, an accepted far-end word given. -/
def sharedWith (w : Option Word) (f : Group → Group) : State :=
  let cfg : Vector Word 8 := #v[0x0022, 6, 5, 7, 63, 63, 0x0908, 0x0500]
  { equipped with group := put equipped.group 3 (f { Group.reset with config := cfg, evaluated := true, accepted := w }) }

/-- The record of port 5 replaced. -/
def record5 (f : PortRecord → PortRecord) : State :=
  { equipped with sup := { equipped.sup with record := put equipped.sup.record 5 (f equipped.sup.record[(5 : Port)]) } }

/-- Results waiting for their updates. -/
def resulted (s : State) (p : Port) (a : Option Answer) : State :=
  { s with sup := { s.sup with rounds := [⟨1, [(p, a), (7, none)]⟩] } }

/-- A round in progress. -/
def inRound (s : State) (p : Port) (ph : SlotPhase) (rs : List (Port × Option Answer)) : State :=
  { s with scan := { s.scan with round := some ⟨p, ph, rs⟩ } }

/-- Station slot S0 enabled with the record given, the station input kind 1. -/
def slot0 (r : Slot) : State :=
  { running with timing := { running.timing with
      config := put running.timing.config 0 #v[1, 0x0078, 0x040A], stationKind := 1
      slot := put running.timing.slot 0 r } }

def pulsing (m : Measured) (st : SlotState) : Slot := ⟨st, m, none, some 4, some 5, false, none, none, 0⟩

/-- Line slot L0 enabled with the record given. -/
def line0 (r : Slot) : State :=
  { running with timing := { running.timing with
      config := put running.timing.config 2 #v[1, 0x0078, 0x040A], slot := put running.timing.slot 2 r } }

/-- S0 selected and tracked in the state given. -/
def trackedIn (g : GenState) : State :=
  let s := slot0 { pulsing .available .available with gate := some 999 }
  { s with timing := { s.timing with selected := some 0, gen := g } }

/-- Element 4 with the record given. -/
def element4 (el : Element) : State :=
  { running with driver := { running.driver with element := put running.driver.element 4 el } }

def aGood : Answer := ⟨false, some 1234, some (0, 0)⟩

/-- LOADING at the last watched word, with the blocks of the state given, the drive off and an element sensed at a position. -/
def atLast (s : State) (e : ElementId) (sensed : Option Position) : State :=
  { s with path := (loading 360).path, driver := ⟨false, put s.driver.element e ((s.element e).driveOff)⟩ }
    |>.setElement e { s.element e with sensed := sensed }

/-- A step of a state with a command at the front answers a next state. -/
theorem stepsOn (s : State) : ∃ t, step s = .next t := by
  unfold step
  split
  · exact ⟨_, rfl⟩
  · exact exec_next _ _

/-- A write of a value changes what the owner of a watched word holds, in RUNNING with the memory port free. -/
def changes (s : State) (w : Watched) (v : Word) : Bool :=
  s.path.op = .running && s.path.grant = none && (s.screen w v).2 ≠ s.heldWord w

/-- What a command leaves passes a test. -/
def leaves (c : Instr) (s : State) (f : State → Bool) : Bool :=
  match exec c s with
  | .next t => f t
  | .fault _ => false
  | .refused _ => false

/-! ## Static checks and decoding -/

theorem test_wf_gate_zero : (Instr.gateComplete 0 0).wellFormed = false := by decide
theorem test_wf_gate_over : (Instr.gateComplete 0 5120001).wellFormed = false := by decide
theorem test_wf_gate_ends : (Instr.gateComplete 0 1).wellFormed = true ∧ (Instr.gateComplete 3 5120000).wellFormed = true := by
  decide
theorem test_wf_unknown_known_code :
    (Instr.unknownCommandWrite 0x0001).wellFormed = false ∧ (Instr.unknownCommandWrite 0xFFFB).wellFormed = false := by decide
theorem test_wf_unknown_ends :
    (Instr.unknownCommandWrite 0).wellFormed = true ∧ (Instr.unknownCommandWrite 12).wellFormed = true
    ∧ (Instr.unknownCommandWrite 0xFFFF).wellFormed = true := by decide
theorem test_no_word_decodes (n w : Nat) : decodeTableWord n w = none := rfl

/-! ## Worked examples of the spec -/

/-- R39, the table "conversion at the edges". -/
theorem test_convert_edges :
    Calibration.convert set2 1234 = -297 ∧ Calibration.convert set2 100 = -410 ∧ Calibration.convert set2 0 = -420
    ∧ Calibration.convert set2 4095 = -10 := by decide +kernel

/-- R41, the table "smoothing with few and many entries". -/
theorem test_smoothing :
    smoothedPower [-140] = some (-140) ∧ smoothedPower [-141, -140] = some (-141)
    ∧ smoothedPower [-301, -301, -300] = some (-301) ∧ smoothedPower [-297, -301, -296, -305] = some (-300)
    ∧ smoothedPower [6, 5] = some 5 := by decide +kernel

/-- R148, the table "gate arithmetic". -/
theorem test_gate_arithmetic :
    gateOffset 2559990 = 39 ∧ gateOffset 2560030 = -117 ∧ gateOffset 2560031 = -121 ∧ gateOffset 2500000 = 9999
    ∧ gateOffset 5120000 = -9999 := by decide +kernel

/-- R157, "learning, holding and running dry". -/
theorem test_mean_to_zero : meanToZero [15, 14] = 14 ∧ meanToZero [-15, -14] = -14 := by decide +kernel

/-- R197, "one descriptor decoded". -/
theorem test_descriptor :
    anEvent.word0 true false = 0x0002 ∧ anEvent.word1 = 0x0202 ∧ anEvent.detail.word = 0x0D00
    ∧ (Event.word1 ⟨2, .command 2 .done, 0⟩) = 0x0204 ∧ (Detail.command 2 .done).word = 0x0102 := by decide +kernel

/-- R6, "a byte write to RING SIZE", case 1: the poster is IDLE. -/
theorem test_ring_size_idle :
    leaves (.ringSizeWrite .high 0x0100) running (fun t =>
      t.poster.ringSize = 0x0040 && t.memWord (t.imageAddr 5) = 0x0040
      && t.poster.queue.map (fun e => e.detail) = [.provision 5 .prohibited]) = true := by decide +kernel

/-- R6, case 2: the poster is BUSY. -/
theorem test_ring_size_busy :
    leaves (.ringSizeWrite .high 0x0100) (withPoster running .busy) (fun t =>
      t.poster.ringSize = 0x0100 && t.memWord (t.imageAddr 5) = 0x0100 && t.poster.ringChange
      && t.poster.queue.map (fun e => e.detail) = [.provision 5 .clamped]) = true := by decide +kernel

/-- R134, "a FORCE from command to traffic": the SWITCH event stands before the COMMAND event and the selector moves to 1. -/
theorem test_force_sequence :
    leaves (.confirm 0x0422) (awaiting (paired true) 0x0422) (fun t =>
      t.poster.queue.map (fun e => e.detail.word) = [0x0D00, 0x0102] && (t.element 4).commanded = 1
      && t.mailbox.state = .ready && t.mailbox.lastResult = .done) = true := by decide +kernel

/-- R158, the third interval: 240 gates at +12 and 240 at +13 push +12. -/
theorem test_history_push :
    let t := { Timing.reset with
      gen := .lockedFine, offset := 13, partialCount := 479, partialSum := 5987, history := [15, 14] }
    (t.steer 13).history = [12, 15, 14] ∧ (t.steer 13).partialCount = 0 := by decide +kernel

/-- R2: the base of each strap setting. -/
theorem test_bases : Config.imageBase 0 = 0x00000 ∧ Config.imageBase 1 = 0x10000 ∧ Config.imageBase 2 = 0x40000
    ∧ Config.imageBase 3 = 0x7F000 := by decide

/-- R177: the counter goes from 65,535 to 0. -/
theorem test_shelf_time_wraps :
    leaves .shelfTimeAdvance { running with poster := { running.poster with shelfTime := 0xFFFF } }
      (fun t => t.poster.shelfTime = 0) = true := by decide +kernel

/-- R134: a CLEAR-REF that fails the form check by its object field records object 0, and a MAINT by its channel its own object. -/
theorem test_refused_object :
    leaves (.clearRef 5 0 0) running (fun t => t.poster.queue = [⟨0, .command 6 .refusedInvalid, 0⟩]) = true
    ∧ leaves (.maint 5 1 0) running (fun t => t.poster.queue = [⟨5, .command 7 .refusedInvalid, 0⟩]) = true := by decide +kernel

/-- R128: a CONFIRM in READY is stray. -/
theorem test_stray_confirm :
    leaves (.confirm 0x0422) running (fun t => t.mailbox.lastResult = .strayConfirm && t.mailbox.state = .ready) = true := by
  decide +kernel

/-- R120: an element that drops its latch is driven again. -/
theorem test_redrive :
    leaves (.senseChange 4 0) running (fun t => t.driveOutput 4 = some 0 &&
      (t.element 4).state = .travelling && (t.element 4).travel = some 400 && (t.element 4).commanded = 0) = true := by
  decide +kernel

/-- R22: an answer whose check fails counts as none. -/
theorem test_bad_check :
    leaves (.moduleAnswer false aGood) (inRound equipped 5 .polled [])
      (fun t => t.scan.round = some ⟨5, .polled, []⟩) = true := by decide +kernel

/-! ## Witnesses: a state that meets the hypotheses of each statement, clause by clause -/

theorem witness_stepRunsFront :
    ({ State.reset with pending := [.acoInput, .startCheck] } : State).pending = .acoInput :: [.startCheck] := rfl

/-- Both answers of IMAGE READY, the second with every value next to 0x0001 in one lane. -/
theorem witness_startCheckEnds :
    (withWord State.reset 1 1).path.op = .startCheck ∧ (withWord State.reset 1 1).poster.state = .disabled
    ∧ (withWord State.reset 1 1).memWord ((withWord State.reset 1 1).imageAddr 1) = 1
    ∧ State.reset.path.op = .startCheck ∧ State.reset.poster.state = .disabled
    ∧ State.reset.memWord (State.reset.imageAddr 1) ≠ 1 ∧ State.reset.path.held = []
    ∧ (withWord State.reset 1 0x0101).memWord ((withWord State.reset 1 0x0101).imageAddr 1) ≠ 1 := by decide +kernel

/-- The first loader word with a value taken as read, and with one that is clamped; the last but one. -/
theorem witness_loaderReads :
    (loading 0).path.op = .loading ∧ (loading 0).path.writeBack = none ∧ loaderOrder[(loading 0).path.loaderAt]? = some .shelfNumber
    ∧ (loading 0).screen .shelfNumber ((loading 0).memWord ((loading 0).imageAddr 2)) = (.accepted, 0)
    ∧ (loading 0).memWord ((loading 0).imageAddr 2) = 0
    ∧ (withWord (loading 0) 2 0x0400).screen .shelfNumber
        ((withWord (loading 0) 2 0x0400).memWord ((withWord (loading 0) 2 0x0400).imageAddr 2)) = (.clamped, 0x03FF)
    ∧ loaderOrder[359]? = some (.source 1) ∧ (loading 359).path.loaderAt + 1 < loaderOrder.length := by decide +kernel

theorem witness_loaderWritesBack :
    let s := { loading 0 with path := { (loading 0).path with writeBack := some ⟨.shelfNumber, 0x03FF, .clamped⟩ } }
    s.path.op = .loading ∧ s.path.writeBack = some ⟨.shelfNumber, 0x03FF, .clamped⟩
    ∧ s.path.loaderAt + 1 < loaderOrder.length := by decide +kernel

theorem witness_runningBegins :
    let due := { loading 360 with path := { (loading 360).path with writeBack := some ⟨.stationKind, 1, .clamped⟩ } }
    ((loading 360).path.op = .loading ∧ (loading 360).path.writeBack = none
      ∧ (loading 360).path.loaderAt + 1 = loaderOrder.length
      ∧ loaderOrder[(loading 360).path.loaderAt]? = some .stationKind
      ∧ (loading 360).screen .stationKind ((loading 360).memWord ((loading 360).imageAddr 0x290))
          = (.accepted, (loading 360).memWord ((loading 360).imageAddr 0x290))
      ∧ (loading 360).path.held = [])
    ∧ (due.path.op = .loading ∧ due.path.writeBack = some ⟨.stationKind, 1, .clamped⟩
      ∧ due.path.loaderAt + 1 = loaderOrder.length ∧ due.path.held = [])
    ∧ ((loading 360).element 0).sensed = some 0 ∧ ((atLast equipped 4 none).element 4).sensed = none := by
  decide +kernel

/-- Groups that adopt: a PAIRED group sensed at 1, and a SHARED group of two channels sensed at 2, its bridge at 2 and at 3; a group
that adopts nothing. -/
theorem witness_adoption :
    (let s := atLast (paired false) 4 (some 1)
     AdoptsAt s 2 0 ∧ GroupConfig.revertive s.group[(2 : GroupId)].config = true)
    ∧ (∀ k, ¬ AdoptsAt (loading 360) 0 k)
    ∧ AdoptsAt (atLast (sharedWith none id) 8 (some 2)) 3 1
    ∧ (let s := atLast (sharedWith none id) 9 (some 2)
       GroupConfig.bridge s.group[(3 : GroupId)].config = some 9 ∧ (s.element 9).sensed = some 2
       ∧ GroupConfig.count s.group[(3 : GroupId)].config = 2)
    ∧ ((atLast (sharedWith none id) 9 (some 3)).element 9).sensed = some 3 :=
  ⟨⟨⟨by decide +kernel, by decide +kernel, ⟨4, 1, by decide +kernel⟩, .inl (by decide +kernel)⟩, by decide +kernel⟩,
    fun _ h => absurd h.1 (by decide +kernel),
    ⟨by decide +kernel, by decide +kernel, ⟨8, 2, by decide +kernel⟩, .inr (by decide +kernel)⟩,
    by decide +kernel, by decide +kernel⟩

theorem shared_table : (sharedWith none id).TableSound :=
  ⟨by decide +kernel, by decide +kernel, by decide +kernel, by decide +kernel, by decide +kernel, by decide +kernel,
    by decide +kernel⟩

theorem witness_imageReady :
    let owed := { standby with path := { standby.path with readBackOwed := true } }
    standby.path.op = .standby ∧ standby.path.readBackOwed = false ∧ running.path.op = .running
    ∧ (withWord owed 1 1).path.readBackOwed = true
    ∧ (withWord owed 1 1).memWord ((withWord owed 1 1).imageAddr 1) = 1
    ∧ owed.path.op = .standby ∧ owed.memWord (owed.imageAddr 1) ≠ 1 ∧ owed.path.held = [] := by decide +kernel

/-- The top of memory, the first word after the image and the first PASS word of it, in RUNNING and in STANDBY; in STANDBY a word
of each class, by its place and by its address. -/
theorem witness_passWrites :
    running.path.mem.wf = true ∧ classify running.base 0x7FFFF = none ∧ classify running.base 0x01000 = none
    ∧ classify running.base 0x00006 = none ∧ running.path.op = .running ∧ running.path.grant = none
    ∧ standby.path.op = .standby ∧ standby.path.readBackOwed = false ∧ standby.path.grant = none
    ∧ classify standby.base 0x7FFFF = none
    ∧ (classify standby.base 0x00020 = some (.trigger (.mailbox .command)) ∧ classify standby.base 0x00000 = some (.live .identity)
      ∧ cycleOf (.passWrite 0x00020 .low 5) = some ⟨.addr 0x00020, true, .low, 5⟩)
    ∧ cycleOf (.changeWordRead 15 .high) = some ⟨.image (.change 15), false, .high, 0⟩
    ∧ cycleOf (.identificationRead .word) = some ⟨.image (.live .identification), false, .word, 0⟩
    ∧ cycleOf (.stationInputKindWrite .word 1) = some (writeCycle (.watched .stationKind) .word 1)
    ∧ cycleOf (.confirm 7) = some (writeCycle (.trigger (.mailbox .confirm)) .word 7) := by decide +kernel

theorem witness_imageMap :
    (0x7F000#19).toNat + 0xFFF < 2 ^ 19 ∧ (0x7EFFF#19).toNat < (0x7F000#19).toNat
    ∧ (0x00000#19).toNat + 0xFFF < (0x01000#19).toNat := by decide

/-- The first live word, IDENTIFICATION, the last live word, and the first and last change words. -/
theorem witness_absorbedWrites :
    running.path.op = .running ∧ classify running.base 0x00000 = some (.live .identity)
    ∧ classify running.base 0x00422 = some (.live .identification)
    ∧ classify running.base 0x004C9 = some (.live .generatorOffset)
    ∧ classify running.base 0x00410 = some (.change 0) ∧ classify running.base 0x0041F = some (.change 15) := by decide +kernel

theorem witness_cyclesHeld :
    cycleOf (.confirm 7) = some (writeCycle (.trigger (.mailbox .confirm)) .word 7) ∧ State.reset.path.op = .startCheck
    ∧ (loading 0).path.op = .loading := by decide +kernel

/-- A cycle that needs no port and one that finds it free and busy; a posting with no cycle held and with one, the queue left by the
poster's cycle at 11 and at 12. -/
theorem witness_portGranted :
    let y : Cycle := ⟨.addr 0x7FFFF, true, .word, 1⟩
    let left (s : State) (f : State → State) (n : Nat) : Bool :=
      (f s).poster.queue.length = n && (f s).poster.state = .posting
    (cycleOf (.passWrite 0x7FFFF .word 1) = some y ∧ running.needsPort y = true ∧ running.path.grant = none)
    ∧ ((postingAt .readWord0).needsPort y = true ∧ (postingAt .readWord0).path.grant ≠ none)
    ∧ (cycleOf (.statusWrite .word 0) = some (writeCycle (.live .status) .word 0)
      ∧ (postingAt .readWord0).needsPort (writeCycle (.live .status) .word 0) = false)
    ∧ (∀ x ∈ [PostStep.readWord0, .writeWord1, .writeWord2, .writeWord3, .writeWord0],
      (postingAt x).path.op = .running ∧ (postingAt x).poster.state = .posting ∧ (postingAt x).poster.step = x
      ∧ (postingAt x).poster.queue.head? = some anEvent ∧ (postingAt x).path.grant = some (.poster false)
      ∧ (postingAt x).path.held = [] ∧ (holding (postingAt x) [y]).path.held = [y])
    ∧ left (holding (postingWith .writeWord1 11 false false) [y]) State.writeWord 11 = true
    ∧ left (holding (postingWith .writeWord1 12 false false) [y]) State.writeWord 12 = true
    ∧ left (holding (postingWith .writeWord0 12 false false) [y]) State.writeWord0 11 = true
    ∧ left (holding (postingWith .writeWord0 13 false false) [y]) State.writeWord0 12 = true := by decide +kernel

/-- A write of each verdict, and one whose effective value is the value held. -/
theorem witness_watchedWrites :
    watchedWriteOf (.shelfNumberWrite .word 5) = some (.shelfNumber, .word, 5)
    ∧ watchedWriteOf (.thresholdWrite 23 .overload .low 5) = some (.port 23 4, .low, 5)
    ∧ watchedWriteOf (.groupMemberWrite 11 5 .high 5) = some (.group 11 6, .high, 5) ∧ running.path.op = .running
    ∧ running.screen .shelfNumber (mergeLanes .word (running.heldWord .shelfNumber) 5) = (.accepted, 5)
    ∧ running.screen .shelfNumber 0x0400 = (.clamped, 0x03FF)
    ∧ running.screen .attentionMask 0x0010 = (.refused, running.heldWord .attentionMask)
    ∧ running.screen .ringSize 0x0140 = (.prohibited, running.heldWord .ringSize) := by decide +kernel

theorem witness_screenKeepsHeld :
    let s := slot0 (pulsing .available .available)
    (running.screen .attentionMask 0xFFFF).1 = .refused ∧ (running.screen .ringBase 0x4000).1 = .prohibited
    ∧ (s.screen .stationKind 0).1 = .onceHeld ∧ (running.screen .attentionMask 0x000F).1 = .accepted
    ∧ (running.screen .shelfNumber 0x8000).1 = .clamped := by decide +kernel

/-- Both ends of a range, and the values next to them. -/
theorem witness_screenNumbers :
    let h := running.heldWord
    (9#16 ≠ h (.slot 0 1) ∧ (9#16).toNat < 10) ∧ (10#16 ≠ h (.slot 0 1)) ∧ 2000#16 ≠ h (.slot 0 1)
    ∧ (2001#16 ≠ h (.slot 0 1) ∧ 2000 < (2001#16).toNat) ∧ 1023#16 ≠ h .shelfNumber
    ∧ signedWord (-501) ≠ h (.port 0 2) ∧ (signedWord (-501)).toInt < -500 ∧ (101#16).toInt > 100
    ∧ 100#16 ≠ h (.port 0 2) ∧ signedWord (-500) ≠ h (.calibration 7 3) ∧ 51#16 ≠ h (.port 23 5) := by decide +kernel

/-- Each line of R32's table, an expected trace of each kind, and thresholds on both sides of their bounds. -/
theorem witness_screenPorts :
    let s := paired true
    (0x0003#16 ≠ s.heldWord (.port 5 0) ∧ (0x0003#16).toNat % 4 = 3)
    ∧ (0x0010#16 ≠ s.heldWord (.port 5 0) ∧ (0x0010#16).toNat % 4 = 0 ∧ s.portFieldOf 2 1 = 5)
    ∧ (0x0000#16 ≠ equipped.heldWord (.port 5 0) ∧ equipped.sup.record[(5 : Port)].maintenance = false
        ∧ ∀ g j, equipped.portFieldOf g j ≠ 5)
    ∧ ((record5 (fun r => { r with maintenance := true })).sup.record[(5 : Port)].maintenance = true)
    ∧ (0x0001#16 ≠ s.heldWord (.port 5 0) ∧ 0xFFE2#16 ≠ s.heldWord (.port 5 0))
    ∧ (0x0037#16 ≠ s.heldWord (.port 0 1) ∧ 0x7FF7#16 ≠ s.heldWord (.port 0 1) ∧ 0x0038#16 ≠ s.heldWord (.port 0 1))
    ∧ signedWord (-501) ≠ s.heldWord (.port 0 3) ∧ signedWord (-499) ≠ s.heldWord (.port 0 3)
    ∧ signedWord (-500) ≠ s.heldWord (.port 0 4) ∧ 101#16 ≠ s.heldWord (.port 0 4)
    ∧ 8#16 ≠ s.heldWord (.port 0 6) ∧ 2#16 ≠ s.heldWord (.port 0 7) ∧ 8#16 ≠ s.heldWord (.port 0 7) := by decide +kernel

/-- An accepted change of each of a port's words: the kind between each two values, its action flag alone, the expected trace with
and without an accepted identity, and both ends of the others; a calibration value. -/
theorem witness_portChanges :
    let traced := record5 (fun r => { r with accepted := some 0x0020, trace := .free })
    watchedWriteOf (.monitorKindWrite 5 .word 0) = some (.port 5 0, .word, 0)
    ∧ changes running (.port 8 0) 1 = true ∧ changes running (.port 8 0) 2 = true ∧ changes equipped (.port 5 0) 0 = true
    ∧ changes equipped (.port 7 0) 0 = true ∧ changes equipped (.port 5 0) 1 = true ∧ changes equipped (.port 7 0) 2 = true
    ∧ changes equipped (.port 5 0) 0x0012 = true ∧ equipped.sup.kind 5 = .power ∧ equipped.sup.kind 7 = .lolOnly
    ∧ (changes traced (.port 5 1) 0x0020 = true ∧ changes traced (.port 5 1) 0x0021 = true)
    ∧ changes equipped (.port 5 1) 0x0020 = true ∧ equipped.sup.record[(5 : Port)].trace = .unchecked
    ∧ changes equipped (.port 5 2) 0 = true ∧ changes equipped (.port 5 5) 50 = true ∧ changes equipped (.port 5 6) 7 = true
    ∧ changes equipped (.port 5 7) 7 = true ∧ changes equipped (.calibration 2 0) 401 = true
    ∧ PortConfig.calibrationSet equipped.sup.config[(5 : Port)] = 2 ∧ equipped.sup.record[(6 : Port)].trace ≠ .duplicate := by
  decide +kernel

/-- RING BASE and RING SIZE against the image: a ring that ends just below the image's end or begins at it, one that begins just
after it, each poster state, and a size clamped into and out of the image. -/
theorem witness_screenHeader :
    let top := withPoster { running with path := { running.path with straps := 1 } } .disabled
    (1#16 ≠ running.alarm.mask ∧ 0x0010#16 ≠ running.alarm.mask) ∧ 0x0030#16 ≠ running.alarm.profile[(21 : Fin 22)]
    ∧ (0x01FF#16 ≠ running.poster.ringBase ∧ ringInImage running.base 0x01FF 64 = true)
    ∧ (0x0200#16 ≠ running.poster.ringBase ∧ ringInImage running.base 0x0200 64 = false ∧ running.poster.state = .idle)
    ∧ (withPoster running .busy).poster.state = .busy
    ∧ (ringInImage top.base 0x1FFF 2 = false ∧ ringInImage top.base 0x1FFF 3 = true ∧ top.poster.state = .disabled)
    ∧ (257#16 ≠ running.poster.ringSize ∧ 1#16 ≠ running.poster.ringSize)
    ∧ (changes (withPoster running .busy) .ringBase 0x01FF = false ∧ changes (withPoster running .busy) .ringBase 0x9000 = true
        ∧ changes (withPoster running .disabled) .ringSize 0x0100 = true
        ∧ changes (withPoster running .busy) .ringSize 1 = true) := by decide +kernel

/-- Port fields of each refusal, of a prohibition and of an acceptance; the same for the kind and the elements. -/
theorem witness_screenGroups :
    let s := paired true
    let won := pairedWith (fun r => { r with winner := ⟨5, 1⟩ })
    (24#16 ≠ s.heldWord (.group 3 1) ∧ 62#16 ≠ s.heldWord (.group 3 1))
    ∧ (5#16 ≠ s.heldWord (.group 3 1) ∧ s.portFieldOf 2 1 = 5)
    ∧ (8#16 ≠ s.heldWord (.group 3 1) ∧ s.sup.kind 8 = .none)
    ∧ (7#16 ≠ s.heldWord (.group 2 3) ∧ GroupConfig.count s.group[(2 : GroupId)].config < 2)
    ∧ (7#16 ≠ s.heldWord (.group 2 1) ∧ s.group[(2 : GroupId)].winner = ⟨0, 0⟩)
    ∧ (7#16 ≠ won.heldWord (.group 2 1) ∧ won.group[(2 : GroupId)].winner ≠ ⟨0, 0⟩)
    ∧ (0x0013#16 ≠ s.heldWord (.group 2 0) ∧ 0x0022#16 ≠ s.heldWord (.group 2 0) ∧ 0x0072#16 ≠ s.heldWord (.group 2 0))
    ∧ (0x3F20#16 ≠ s.heldWord (.group 3 6) ∧ 0x3F04#16 ≠ s.heldWord (.group 3 6) ∧ s.elementFieldOf 2 false = 4)
    ∧ (0x0505#16 ≠ s.heldWord (.group 3 6) ∧ 0x1F1E#16 ≠ s.heldWord (.group 3 6))
    ∧ (0x7F7F#16 ≠ s.heldWord (.group 2 7)) := by decide +kernel

/-- An accepted change of a group for each line of what it brings: a working port that is GOOD or FAILED, a new protocol and a changed
protect port, the revertive flag with STAY and with WAIT entered, and a newly named element FAULTED or away from 0. -/
theorem witness_groupChanges :
    let s := paired true
    let failed : State := { s with sup := { s.sup with record := put s.sup.record 7 { PortRecord.reset with grade := .failed } } }
    let stay := pairedWith (fun r => { r with config := put r.config 7 0x0505, entry := some .stay })
    let wait := pairedWith (fun r => { r with entry := some (.wait 0) })
    let moved (el : Element) : State := { s with driver := { s.driver with element := put s.driver.element 31 el } }
    (changes s (.group 2 2) 7 = true ∧ gradeCond s (put pairedConfig 2 7) 0 = .clear)
    ∧ (changes failed (.group 2 2) 7 = true ∧ gradeCond failed (put pairedConfig 2 7) 0 = .fail
        ∧ GroupConfig.holdOff (put pairedConfig 2 7) = 5)
    ∧ (changes s (.group 2 0) 0x0012 = true ∧ changes (sharedWith none id) (.group 3 0) 0x0032 = true
        ∧ changes (sharedWith none id) (.group 3 1) 63 = true)
    ∧ (changes stay (.group 2 7) 0x1505 = true ∧ GroupConfig.revertive stay.group[(2 : GroupId)].config = false
        ∧ leaves (.groupPolicyWrite 2 .word 0x1505) stay (fun t => t.group[(2 : GroupId)].top.level.val < 2))
    ∧ (changes wait (.group 2 7) 0x0505 = true ∧ GroupConfig.revertive wait.group[(2 : GroupId)].config = true
        ∧ leaves (.groupPolicyWrite 2 .word 0x0505) wait (fun t => t.group[(2 : GroupId)].top.level.val < 2))
    ∧ (changes (moved ⟨1, some 0, .faulted, none⟩) (.group 2 6) 0x3F1F = true
        ∧ ((moved ⟨1, some 0, .faulted, none⟩).element 31).state = .faulted
        ∧ leaves (.groupMemberWrite 2 5 .word 0x3F1F) (moved ⟨1, some 0, .faulted, none⟩) (fun t =>
            t.pointLatched (.group 2 5) && (t.element 31).state = .settled))
    ∧ (changes (moved ⟨1, some 1, .settled, none⟩) (.group 2 6) 0x3F1F = true
        ∧ ((moved ⟨1, some 1, .settled, none⟩).element 31).commanded ≠ 0) := by decide +kernel

theorem witness_screenTiming :
    let s := slot0 (pulsing .available .available)
    (4#16 ≠ s.heldWord (.slot 0 0) ∧ 5#16 ≠ s.heldWord (.slot 0 0)) ∧ 0x0000#16 ≠ s.heldWord (.slot 0 2)
    ∧ 0x0F3D#16 ≠ s.heldWord (.slot 0 2)
    ∧ (0x0003#16 ≠ s.heldWord (.source 0) ∧ 0x0165#16 ≠ s.heldWord (.source 0) ∧ 0x0185#16 ≠ s.heldWord (.source 0)
        ∧ 0x0015#16 ≠ s.heldWord (.source 0) ∧ 0x5C02#16 ≠ s.heldWord (.source 1) ∧ 0x6002#16 ≠ s.heldWord (.source 1)
        ∧ 0xFC02#16 ≠ s.heldWord (.source 1))
    ∧ (3#16 ≠ s.timing.stationKind ∧ 2#16 ≠ s.timing.stationKind ∧ 5#16 ≠ s.timing.stationKind
        ∧ 2#16 ≠ running.timing.stationKind)
    ∧ (changes s (.slot 0 0) 0 = true ∧ changes s (.slot 0 0) 4 = true ∧ changes s (.slot 3 0) 1 = true
        ∧ changes s (.slot 0 1) 10 = true ∧ changes s (.slot 0 2) 0x0F3D = true) := by decide +kernel

/-- Group 2 with element 4 as given, and line slot L0 with the record and the source word given. -/
def followed (el : Element) (source : Word) (r : Slot) : State :=
  let s := paired true
  { s with
    driver := { s.driver with element := put s.driver.element 4 el }
    timing := { s.timing with
      config := put s.timing.config 2 #v[1, 0x0078, 0x040A], sources := put s.timing.sources 0 source
      slot := put s.timing.slot 2 r } }

/-- A source of each kind: a port at both ends of its range and none, and a group whose selector is away from 0; then a decision at a
slot for each line of what it brings. -/
theorem witness_lineSources :
    let held : Slot := { pulsing .available .settling with settling := true, source := some 5, loss := none }
    let u (el : Element) (source : Word) (r : Slot) := followed el source r
    let at1 : Element := ⟨1, some 1, .settled, none⟩
    let away : Element := ⟨1, some 0, .travelling, some 400⟩
    SourceIs (u at1 0x0002 held) 0 (some 0) ∧ SourceIs (u at1 0x5C02 held) 0 (some 23) ∧ SourceIs (u at1 0xFC02 held) 0 none
    ∧ SourceIs (u at1 0x0045 held) 0 (some 6) ∧ SourceIs (u away 0x0049 held) 0 none
    ∧ (changes (u at1 0xFC00 held) (.source 0) 0x1402 = true ∧ changes (u at1 0xFC00 held) (.source 0) 0x1802 = true)
    ∧ (held.settling = true ∧ held.settle = none ∧ held.source = some 5)
    ∧ (u away 0x0049 held).sourceSelector 0 = some 4 ∧ ShownAs (u away 0x0049 held) 4 .travelling
    ∧ slotPriority (u at1 0x0045 held).timing.config[(2 : SlotId)] ≠ 0
    ∧ slotPriority running.timing.config[(3 : SlotId)] = 0 :=
  ⟨.inr (.inl ⟨by decide +kernel, .inl ⟨0, by decide +kernel⟩⟩), .inr (.inl ⟨by decide +kernel, .inl ⟨23, by decide +kernel⟩⟩),
    .inr (.inl ⟨by decide +kernel, .inr (by decide +kernel)⟩),
    .inr (.inr ⟨2, 0, _, by decide +kernel, by decide +kernel, by decide +kernel, rfl,
      .inr ⟨by decide +kernel, by decide +kernel, by decide +kernel,
        .inr ⟨4, 1, by decide +kernel, by unfold SettledAt; decide +kernel, .inl (by decide +kernel)⟩⟩⟩),
    .inr (.inr ⟨2, 1, _, by decide +kernel, by decide +kernel, by decide +kernel, rfl, .inl (by decide +kernel)⟩),
    by decide +kernel, by decide +kernel, by decide +kernel, by unfold ShownAs; decide +kernel, by decide +kernel, by decide +kernel⟩

theorem witness_operateAwaits :
    operateWord (.force 2 1 0) = some 0x0422 ∧ operateWord (.restart 0 0 0) = some 0x000B
    ∧ operateWord (.bar 63 7 0) = some 0x1FF1 ∧ operateWord (.manual 2 1 0) = some 0x0423
    ∧ operateWord (.forceRef 3 0 0) = some 0x0035 ∧ operateWord (.maint 23 0 0) = some 0x0177
    ∧ running.path.op = .running ∧ running.mailbox.state = .ready := by decide +kernel

/-- Every way to fail the form check: an unknown code, a spare bit, a field that must be 0. -/
theorem witness_formRefused :
    badForm (.unknownCommandWrite 0xFFFF) = some (15, 63, 0xFFFF) ∧ badForm (.unknownCommandWrite 0) = some (0, 0, 0)
    ∧ badForm (.bar 0 0 1) = some (1, 0, 0x2001) ∧ badForm (.clearRef 1 0 0) = some (6, 0, 0x0016)
    ∧ badForm (.maint 0 7 0) = some (7, 0, 0x1C07) ∧ running.path.op = .running ∧ running.mailbox.state = .ready := by
  decide +kernel

/-- CLEAR refused and done, and CLEAR-REF with a slot forced away from the one it selects afterwards. -/
theorem witness_clearCommands :
    let s := slot0 (pulsing .available .available)
    let held := { s with timing := { s.timing with forced := some 1, gen := .freeRun } }
    running.path.op = .running ∧ running.path.grant = none ∧ running.mailbox.state = .ready ∧ 12 ≤ (12 : BitVec 6).toNat
    ∧ (1 : BitVec 3) ≠ 0
    ∧ (2 : GroupId).val = (2 : BitVec 6).toNat ∧ (paired false).group[(2 : GroupId)].evaluated = false
    ∧ (paired true).group[(2 : GroupId)].evaluated = true ∧ (paired true).path.op = .running ∧ (paired true).path.grant = none
    ∧ (paired true).mailbox.state = .ready
    ∧ (held.path.op = .running ∧ held.path.grant = none ∧ held.mailbox.state = .ready ∧ held.timing.forced ≠ none
      ∧ held.selection = none
      ∧ leaves (.clearRef 0 0 0) held (fun t => t.timing.selected = some 0 && t.timing.gen = .acquiring) = true) := by
  decide +kernel

theorem witness_releaseCommand :
    equipped.path.op = .running ∧ equipped.mailbox.state = .ready ∧ 24 ≤ (24 : BitVec 6).toNat
    ∧ (23 : Port).val = (23 : BitVec 6).toNat ∧ equipped.sup.record[(5 : Port)].maintenance = false
    ∧ (record5 (fun r => { r with maintenance := true })).sup.record[(5 : Port)].maintenance = true := by decide +kernel

/-- RESUME in each poster state: BUSY with and without a changed ring, DISABLED with a usable and an unusable ring. -/
theorem witness_resumeCommand :
    let busy := { postingAt .readWord0 with poster := { (postingAt .readWord0).poster with state := .busy } }
    let changed := { busy with poster := { busy.poster with ringChange := true } }
    let bad := withPoster { running with poster := { running.poster with ringBase := 0 } } .disabled
    (running.path.op = .running ∧ running.mailbox.state = .ready ∧ running.poster.QueueSound ∧ running.poster.state = .idle)
    ∧ (({ postingAt .readWord0 with path := running.path } : State).poster.QueueSound
      ∧ (postingAt .readWord0).poster.state = .posting)
    ∧ (busy.poster.QueueSound ∧ busy.poster.state = .busy ∧ busy.poster.ringChange = false)
    ∧ (changed.poster.QueueSound ∧ changed.poster.ringChange = true ∧ changed.ringOk = true)
    ∧ (bad.poster.QueueSound ∧ bad.poster.state = .disabled ∧ bad.ringOk = false) := by
  unfold Poster.QueueSound
  decide +kernel

theorem witness_audibleCutOff :
    running.path.op = .running ∧ running.mailbox.state = .ready
    ∧ ({ running with alarm := { running.alarm with mode := .follow } } : State).alarm.mode = .follow
    ∧ running.alarm.mode ≠ .follow := by decide +kernel

/-- A confirmed FORCE of a group out of range, of each refusal of R84, and one that is done. -/
theorem witness_confirmStores :
    let s := awaiting (paired true) 0x0422
    s.path.op = .running ∧ s.path.grant = none ∧ s.mailbox.state = .awaitConfirm ∧ s.mailbox.pending = some 0x0422
    ∧ (∀ g : GroupId, GroupConfig.count s.group[g].config ≤ 4)
    ∧ formCheck 0x0422 = some .force ∧ formCheck 0x0021 = some .bar ∧ formCheck 0x0423 = some .manual
    ∧ (formCheck 0x04C2 = some .force ∧ 12 ≤ commandObject 0x04C2)
    ∧ ((2 : GroupId).val = commandObject 0x0422 ∧ commandChannel 0x0422 = 1)
    ∧ answer84 s.group[(2 : GroupId)] .force 1 = none
    ∧ answer84 s.group[(2 : GroupId)] .force 2 = some .refusedInvalid
    ∧ answer84 s.group[(2 : GroupId)] .bar 1 = some .refusedInvalid
    ∧ answer84 (paired false).group[(2 : GroupId)] .force 1 = some .refusedState
    ∧ answer84 s.group[(0 : GroupId)] .bar 0 = some .refusedState
    ∧ answer84 (pairedWith (fun r => { r with pfail := true })).group[(2 : GroupId)] .force 1 = some .refusedLevel
    ∧ answer84 (pairedWith (fun r => { r with stored := some .bar })).group[(2 : GroupId)] .force 1 = some .refusedLevel
    ∧ answer84 (pairedWith (fun r => { r with stored := some (.force 0) })).group[(2 : GroupId)] .force 1 = none := by
  decide +kernel

theorem witness_confirmMaintAndForceRef :
    let s := awaiting (paired true) 0x0057
    let moved := { paired true with driver := { (paired true).driver with
      element := put (paired true).driver.element 4 ⟨1, some 1, .settled, none⟩ } }
    let timed := awaiting (slot0 (pulsing .available .available)) 0x0005
    s.path.op = .running ∧ s.mailbox.state = .awaitConfirm ∧ s.mailbox.pending = some 0x0057 ∧ formCheck 0x0057 = some .maint
    ∧ (24 ≤ commandObject 0x0187 ∧ formCheck 0x0187 = some .maint) ∧ (5 : Port).val = commandObject 0x0057
    ∧ s.sup.kind 5 ≠ .none ∧ s.sup.kind 8 = .none
    ∧ (GroupConfig.protect moved.group[(2 : GroupId)].config = some 6
        ∧ GroupConfig.selector moved.group[(2 : GroupId)].config = some 4 ∧ (moved.element 4).commanded ≠ 0)
    ∧ (timed.mailbox.pending = some 0x0005 ∧ formCheck 0x0005 = some .forceRef ∧ timed.timing.config[(0 : SlotId)][0].toNat % 8 ≠ 0)
    ∧ timed.timing.config[(1 : SlotId)][0].toNat % 8 = 0 ∧ (formCheck 0x0045 = some .forceRef ∧ 4 ≤ commandObject 0x0045) := by
  decide +kernel

theorem witness_confirmRestarts :
    let s := awaiting (trackedIn .locked) 11
    s.path.op = .running ∧ s.mailbox.state = .awaitConfirm ∧ s.mailbox.pending = some 11 ∧ s.timing.gen = .locked
    ∧ (awaiting running 11).timing.gen = .freeRun := by decide +kernel

theorem witness_mailboxErrors :
    (awaiting running 11).path.op = .running ∧ (awaiting running 11).mailbox.state = .awaitConfirm
    ∧ (awaiting running 11).mailbox.pending = some 11 ∧ (10 : Word) ≠ 11
    ∧ commandWriteOf (.unknownCommandWrite 0xFFFF) = some (15, 63, 0xFFFF) ∧ commandWriteOf (.aco 0 0 0) = some (10, 0, 10)
    ∧ (withMailbox running .blocked).mailbox.state = .blocked ∧ (withMailbox running .executing).mailbox.state = .executing
    ∧ running.mailbox.state = .ready ∧ running.path.op = .running := by decide +kernel

theorem witness_mailboxByteWrites :
    ((0x1234 : Word).extractLsb' 0 8 : Byte) = 0x34 ∧ ((0x1234 : Word).extractLsb' 8 8 : Byte) = 0x12
    ∧ (awaiting running 11).mailbox.state = .awaitConfirm ∧ running.mailbox.state = .ready
    ∧ (withMailbox running .blocked).mailbox.state = .blocked ∧ (withMailbox running .executing).mailbox.state = .executing
    ∧ running.path.op = .running := by decide +kernel

theorem witness_windowExpires :
    (awaiting running 11).mailbox.state = .awaitConfirm ∧ (awaiting running 11).mailbox.window = some 4000 := by decide +kernel

theorem witness_statusWrites :
    running.path.op = .running ∧ Lanes.high ≠ .low ∧ 32768 ≤ (0x8000 : Word).toNat ∧ (0x7FFF : Word).toNat < 32768
    ∧ (withMailbox running .blocked).mailbox.state = .blocked ∧ running.mailbox.state ≠ .blocked := by decide +kernel

theorem witness_shelfTime : running.path.op = .running := by decide

theorem witness_changeWordRead :
    running.path.op = .running ∧ running.pointRaised (.part 3) ≠ true ∧ running.pointRaised (.port 0 0) ≠ true
    ∧ classify running.base 0x00410 = some (.change 0) ∧ classify running.base 0x0041F = some (.change 15) := by decide +kernel

theorem witness_identificationRead :
    running.path.op = .running
    ∧ ({ running with alarm := { running.alarm with eventPosted := true } } : State).alarm.topCause = 4
    ∧ running.alarm.topCause = 0 := by decide +kernel

theorem witness_scanSlots :
    (running.path.op = .running ∧ running.scan.round = none) ∧ State.reset.path.op ≠ .running
    ∧ ((inRound equipped 0 .waiting []).scan.round = some ⟨0, .waiting, []⟩ ∧ equipped.sup.kind 0 = .none)
    ∧ ((inRound equipped 5 .waiting []).scan.round = some ⟨5, .waiting, []⟩ ∧ equipped.sup.kind 5 ≠ .none)
    ∧ (inRound equipped 5 .polled []).scan.round = some ⟨5, .polled, []⟩
    ∧ (23 : Port).val = (22 : Port).val + 1
    ∧ (inRound equipped 22 (.answered aGood) []).scan.round = some ⟨22, .answered aGood, []⟩ := by decide +kernel

/-- A faulted round held at a run of 25 and processed at 26, a round of one silent port, an answered round and an empty one. -/
theorem witness_roundClassified :
    let two : List (Port × Option Answer) := [(5, none), (6, none)]
    ((inRound equipped 23 .unscanned two).scan.round = some ⟨23, .unscanned, two⟩
      ∧ 2 ≤ two.length ∧ ∀ r ∈ two, r.2 = none)
    ∧ (min 26 (24 + 1) = 25 ∧ min 26 (25 + 1) = 26 ∧ min 26 (26 + 1) = 26)
    ∧ ((inRound equipped 23 .polled []).scan.round = some ⟨23, .polled, []⟩
      ∧ ¬ 2 ≤ ([] ++ [((23 : Port), (none : Option Answer))]).length)
    ∧ (inRound equipped 23 (.answered aGood) two).scan.round = some ⟨23, .answered aGood, two⟩
    ∧ (inRound equipped 23 .unscanned []).scan.round = some ⟨23, .unscanned, []⟩
    ∧ equipped.sup.rounds = [] ∧ equipped.scan.processed = 0 := by decide +kernel

/-- A result for a port of each kind and presence, with each mix of capabilities. -/
theorem witness_portUpdates :
    (resulted equipped 5 (some aGood)).sup.rounds = [⟨1, [(5, some aGood), (7, none)]⟩]
    ∧ equipped.sup.kind 0 = .none ∧ equipped.sup.kind 5 = .power ∧ equipped.sup.kind 7 = .lolOnly
    ∧ equipped.sup.record[(5 : Port)].presence = .present
    ∧ (record5 (fun r => { r with presence := .missedOnce })).sup.record[(5 : Port)].presence = .missedOnce
    ∧ (record5 (fun r => { r with presence := .absent })).sup.record[(5 : Port)].presence = .absent
    ∧ equipped.sup.record[(7 : Port)].power = []
    ∧ aGood.power = some 1234 ∧ aGood.overhead ≠ none
    ∧ Calibration.valid equipped.sup.calibration[PortConfig.calibrationSet equipped.sup.config[(5 : Port)]] = true
    ∧ Calibration.valid equipped.sup.calibration[PortConfig.calibrationSet equipped.sup.config[(7 : Port)]] = false
    ∧ (⟨true, none, none⟩ : Answer).overhead = none := by decide +kernel

/-- The tie of code 4095, quotient 369.5, whose nearest integer away from zero is 370; and both clamps. -/
theorem witness_powerConversion :
    Calibration.valid set2 = true
    ∧ ((4095 : BitVec 12).toNat - (set2[0].toNat : Int)) * (set2[3].toInt - set2[1].toInt) = 1182400
    ∧ (set2[2].toNat : Int) - set2[0].toNat = 3200
    ∧ 2 * |(370 : Int) * 3200 - 1182400| = 3200 ∧ |(1182400 : Int)| < |(370 : Int) * 3200|
    ∧ -500 ≤ set2[1].toInt + 370 ∧ set2[1].toInt + 370 ≤ 100
    ∧ (Calibration.valid #v[2000, signedWord (-300), 2100, signedWord (-200)] = true
        ∧ Calibration.convert #v[2000, signedWord (-300), 2100, signedWord (-200)] 0 = -500
        ∧ Calibration.convert #v[2000, signedWord (-300), 2100, signedWord (-200)] 4095 = 100)
    ∧ set2[0].toNat ≤ 4095 ∧ set2[2].toNat ≤ 4095 ∧ -500 ≤ set2[1].toInt ∧ set2[3].toInt ≤ 100 := by decide +kernel

/-- A record of each previous grade at its clearing bound (thresholds -320, -290, -80 and H 10). -/
theorem witness_gradeDecision :
    let cfg : Vector Word 8 := #v[2, 0, signedWord (-320), signedWord (-290), signedWord (-80), 10, 2, 5]
    let r (g : Grade) (v : Int) (l : List Bool) : PortRecord :=
      { PortRecord.reset with grade := g, power := [v], lol := l }
    (r .good (-320) [false]).presence = .present ∧ lolMajority [true] = true ∧ lolMajority [false] = false
    ∧ smoothedPower (r .good (-320) []).power = some (-320) ∧ smoothedPower ([] : List Int) = none
    ∧ gradeDecision cfg (r .good (-320) [false]) = .degraded ∧ gradeDecision cfg (r .good (-321) [false]) = .failed
    ∧ gradeDecision cfg (r .failed (-310) [false]) = .degraded ∧ gradeDecision cfg (r .failed (-311) [false]) = .failed
    ∧ gradeDecision cfg (r .degraded (-280) [false]) = .good ∧ gradeDecision cfg (r .overload (-89) [false]) = .overload
    ∧ gradeDecision cfg (r .overload (-90) [false]) = .good := by decide +kernel

/-- A bridge word received on a SHARED group's protect port: discarded with the port FAILED or no OVERHEAD, the second in a row, and
the third, valid with a MANUAL stored and invalid by a spare bit. -/
theorem witness_receivedWords :
    let s := sharedWith none (fun r => { r with candidate := some 0x0115, run := 2, stored := some (.manual 1) })
    let with6 (r : PortRecord) : State := { s with sup := { s.sup with record := put s.sup.record 6 r } }
    (sharedWith none id).TableSound
    ∧ (GroupConfig.kind s.group[(3 : GroupId)].config = .shared ∧ GroupConfig.protect s.group[(3 : GroupId)].config = some 6)
    ∧ (with6 { PortRecord.reset with grade := .failed }).sup.record[(6 : Port)].grade = .failed
    ∧ (with6 { PortRecord.reset with caps := some ⟨true, false⟩ }).sup.record[(6 : Port)].caps = some ⟨true, false⟩
    ∧ (s.sup.record[(6 : Port)].grade ≠ .failed ∧ s.sup.record[(6 : Port)].caps = none)
    ∧ (bridgeValid 2 0x0115 = true ∧ bridgeValid 2 0x0008 = false ∧ 2 < (0x0115 : Word).toNat % 8)
    ∧ (∀ g : GroupId, GroupConfig.protect running.group[g].config ≠ some 6) :=
  ⟨shared_table, by decide +kernel, by decide +kernel, by decide +kernel, by decide +kernel, by decide +kernel, by decide +kernel⟩

/-- A group not evaluated, an incomplete one, a PAIRED one and a SHARED one whose far end wins. -/
theorem witness_groupUpdates :
    let far := (sharedWith (some 0x0115) id).group[(3 : GroupId)]
    let adopted := { paired false with
      group := put (paired false).group 2 { (paired false).group[(2 : GroupId)] with entry := some (.wait 0) } }
    (paired false).group[(2 : GroupId)].evaluated = false
    ∧ (adopted.group[(2 : GroupId)].evaluated = false
        ∧ (adopted.groupUpdate true 2).group[(2 : GroupId)].entry = some (.wait 0))
    ∧ (equipped.group[(0 : GroupId)].localRequests = [] ∧ GroupConfig.complete equipped.group[(0 : GroupId)].config = false)
    ∧ ((paired true).group[(2 : GroupId)].evaluated = true
        ∧ GroupConfig.complete (paired true).group[(2 : GroupId)].config = true
        ∧ GroupConfig.kind (paired true).group[(2 : GroupId)].config = .paired)
    ∧ (pairedWith (fun r => { r with stored := some .bar })).group[(2 : GroupId)].localRequests ≠ []
    ∧ (far.evaluated = true ∧ GroupConfig.complete far.config = true ∧ GroupConfig.kind far.config = .shared
        ∧ far.accepted = some 0x0115 ∧ bridgeRequest 0x0115 = ⟨5, 1⟩ ∧ bridgeBridged 0x0115 = 1
        ∧ GroupConfig.selector far.config = some 8) := by decide +kernel

/-- Group 2 with the records of its working port 5 and its protect port 6 given, and its selector commanded to 1. -/
def requesting (working protect : PortRecord) (f : Group → Group) : State :=
  let s := pairedWith f
  { s with
    sup := { s.sup with record := put (put s.sup.record 5 working) 6 protect }
    driver := { s.driver with element := put s.driver.element 4 ⟨1, some 1, .settled, none⟩ } }

/-- The record of group 2 after an update. -/
def updated (s : State) : Group := (s.groupUpdate false 2).group[(2 : GroupId)]

/-- Each line of what an update makes of a group's requests: a grade condition that is new, whose timer runs, that eases, that clears;
trace action; PFAIL with a stored MANUAL cancelled and its event; the entry removed, kept, made and not made. -/
theorem witness_groupRequests :
    let good := PortRecord.reset
    let failed := { good with grade := .failed, cause := some .light }
    let degraded := { good with grade := .degraded }
    let mismatch := { good with trace := .mismatch }
    let chan (c : Channel) (r : Group) : Group := { r with channel := put r.channel 0 c }
    let was (r : Group) : Group := { r with winner := ⟨4, 1⟩, source := .local }
    let stays (r : Group) : Group := { was r with config := put r.config 7 0x0505 }
    (updated (requesting failed good id)).channel[(0 : ChannelIx)] = ⟨.clear, some 4000, .clear⟩
    ∧ (updated (requesting failed good (fun r => { r with config := put r.config 7 0x1500 }))).channel[(0 : ChannelIx)] = ⟨.fail, none, .fail⟩
    ∧ (updated (requesting failed good (chan ⟨.clear, some 800, .clear⟩))).channel[(0 : ChannelIx)] = ⟨.clear, some 800, .clear⟩
    ∧ (updated (requesting degraded good (fun r => chan ⟨.fail, none, .fail⟩ { r with config := put r.config 7 0x3505 }))).channel[(0 : ChannelIx)]
        = ⟨.degrade, none, .degrade⟩
    ∧ (updated (requesting good good (chan ⟨.fail, none, .fail⟩))).channel[(0 : ChannelIx)] = ⟨.clear, none, .clear⟩
    ∧ (let s := requesting mismatch good id
       (updated { s with sup := { s.sup with config := put s.sup.config 5 (put s.sup.config[(5 : Port)] 0 0x0012) } }).channel[(0 : ChannelIx)].request
         = .fail)
    ∧ (let s := requesting good failed (fun r => { r with stored := some (.manual 0) })
       (updated s).pfail = true ∧ (updated s).stored = none ∧ (updated s).top = ⟨6, 0⟩
       ∧ (⟨2, .command 3 .refusedLevel, s.poster.shelfTime⟩ : Event) ∈ (s.groupUpdate false 2).poster.queue)
    ∧ (updated (requesting good failed (fun r => { r with entry := some (.wait 0), restoreWait := some 9600 }))).entry = none
    ∧ (updated (requesting good good (fun r => { r with entry := some (.wait 0), restoreWait := some 9600 }))).restoreWait = some 9600
    ∧ (updated (requesting good good was)).entry = some (.wait 0)
    ∧ (updated (requesting good good was)).restoreWait = some 2400000
    ∧ (updated (requesting good good stays)).entry = some .stay
    ∧ (updated (requesting good good (fun r => { was r with source := .farEnd }))).entry = none := by decide +kernel

/-- The bridge element follows the winner's channel and the selector the far end's bridged channel; the confirmation timer starts,
runs on, is restarted for another channel and stops. -/
theorem witness_groupElements :
    let far (w : Word) (f : Group → Group) : State := (sharedWith (some w) f).groupUpdate false 3
    ((far 0x0015 id).element 9).commanded = 1 ∧ ((far 0x0015 id).element 8).commanded = 0
    ∧ ((far 0x0115 id).element 9).commanded = 1 ∧ ((far 0x0115 id).element 8).commanded = 1
    ∧ (far 0x0015 id).group[(3 : GroupId)].confirmation = some (1, 1600)
    ∧ (far 0x0015 (fun r => { r with confirmation := some (1, 7) })).group[(3 : GroupId)].confirmation = some (1, 7)
    ∧ (far 0x0015 (fun r => { r with confirmation := some (2, 7) })).group[(3 : GroupId)].confirmation = some (1, 1600)
    ∧ (far 0x0115 (fun r => { r with confirmation := some (1, 7), timeout := true })).group[(3 : GroupId)].confirmation = none
    ∧ (far 0x0015 (fun r => { r with timeout := true })).group[(3 : GroupId)].timeout = true := by decide +kernel

/-- R90, R121: the report that an update's own command makes on the selector is an input after that update, so PROTOCOL FAILURE
(kind 12) is handed over before ON PROTECT (kind 9). -/
theorem test_own_report_last :
    let s := { sharedWith (some 0x0115) (fun r => { r with invalidWord := true }) with
      alarm := { running.alarm with profile := Vector.replicate 22 0x0033 } }
    let s := s.setElement 8 ⟨2, some 1, .travelling, some 400⟩
    ((s.groupUpdate false 3).poster.queue.filterMap (fun e => match e.detail with | .alarm k _ _ _ => some k | _ => none))
      = [12, 9] := by decide +kernel

/-- A report on the selector of a group in a sound table, settled and travelling, as the update leaves the element. -/
theorem witness_reports :
    let s := paired true
    s.TableSound ∧ s.driver.on = true ∧ GroupConfig.selector s.group[(2 : GroupId)].config = some 4
    ∧ (let back : Element := ⟨0, none, .travelling, some 400⟩
       back.state ≠ (s.element 4).state ∧ ((s.setElement 4 back).takeReport 4).element 4 = back)
    ∧ (let away := s.setElement 4 ⟨0, none, .travelling, some 400⟩
       let home : Element := ⟨0, some 0, .settled, none⟩
       home.state ≠ (away.element 4).state ∧ ((away.setElement 4 home).takeReport 4).element 4 = home) :=
  ⟨⟨by decide +kernel, by decide +kernel, by decide +kernel, by decide +kernel, by decide +kernel, by decide +kernel,
    by decide +kernel⟩, by decide +kernel, by decide +kernel, by decide +kernel, by decide +kernel⟩

/-- Points that follow a port's and a group's record before an update. -/
theorem witness_points : PortPoints (resulted (paired true) 5 (some aGood)) 5 ∧ GroupPoints (resulted (paired true) 5 (some aGood)) 2 := by
  unfold PortPoints GroupPoints
  decide +kernel

theorem witness_groupTimers :
    (pairedWith (fun r => { r with channel := put r.channel 0 ⟨.clear, some 800, .clear⟩ })).group[(2 : GroupId)].channel[(0 : ChannelIx)].holdOff
        = some 800
    ∧ GroupConfig.working (paired true).group[(2 : GroupId)].config 0 = some 5
    ∧ GroupConfig.working (paired true).group[(2 : GroupId)].config 1 = none
    ∧ ((pairedWith (fun r => { r with entry := some (.wait 0), restoreWait := some 9600, winner := ⟨1, 1⟩ })).group[(2 : GroupId)].restoreWait
        = some 9600)
    ∧ (sharedWith none (fun r => { r with confirmation := some (2, 1600) })).group[(3 : GroupId)].confirmation = some (2, 1600) := by
  decide +kernel

/-- Every case of R118 to R120: on and off, settling, passing on, faulting and dropping the latch; and of the drive output (R115),
whose sound driver is that of the witness for DriveKept. -/
theorem witness_switchEvents :
    let moving : Element := ⟨1, none, .travelling, some 400⟩
    (∃ p : Position, (16 : BitVec 5).toNat = 2 ^ p.val) ∧ (∀ p : Position, (3 : BitVec 5).toNat ≠ 2 ^ p.val)
    ∧ (sensedOf 1 = ((running.element 4).sensed) ∧ running.driver.on = true) ∧ State.reset.driver.on = false
    ∧ ((element4 moving).element 4 = moving ∧ sensedOf 4 ≠ moving.sensed ∧ sensedOf 4 ≠ some moving.commanded
        ∧ moving.state ≠ .settled)
    ∧ sensedOf 2 = some moving.commanded
    ∧ (sensedOf 0 ≠ (running.element 4).sensed ∧ sensedOf 0 ≠ some (running.element 4).commanded
        ∧ (running.element 4).state = .settled)
    ∧ ((element4 moving).driver.on = true ∧ (element4 moving).driveOutput 4 = some 1
        ∧ (element4 { moving with state := .faulted, travel := none }).driveOutput 4 = some 1
        ∧ running.driveOutput 4 = none ∧ State.reset.driveOutput 4 = none)
    ∧ (moving.state = .travelling ∧ moving.travel = some 400)
    ∧ (∀ g : GroupId, GroupConfig.selector running.group[g].config ≠ some 4
        ∧ GroupConfig.bridge running.group[g].config ≠ some 4) := by decide +kernel

theorem witness_slotTimers :
    let s := slot0 (pulsing .lost .lost)
    let l := line0 { pulsing .qualifying .settling with settling := true, settle := some 4000, source := some 5, loss := none }
    (State.reset.path.op ≠ .running ∧ slotPriority running.timing.config[(1 : SlotId)] = 0
      ∧ l.timing.slot[(2 : SlotId)].settling = true)
    ∧ (s.path.op = .running ∧ slotPriority s.timing.config[(0 : SlotId)] ≠ 0 ∧ s.timing.slot[(0 : SlotId)].settling = false
        ∧ bits s.timing.stationKind 0 2 ≠ 0)
    ∧ s.timing.slot[(0 : SlotId)].loss = some 4
    ∧ ((slot0 { pulsing .qualifying .qualifying with qualify := some 80000 }).timing.slot[(0 : SlotId)].qualify = some 80000)
    ∧ (2 : SlotId).val = (0 : LineId).val + 2 ∧ l.timing.slot[(2 : SlotId)].settle = some 4000 := by decide +kernel

/-- The timing unit after a step that begins with the given generator, selection and history. -/
def stepped (s : State) (g : GenState) (selected : Option SlotId) (history : List Int) : Timing :=
  (State.retime { s with timing := { s.timing with
    gen := g, selected := selected, history := history, noted := some .lockedFine, offset := 3, lockCount := 2 } }).timing

/-- Each line of how the generator follows (Shelf Timing, "learning, holding and running dry" and "a line reference riding a protection
switch"): selected from FREE-RUN, another slot selected, BRIDGING entered, kept and left, HOLDOVER at the mean of what is left,
FREE-RUN with nothing left, and no slot to take. -/
theorem witness_follows :
    let s := slot0 (pulsing .available .available)
    let lost := slot0 (pulsing .lost .lost)
    let held := line0 { pulsing .available .settling with settling := true, source := some 5, loss := none }
    (let t := stepped s .freeRun none []; t.selected = some 0 ∧ t.gen = .acquiring ∧ t.lockCount = 0 ∧ t.offset = 3)
    ∧ (let t := stepped s .locked (some 1) [14]; t.selected = some 0 ∧ t.gen = .acquiring ∧ t.offset = 3 ∧ t.history = [14])
    ∧ (let t := stepped s .locked (some 0) [14]; t.selected = some 0 ∧ t.gen = .locked ∧ t.lockCount = 2)
    ∧ (let t := stepped held .lockedFine (some 2) [14]
       t.selected = some 2 ∧ t.slot[(2 : SlotId)].state = .settling ∧ t.gen = .bridging ∧ t.noted = some .lockedFine ∧ t.offset = 3)
    ∧ (let t := stepped held .bridging (some 2) [14]; t.gen = .bridging ∧ t.offset = 3)
    ∧ (let t := stepped s .bridging (some 0) [14]; t.gen = .lockedFine ∧ t.lockCount = 0)
    ∧ (let t := stepped lost .lockedFine (some 0) [12, 15, 14]; t.selected = none ∧ t.gen = .holdover ∧ t.offset = 14 ∧ t.history = [15, 14])
    ∧ (let t := stepped lost .lockedFine (some 0) [14]; t.gen = .freeRun ∧ t.offset = 0 ∧ t.history = [])
    ∧ (let t := stepped lost .holdover none [14]; t.selected = none ∧ t.gen = .holdover ∧ t.offset = 3) := by decide +kernel

/-- A line slot in each line of R146's table and under each report on its selector; the 999th pulse of a gate and the one before it
that starts none. -/
theorem witness_lineStates :
    let r : Slot := { pulsing .available .available with source := some 5 }
    let settled : Element := ⟨0, some 0, .settled, none⟩
    let away (st : ElementState) : State := followed ⟨1, some 0, st, some 400⟩ 0x0045 r
    let with5 (f : PortRecord → PortRecord) : State :=
      let s := followed settled 0x0045 r
      { s with sup := { s.sup with record := put s.sup.record 5 (f s.sup.record[(5 : Port)]) } }
    ((away .faulted).sourceSelector 0 = some 4 ∧ ((away .faulted).element 4).state = .faulted
      ∧ (away .faulted).driver.on = true)
    ∧ (away .travelling).sourceSelector 0 = some 4 ∧ ((away .travelling).element 4).state = .travelling
    ∧ (followed settled 0x0045 r).sourceSelector 0 = some 4 ∧ ((followed settled 0x0045 r).element 4).state = .settled
    ∧ (followed settled 0x0045 { r with settling := true }).timing.slot[(2 : SlotId)].settling = true
    ∧ (with5 (fun r => { r with grade := .failed })).sup.record[(5 : Port)].grade = .failed
    ∧ (with5 (fun r => { r with maintenance := true })).sup.record[(5 : Port)].maintenance = true
    ∧ ((with5 id).sup.record[(5 : Port)].grade ≠ .failed ∧ (with5 id).sup.kind 5 ≠ .none)
    ∧ (slot0 { pulsing .available .available with gate := some 998 }).takesPulses 0 = true
    ∧ (slot0 { pulsing .available .available with gate := none }).takesPulses 0 = true := by decide +kernel

/-- LOCKED-FINE on S0 with a history. -/
def timed : State :=
  let s := trackedIn .lockedFine
  { s with
    pending := [.gateComplete 0 2559990]
    timing := { s.timing with offset := 14, history := [15, 14], partialCount := 479, partialSum := 6706 } }

theorem timed_sound : timed.timing.Sound where
  tracking _ := ⟨0, by decide +kernel, by decide +kernel⟩
  bridging h := absurd h (by decide +kernel)
  idle h := absurd h (by decide +kernel)
  freeRun h := absurd h (by decide +kernel)
  holdover h := absurd h (by decide +kernel)
  offset := by unfold inRange; decide +kernel
  slots := by unfold inRange; decide +kernel
  qualify := by decide +kernel
  gates i n h := by
    have all : ∀ i : SlotId, timed.timing.slot[i].gate = if i = 0 then some 999 else none := by decide +kernel
    rw [all] at h
    split at h
    · injection h with h
      omega
    · exact nomatch h
  history := by unfold inRange; decide +kernel
  interval := by decide +kernel
  learning h := absurd h (by decide +kernel)

/-- The 1,000th pulse of a gate on S0, and the counts of R148's table: the quotient, and the clamp at the last count; a gate just
begun, which an overrun may meet. -/
theorem witness_gates :
    let s := timed
    s.takesPulses 0 = true ∧ s.timing.slot[(0 : SlotId)].gate = some 999
    ∧ 2 * |(39 : Int) * (2559990 : Nat) - (2560000 - (2559990 : Nat)) * 10000000| ≤ (2559990 : Nat)
    ∧ 2 * |(-5000000 : Int) * (5120000 : Nat) - (2560000 - (5120000 : Nat)) * 10000000| = 0
    ∧ (5120000 : Nat) ≤ 5120000 ∧ max (-9999) (min 9999 (-5000000 : Int)) = -9999
    ∧ s.timing.gen.tracking = true ∧ s.timing.selected = some 0
    ∧ leaves (.gateComplete 0 2559990) s (fun t => t.timing.selected = some 0 && t.timing.slot[(0 : SlotId)].state = .available
        && t.timing.offset = 19 && t.timing.slot[(0 : SlotId)].gate = some 0) = true
    ∧ (slot0 { pulsing .qualifying .qualifying with gate := some 0, qualify := some 80000 }).takesPulses 0 = true := by
  decide +kernel

/-- A tracking generator in each state at the edges of R154's table. -/
theorem witness_steering :
    GenState.tracking .acquiring = true ∧ GenState.tracking .locked = true ∧ GenState.tracking .lockedFine = true
    ∧ (let t := { Timing.reset with gen := .acquiring, lockCount := 3 }
       (t.steer 25).gen = .locked ∧ (t.steer 26).gen = .acquiring ∧ (t.steer 26).lockCount = 0)
    ∧ (let t := { Timing.reset with gen := .locked, lockCount := 15 }
       (t.steer 7).gen = .lockedFine ∧ (t.steer 8).gen = .locked ∧ (t.steer 8).lockCount = 0)
    ∧ (let t := { Timing.reset with gen := .lockedFine, lockCount := 3, partialCount := 479 }
       (t.steer 7).gen = .lockedFine ∧ (t.steer 8).gen = .locked ∧ (t.steer 7).partialCount = 0
       ∧ (t.steer 26).gen = .acquiring) := by decide +kernel

theorem witness_eventsAndResults :
    running.poster.queue.length < 16 ∧ 16 ≤ (fullQueue running).poster.queue.length ∧ running.poster.QueueSound := by
  unfold Poster.QueueSound
  decide +kernel

theorem witness_pointTransitions :
    running.pointRaised (.port 23 6) = false ∧ running.pointRaised (.part 3) ≠ true ∧ (Point.part 3) ≠ .part 2
    ∧ (running.profileOf (.part 3)).getLsbD 4 = false
    ∧ (({ running with alarm := { running.alarm with profile := put running.alarm.profile 21 0x0033 } } : State).profileOf (.part 3)).getLsbD 4
        = true := by decide +kernel

/-- Each cycle of a posting: OWN clear, OWN set, the three words, and word 0 with and without WRAP and at the ring's end. -/
theorem witness_descriptorCycles :
    let s := postingAt .readWord0
    let w := postingAt .writeWord0
    let wrap := { w with poster := { w.poster with wrapKept := true } }
    let last := { w with poster := { w.poster with index := 63 } }
    s.path.op = .running ∧ s.path.grant = some (.poster false) ∧ s.path.held = [] ∧ s.poster.state = .posting
    ∧ s.poster.queue = anEvent :: [] ∧ s.poster.QueueSound
    ∧ (∀ granted overflow, (postingWith .writeWord0 16 granted overflow).path.grant = some (.poster granted)
        ∧ (postingWith .writeWord0 16 granted overflow).poster.overflow = overflow)
    ∧ s.poster.step = .readWord0 ∧ (s.memWord 0x40000).getLsbD 0 = false
    ∧ ((s.memWrite 0x40000 .word 3).memWord 0x40000).getLsbD 0 = true
    ∧ (postingAt .writeWord1).poster.step = .writeWord1 ∧ (postingAt .writeWord2).poster.step = .writeWord2
    ∧ (postingAt .writeWord3).poster.step = .writeWord3 ∧ w.poster.step = .writeWord0
    ∧ wrap.poster.wrapKept = true ∧ w.poster.wrapKept = false
    ∧ last.poster.index + 1 = last.poster.ringSize.toNat ∧ w.poster.index + 1 ≠ w.poster.ringSize.toNat := by
  unfold Poster.QueueSound
  decide +kernel

/-! ## Witnesses for what every step keeps -/

/-- A part in RUNNING whose held words are all in memory: every configuration word zero but the ring's. -/
def agreed : State :=
  { running with
    pending := [.passWrite 0x7FFFF .word 1]
    path := { running.path with mem := [(9, 0x80), (10, 0x40)] }
    sup := { running.sup with config := Vector.replicate 24 (Vector.replicate 8 0) }
    group := Vector.replicate 12 { Group.reset with config := Vector.replicate 8 0 }
    timing := { running.timing with
      config := Vector.replicate 4 (Vector.replicate 3 0), sources := Vector.replicate 2 0 }
    poster := { running.poster with state := .posting, queue := [anEvent] } }

theorem agreed_words (w : Watched) : agreed.agrees w := by
  unfold State.agrees
  have h1 : ∀ k, agreed.memWord (agreed.imageAddr (Watched.profile k).offset) = agreed.heldWord (.profile k) := by decide +kernel
  have h2 : ∀ n j, agreed.memWord (agreed.imageAddr (Watched.calibration n j).offset) = agreed.heldWord (.calibration n j) := by
    decide +kernel
  have h3 : ∀ p j, agreed.memWord (agreed.imageAddr (Watched.port p j).offset) = agreed.heldWord (.port p j) := by decide +kernel
  have h4 : ∀ g j, agreed.memWord (agreed.imageAddr (Watched.group g j).offset) = agreed.heldWord (.group g j) := by
    decide +kernel
  have h5 : ∀ i j, agreed.memWord (agreed.imageAddr (Watched.slot i j).offset) = agreed.heldWord (.slot i j) := by decide +kernel
  have h6 : ∀ l, agreed.memWord (agreed.imageAddr (Watched.source l).offset) = agreed.heldWord (.source l) := by decide +kernel
  cases w with
  | profile k => exact h1 k
  | calibration n j => exact h2 n j
  | port p j => exact h3 p j
  | group g j => exact h4 g j
  | slot i j => exact h5 i j
  | source l => exact h6 l
  | shelfNumber => decide +kernel
  | attentionMask => decide +kernel
  | ringBase => decide +kernel
  | ringSize => decide +kernel
  | stationKind => decide +kernel

theorem witness_agreementKept : agreed.Agreement ∧ ∃ t, step agreed = .next t :=
  ⟨{ memory := by decide +kernel
     running := fun _ => agreed_words
     loaded := fun h => absurd h (by decide +kernel)
     position := fun h => absurd h (by decide +kernel)
     due := fun _ h => absurd h (by decide +kernel)
     dueSize := fun _ _ h => absurd h (by decide +kernel)
     size := by decide +kernel
     ring := by decide +kernel
     stopped := fun h => absurd h (by decide +kernel) }, stepsOn _⟩

/-- Port 5 holds the identity 1/0, port 6 is its DUPLICATE, and port 5 is about to accept 2/0, received for the third time. -/
def mapped : State :=
  let r := { PortRecord.reset with accepted := some 0x0020 }
  { equipped with
    pending := [.portUpdate]
    sup := { equipped.sup with
      farEnd := put equipped.sup.farEnd 5 (some 0x0020)
      record := put (put equipped.sup.record 5 { r with trace := .free, candidate := some 0x0040, run := 2 }) 6
        { r with trace := .duplicate }
      rounds := [⟨1, [(5, some ⟨false, some 1234, some (0x0040, 0)⟩), (7, none)]⟩] } }

theorem mapped_sound : mapped.sup.MapSound := by
  have far : ∀ p : Port, mapped.sup.farEnd[p] = if p = 5 then some 0x0020 else none := by decide +kernel
  have acc : ∀ p : Port, mapped.sup.record[p].accepted = if p = 5 ∨ p = 6 then some 0x0020 else none := by decide +kernel
  have dup : ∀ p : Port, mapped.sup.record[p].trace = .duplicate → p = 6 := by decide +kernel
  refine ⟨?_, by decide +kernel, ?_, ?_, ?_⟩
  · intro p id h
    rw [far] at h
    split at h
    · rename_i e
      subst e
      injection h with h
      subst h
      decide +kernel
    · exact nomatch h
  · intro p q id hp hq
    rw [far] at hp hq
    split at hp
    · rename_i e
      split at hq
      · rename_i e'
        rw [e, e']
      · exact nomatch hq
    · exact nomatch hp
  · intro p h
    rw [dup p h]
    exact ⟨0x0020, by decide, by decide +kernel, 5, by decide, by decide +kernel⟩
  · intro p id h
    rw [acc] at h
    split at h
    · injection h with h
      subst h
      decide +kernel
    · exact nomatch h

theorem witness_farEndMapKept : mapped.sup.MapSound ∧ ∃ t, step mapped = .next t := ⟨mapped_sound, stepsOn _⟩

/-- The traced case: a reception that does not complete the run, one that does, with the map free, held elsewhere, and given up to a
duplicate; a bridge word on a SHARED group's protect port; the last result of a round. -/
theorem witness_tracedUpdates :
    let traced (n : Nat) (far : Option Word) : State :=
      let s := record5 (fun r => { r with candidate := some 0x0040, run := n })
      { resulted s 5 (some ⟨false, some 1234, some (0x0040, 0)⟩) with
        sup := { (resulted s 5 (some ⟨false, some 1234, some (0x0040, 0)⟩)).sup with farEnd := put s.sup.farEnd 6 far } }
    leaves .portUpdate (traced 1 none) (fun t => t.sup.record[(5 : Port)].run = 2 && t.sup.record[(5 : Port)].trace = .awaiting) = true
    ∧ leaves .portUpdate (traced 2 none) (fun t => t.sup.record[(5 : Port)].trace = .free && t.sup.farEnd[(5 : Port)] = some 0x0040) = true
    ∧ leaves .portUpdate (traced 2 (some 0x0040)) (fun t => t.sup.record[(5 : Port)].trace = .duplicate) = true
    ∧ leaves .portUpdate mapped (fun t => t.sup.farEnd[(5 : Port)] = some 0x0040 && t.sup.farEnd[(6 : Port)] = some 0x0020
        && t.sup.record[(6 : Port)].trace = .free) = true
    ∧ ((resulted (sharedWith none id) 6 (some aGood)).sup.rounds = [⟨1, [(6, some aGood), (7, none)]⟩]
        ∧ leaves .portUpdate (resulted (sharedWith none id) 6 (some aGood)) (fun t =>
            t.sup.record[(6 : Port)].grade ≠ .failed && t.group[(3 : GroupId)].candidate = some 0) = true)
    ∧ leaves .portUpdate { equipped with sup := { equipped.sup with rounds := [⟨1, [(5, none)]⟩] } } (fun t =>
        t.alarm.mode = .follow && t.sup.rounds = []) = true := by decide +kernel

/-- FOLLOW with a CRITICAL point raised and latched. -/
def alarmed : State :=
  { running with
    pending := [.acoInput]
    alarm := { running.alarm with
      profile := put running.alarm.profile 21 0x0033
      mode := .follow
      raised := pointBit (.part 3), latched := pointBit (.part 3), alarmChange := true
      critical := ⟨true, true, false⟩, major := ⟨false, false, false⟩, minor := ⟨false, false, false⟩ } }

theorem witness_alarmsKept : alarmed.AlarmSound ∧ ∃ t, step alarmed = .next t := by
  refine ⟨⟨by decide +kernel, fun _ => ?_, fun h => absurd h (by decide +kernel), by decide +kernel⟩, stepsOn _⟩
  unfold Relays.right
  decide +kernel

theorem witness_timingKept : timed.timing.Sound ∧ ∃ t, step timed = .next t := ⟨timed_sound, stepsOn _⟩

theorem witness_mailboxKept :
    let s := { awaiting running 0x0422 with pending := [.confirm 0x0422] }
    s.MailboxSound ∧ ∃ t, step s = .next t :=
  ⟨⟨by decide +kernel, by decide +kernel, fun _ => ⟨0x0422, .force, by decide +kernel, by decide +kernel, rfl⟩,
    fun h => absurd h (by decide +kernel)⟩, stepsOn _⟩

theorem witness_driveKept :
    let s := { element4 ⟨1, none, .travelling, some 400⟩ with pending := [.travelTimerExpiry 4] }
    s.DriveSound ∧ ∃ t, step s = .next t := by
  refine ⟨⟨by decide +kernel, fun _ e => ?_⟩, stepsOn _⟩
  have all : ∀ e : ElementId, (element4 ⟨1, none, .travelling, some 400⟩).element e
      = if e = 4 then ⟨1, none, .travelling, some 400⟩ else Element.reset (some 0) := by decide +kernel
  show ((element4 ⟨1, none, .travelling, some 400⟩).element e).right
  rw [all]
  split
  · exact ⟨by decide, rfl⟩
  · exact ⟨rfl, rfl⟩

theorem paired_table : (paired false).TableSound :=
  ⟨by decide +kernel, by decide +kernel, by decide +kernel, by decide +kernel, by decide +kernel, by decide +kernel,
    by decide +kernel⟩

/-- LOADING with a write-back of a group's structure waiting: the protect port field of group 2 cleared of its spare bits. -/
theorem witness_groupTableKept :
    (let s := { paired false with pending := [.groupPolicyWrite 2 .word 0x3100] }
     s.GroupsDisjoint ∧ ∃ t, step s = .next t)
    ∧ (let s := { paired false with
        pending := [.loaderWriteBack]
        path := { (loading 0).path with writeBack := some ⟨.group 2 1, 0x0006, .clamped⟩ } }
       s.GroupsDisjoint ∧ s.path.op = .loading ∧ ∃ t, step s = .next t) :=
  let h := paired_table
  ⟨⟨⟨⟨h.1, h.2, h.3, h.4, h.5, h.6, h.7⟩, fun _ h => absurd h (by decide +kernel)⟩, stepsOn _⟩,
    ⟨⟨h.1, h.2, h.3, h.4, h.5, h.6, h.7⟩, fun b _ e => by
        injection e with e
        subst e
        exact ⟨h.1, h.2, h.3, h.4, h.5, h.6, h.7⟩⟩, rfl, stepsOn _⟩

/-- A full queue about to be posted, overflow-pending found set by the grant and not; in the second word 0 goes out without
OVERFLOWED and 15 events stay queued with overflow-pending set. -/
theorem witness_queueKept :
    (∀ b, let s := { postingWith .writeWord0 16 b true with pending := [.descriptorWord0Write] }
      s.poster.QueueSound ∧ s.PortSound ∧ ∃ t, step s = .next t)
    ∧ leaves .descriptorWord0Write (postingWith .writeWord0 16 false true) (fun t => t.poster.overflow
        && t.poster.queue.length = 15 && t.path.grant = some (.poster true)) = true
    ∧ leaves .descriptorWord0Write (postingWith .writeWord0 16 true true) (fun t => !t.poster.overflow) = true := by
  refine ⟨fun b => ?_, by decide +kernel, by decide +kernel⟩
  have q : (postingWith .writeWord0 16 b true).poster.QueueSound := by
    unfold Poster.QueueSound
    cases b <;> decide +kernel
  exact ⟨q, ⟨q, by cases b <;> decide +kernel, by cases b <;> decide +kernel,
    fun _ => ⟨fun _ => ⟨b, rfl⟩, fun h => absurd rfl h⟩, by cases b <;> decide +kernel,
    by cases b <;> decide +kernel, by cases b <;> decide +kernel, by cases b <;> decide +kernel,
    by cases b <;> decide +kernel⟩, stepsOn _⟩

end Sys2Proof.Tests
end

namespace Sys2Proof.Machine

/-! ## What events do to the poster -/

/-- A poster that only took events: the ring and its place in it stand, the queue grew within its 16, IDLE became POSTING with an
event queued or stayed with none new, and overflow-pending rises only with the queue full (R175, R179). -/
structure Poster.Grows (p q : Poster) : Prop where
  ringBase   : q.ringBase = p.ringBase
  ringSize   : q.ringSize = p.ringSize
  ringChange : q.ringChange = p.ringChange
  index      : q.index = p.index
  step       : q.step = p.step
  wrapKept   : q.wrapKept = p.wrapKept
  wrapFault  : q.wrapFault = p.wrapFault
  queue      : p.queue <+: q.queue
  room       : p.queue.length ≤ 16 → q.queue.length ≤ 16
  state      : (q.state = p.state ∧ (p.state = .idle → q.queue = p.queue))
    ∨ (p.state = .idle ∧ q.state = .posting ∧ q.queue ≠ [])
  overflow   : q.overflow = true → p.overflow = true ∨ 16 ≤ q.queue.length

namespace Poster.Grows

theorem refl (p : Poster) : p.Grows p :=
  ⟨rfl, rfl, rfl, rfl, rfl, rfl, rfl, List.prefix_rfl, id, .inl ⟨rfl, fun _ => rfl⟩, .inl⟩

theorem trans {p q r : Poster} (h : p.Grows q) (k : q.Grows r) : p.Grows r where
  ringBase := k.ringBase.trans h.ringBase
  ringSize := k.ringSize.trans h.ringSize
  ringChange := k.ringChange.trans h.ringChange
  index := k.index.trans h.index
  step := k.step.trans h.step
  wrapKept := k.wrapKept.trans h.wrapKept
  wrapFault := k.wrapFault.trans h.wrapFault
  queue := h.queue.trans k.queue
  room := fun l => k.room (h.room l)
  state := by
    rcases h.state with ⟨hs, hq⟩ | ⟨hi, hp, hn⟩ <;> rcases k.state with ⟨ks, kq⟩ | ⟨ki, kp, kn⟩
    · exact .inl ⟨ks.trans hs, fun i => (kq (hs.trans i)).trans (hq i)⟩
    · exact .inr ⟨hs.symm.trans ki, kp, kn⟩
    · exact .inr ⟨hi, ks.trans hp, fun e => hn (List.prefix_nil.mp (e ▸ k.queue))⟩
    · rw [hp] at ki
      cases ki
  overflow := fun o => by
    rcases k.overflow o with o | l
    · exact (h.overflow o).imp id (fun l => l.trans k.queue.length_le)
    · exact .inr l

/-- A poster that is not IDLE keeps its state while it takes events. -/
theorem state_of_not_idle {p q : Poster} (h : p.Grows q) (n : p.state ≠ .idle) : q.state = p.state :=
  h.state.elim (·.1) (fun i => absurd i.1 n)

theorem queueSound {p q : Poster} (h : p.Grows q) (s : p.QueueSound) : q.QueueSound := by
  obtain ⟨len, idle, busy⟩ := s
  refine ⟨h.room len, fun i => ?_, fun b e => ?_⟩
  · rcases h.state with ⟨hs, hq⟩ | ⟨_, hp, _⟩
    · rw [hq (hs ▸ i), idle (hs ▸ i)]
    · rw [i] at hp
      cases hp
  · rcases h.state with ⟨hs, _⟩ | ⟨_, _, hn⟩
    · exact busy (hs ▸ b) (List.prefix_nil.mp (e ▸ h.queue))
    · exact hn e

end Poster.Grows

theorem State.putEvent_grows (s : State) (o : Nat) (d : Detail) : s.poster.Grows (s.putEvent o d).poster := by
  rcases s.putEvent_cases o d with ⟨room, e⟩ | ⟨full, e⟩ <;> rw [e]
  · refine ⟨rfl, rfl, rfl, rfl, rfl, rfl, rfl, List.prefix_append _ _, fun _ => ?_, ?_, .inl⟩
    · simpa using room
    · by_cases i : s.poster.state = .idle
      · exact .inr ⟨i, by simp [i], by simp⟩
      · exact .inl ⟨by simp [i], fun h => absurd h i⟩
  · exact ⟨rfl, rfl, rfl, rfl, rfl, rfl, rfl, List.prefix_rfl, id, .inl ⟨rfl, fun _ => rfl⟩, fun _ => .inr full⟩

/-! ## Reactions -/

/-- What the timing unit holds for its watched words. -/
def Timing.table (x : Timing) : Vector (Vector Word 3) 4 × Vector Word 2 × Word := (x.config, x.sources, x.stationKind)

/-- What the port supervisor holds for its watched words. -/
def Supervisor.table (u : Supervisor) : Vector (Vector Word 8) 24 × Vector (Vector Word 4) 8 := (u.config, u.calibration)

/-- `t` follows `s` by what the blocks do among themselves: the memory path and every held value of a watched word stand, and
the poster only took events. -/
structure State.Reacts (s t : State) : Prop where
  path   : t.path = s.path
  held   : ∀ w, t.heldWord w = s.heldWord w
  poster : s.poster.Grows t.poster

namespace State.Reacts

theorem refl (s : State) : s.Reacts s := ⟨rfl, fun _ => rfl, .refl _⟩

theorem trans {s t u : State} (h : s.Reacts t) (k : t.Reacts u) : s.Reacts u :=
  ⟨k.path.trans h.path, fun w => (k.held w).trans (h.held w), h.poster.trans k.poster⟩

theorem ite {s t u : State} {c : Prop} [Decidable c] (h : s.Reacts t) (k : s.Reacts u) : s.Reacts (if c then t else u) := by
  split <;> assumption

/-- An effect that may not be due reacts if it does when it is. -/
theorem iteSelf {s t : State} {c : Prop} [Decidable c] (h : s.Reacts t) : s.Reacts (if c then t else s) := h.ite (refl s)

theorem foldl {α : Type} {f : State → α → State} (h : ∀ (s : State) (a : α), s.Reacts (f s a)) (l : List α) (s : State) :
    s.Reacts (l.foldl f s) := by
  induction l generalizing s with
  | nil => exact refl s
  | cons a l ih => exact (h s a).trans (ih _)

/-- A state whose owners' configurations stand, block by block, and whose poster only took events. -/
theorem of_blocks {s t : State} (path : t.path = s.path) (shelf : t.scan.shelfNumber = s.scan.shelfNumber)
    (mask : t.alarm.mask = s.alarm.mask) (profile : t.alarm.profile = s.alarm.profile)
    (calibration : t.sup.calibration = s.sup.calibration) (ports : t.sup.config = s.sup.config)
    (groups : ∀ g : GroupId, t.group[g].config = s.group[g].config) (slots : t.timing.config = s.timing.config)
    (sources : t.timing.sources = s.timing.sources) (station : t.timing.stationKind = s.timing.stationKind)
    (poster : s.poster.Grows t.poster) : s.Reacts t where
  path := path
  held := fun w => by
    cases w with
    | shelfNumber => exact shelf
    | attentionMask => exact mask
    | ringBase => exact poster.ringBase
    | ringSize => exact poster.ringSize
    | profile k => exact congrArg (·[k]) profile
    | calibration n j => exact congrArg (·[n][j]) calibration
    | port p j => exact congrArg (·[p][j]) ports
    | group g j => exact congrArg (·[j]) (groups g)
    | slot i j => exact congrArg (·[i][j]) slots
    | source l => exact congrArg (·[l]) sources
    | stationKind => exact station
  poster := poster

/-- An effect on the switch driver and the clock alone. -/
theorem of_driver (s : State) (d : Driver) (n : Nat) : s.Reacts { s with driver := d, now := n } :=
  of_blocks rfl rfl rfl rfl rfl rfl (fun _ => rfl) rfl rfl rfl (.refl _)

/-- An effect on the alarm unit that leaves its mask and its profile. -/
theorem of_alarm (s : State) (a : Alarm) (m : a.mask = s.alarm.mask) (p : a.profile = s.alarm.profile) :
    s.Reacts { s with alarm := a } :=
  of_blocks rfl rfl m p rfl rfl (fun _ => rfl) rfl rfl rfl (.refl _)

/-- An effect on the timing unit that leaves its configuration. -/
theorem of_timing (s : State) (x : Timing) (h : x.table = s.timing.table) : s.Reacts { s with timing := x } :=
  of_blocks rfl rfl rfl rfl rfl rfl (fun _ => rfl) (congrArg (·.1) h) (congrArg (·.2.1) h) (congrArg (·.2.2) h) (.refl _)

/-- An effect on the scan controller that leaves the shelf number. -/
theorem of_scan (s : State) (x : Scan) (h : x.shelfNumber = s.scan.shelfNumber) : s.Reacts { s with scan := x } :=
  of_blocks rfl h rfl rfl rfl rfl (fun _ => rfl) rfl rfl rfl (.refl _)

/-- An effect on the port supervisor that leaves its configuration and calibration. -/
theorem of_sup (s : State) (u : Supervisor) (h : u.table = s.sup.table) : s.Reacts { s with sup := u } :=
  of_blocks rfl rfl rfl rfl (congrArg (·.2) h) (congrArg (·.1) h) (fun _ => rfl) rfl rfl rfl (.refl _)

/-- An effect on the mailbox alone. -/
theorem of_mailbox (s : State) (m : Mailbox) : s.Reacts { s with mailbox := m } :=
  of_blocks rfl rfl rfl rfl rfl rfl (fun _ => rfl) rfl rfl rfl (.refl _)

end State.Reacts

/-! ### Events and the alarm unit -/

theorem State.putEvent_reacts (s : State) (o : Nat) (d : Detail) : s.Reacts (s.putEvent o d) := by
  obtain ⟨-, -, path, -, scan, sup, group, -, timing, alarm⟩ := s.putEvent_frame o d
  exact .of_blocks path (by rw [scan]) (by rw [alarm]) (by rw [alarm]) (by rw [sup]) (by rw [sup]) (fun g => by rw [group])
    (by rw [timing]) (by rw [timing]) (by rw [timing]) (s.putEvent_grows o d)

theorem State.judgeRelays_reacts (old s : State) : s.Reacts (State.judgeRelays old s) :=
  .iteSelf (.of_alarm _ _ rfl rfl)

theorem State.cutOff_reacts (s : State) : s.Reacts s.cutOff := .iteSelf (.of_alarm _ _ rfl rfl)

theorem State.enterAllAlarm_reacts (s : State) : s.Reacts s.enterAllAlarm := .of_alarm _ _ rfl rfl

theorem State.enterFollow_reacts (s : State) : s.Reacts s.enterFollow := .of_alarm _ _ rfl rfl

theorem State.setPoint_reacts (s : State) (pt : Point) (v : Bool) : s.Reacts (s.setPoint pt v) := by
  have latched : s.Reacts (s.latchPoint pt v) := .of_alarm _ _ rfl rfl
  have reported : (s.latchPoint pt v).Reacts ((s.latchPoint pt v).reportPoint pt v) := .iteSelf (State.putEvent_reacts _ _ _)
  exact .ite (.refl s) ((latched.trans reported).trans (State.judgeRelays_reacts _ _))

/-! ### The switch driver -/

theorem State.setElement_reacts (s : State) (e : ElementId) (x : Element) : s.Reacts (s.setElement e x) :=
  .of_driver s _ s.now

theorem State.adoptElements_reacts (s : State) : s.Reacts s.adoptElements := .of_driver s _ s.now

theorem State.passTo_reacts (s : State) (n : Nat) : s.Reacts (s.passTo n) := .of_driver s s.driver _

/-! ### The timing unit -/

theorem State.setSlot_reacts (s : State) (i : SlotId) (r : Slot) : s.Reacts (s.setSlot i r) := .of_timing _ _ rfl

theorem State.lineTravels_reacts (s : State) (l : LineId) : s.Reacts (s.lineTravels l) :=
  .ite (.refl s) (s.setSlot_reacts _ _)

theorem State.lineFaults_reacts (s : State) (l : LineId) : s.Reacts (s.lineFaults l) := .iteSelf (s.setSlot_reacts _ _)

theorem State.takeDecision_reacts (s : State) (l : LineId) : s.Reacts (s.takeDecision l) := by
  unfold State.takeDecision
  split
  · exact s.lineTravels_reacts l
  · exact s.lineFaults_reacts l
  · exact .ite (s.setSlot_reacts _ _) (.ite (s.setSlot_reacts _ _) (.iteSelf (s.setSlot_reacts _ _)))

theorem State.lineReport_reacts (s : State) (l : LineId) (e : ElementId) : s.Reacts (s.lineReport l e) := by
  unfold State.lineReport
  split
  · exact s.takeDecision_reacts l
  · exact s.lineTravels_reacts l
  · exact s.lineFaults_reacts l
  · exact .refl s

theorem Timing.loss_table (x : Timing) : x.loss.table = x.table := by
  unfold Timing.loss
  dsimp only
  split <;> rfl

theorem Timing.follow_table (x : Timing) (new : Option SlotId) (settling : Bool) : (x.follow new settling).table = x.table := by
  cases new with
  | none =>
    dsimp only [Timing.follow]
    split
    · exact Timing.loss_table _
    · rfl
  | some i =>
    dsimp only [Timing.follow]
    (repeat' split) <;> rfl

theorem Timing.judgeLock_table (x : Timing) (d : Int) : (x.judgeLock d).table = x.table := by
  unfold Timing.judgeLock
  cases x.gen <;> simp only [] <;> (repeat' split) <;> rfl

theorem Timing.addPartial_table (x : Timing) : x.addPartial.table = x.table := by
  unfold Timing.addPartial
  dsimp only
  split <;> rfl

theorem Timing.steer_table (x : Timing) (gate : Int) : (x.steer gate).table = x.table := by
  unfold Timing.steer
  dsimp only
  split
  · split
    · exact (Timing.addPartial_table _).trans (Timing.judgeLock_table _ _)
    · exact Timing.judgeLock_table _ _
  · exact Timing.judgeLock_table _ _

theorem State.reselect_reacts (s : State) : s.Reacts s.reselect := .of_timing _ _ (Timing.follow_table _ _ _)

theorem State.decideSlots_reacts (s : State) : s.Reacts s.decideSlots := .of_timing _ _ rfl

theorem State.timingEvent_reacts (began s : State) : s.Reacts (State.timingEvent began s) :=
  .ite (.refl s) (s.putEvent_reacts _ _)

theorem State.timingAlarms_reacts (s : State) : s.Reacts s.timingAlarms :=
  .trans (.foldl (fun s _ => .foldl (fun s _ => s.setPoint_reacts _ _) _ s) _ s)
    (.foldl (fun s _ => s.setPoint_reacts _ _) _ _)

theorem State.retimeFrom_reacts (began s : State) : s.Reacts (State.retimeFrom began s) :=
  ((s.decideSlots_reacts.trans (State.reselect_reacts _)).trans (State.timingEvent_reacts _ _)).trans
    (State.timingAlarms_reacts _)

theorem State.retime_reacts (s : State) : s.Reacts s.retime := State.retimeFrom_reacts s s

theorem State.timingReport_reacts (s : State) (e : ElementId) : s.Reacts (s.timingReport e) :=
  .trans (.foldl (fun s l => .iteSelf (s.lineReport_reacts l e)) _ s) (State.retimeFrom_reacts _ _)

theorem State.timingGroupChange_reacts (s : State) (g : GroupId) : s.Reacts (s.timingGroupChange g) :=
  .iteSelf (.trans (.foldl (fun s l => .iteSelf (s.takeDecision_reacts l)) _ s) (State.retimeFrom_reacts _ _))

theorem State.takePulse_reacts (s : State) (i : SlotId) : s.Reacts (s.takePulse i) :=
  .iteSelf ((s.setSlot_reacts _ _).trans (State.retimeFrom_reacts _ _))

theorem State.lossExpire_reacts (s : State) (i : SlotId) : s.Reacts (s.lossExpire i) := by
  unfold State.lossExpire
  split
  · exact .refl s
  · exact ((s.passTo_reacts _).trans (State.setSlot_reacts _ _ _)).trans (State.retimeFrom_reacts _ _)

theorem State.qualifyExpire_reacts (s : State) (i : SlotId) : s.Reacts (s.qualifyExpire i) := by
  unfold State.qualifyExpire
  split
  · exact ((s.passTo_reacts _).trans (State.setSlot_reacts _ _ _)).trans (State.retimeFrom_reacts _ _)
  · exact .refl s

theorem State.settleExpire_reacts (s : State) (l : LineId) : s.Reacts (s.settleExpire l) := by
  unfold State.settleExpire
  dsimp only
  split
  · exact .refl s
  · exact ((s.passTo_reacts _).trans (State.setSlot_reacts _ _ _)).trans (State.retimeFrom_reacts _ _)

theorem State.abandonGate_reacts (s : State) (i : SlotId) : s.Reacts (s.abandonGate i) :=
  .iteSelf ((s.setSlot_reacts _ _).trans (State.retimeFrom_reacts _ _))

theorem State.judgedGate_reacts (s : State) (i : SlotId) (m : Nat) : s.Reacts (s.judgedGate i m) := by
  unfold State.judgedGate
  refine .trans (.trans ?_ (State.timingEvent_reacts _ _)) (State.timingAlarms_reacts _)
  have selected : s.Reacts (s.setSlot i (s.judgeGate i (gateOffset m) (s.pulse i (some 0) (s.slot i)))).decideSlots.reselect :=
    ((s.setSlot_reacts _ _).trans (State.decideSlots_reacts _)).trans (State.reselect_reacts _)
  exact .ite (selected.trans (.of_timing _ _ (Timing.steer_table _ _))) selected

theorem State.completeGate_reacts (s : State) (i : SlotId) (m : Nat) : s.Reacts (s.completeGate i m) :=
  .iteSelf (.ite (s.judgedGate_reacts i m) (s.abandonGate_reacts i))

theorem State.setForce_reacts (s : State) (f : Option SlotId) : s.Reacts (s.setForce f) :=
  .trans (.of_timing s { s.timing with forced := f } rfl) (State.retimeFrom_reacts s _)

theorem State.startLine_reacts (s : State) (l : LineId) : s.Reacts (s.startLine l) := by
  unfold State.startLine
  split
  · exact .trans (s.setSlot_reacts _ _) (.iteSelf (State.lineTravels_reacts _ l))
  · exact .iteSelf (s.lineTravels_reacts l)
  · exact .iteSelf (s.lineTravels_reacts l)

theorem State.timingStart_reacts (s : State) : s.Reacts s.timingStart :=
  .trans (.foldl State.startLine_reacts _ s) (State.retimeFrom_reacts _ _)

/-! ### The protection controller -/

theorem State.setGroup_reacts (s : State) (g : GroupId) (r : Group) (h : r.config = s.group[g].config) :
    s.Reacts (s.setGroup g r) := by
  refine .of_blocks rfl rfl rfl rfl rfl rfl (fun k => ?_) rfl rfl rfl (.refl _)
  unfold State.setGroup
  rw [put_get]
  split
  next e => rw [h, e]
  · rfl

theorem State.refreshGroup_config (s : State) (r : Group) : (s.refreshGroup r).config = r.config := by
  unfold State.refreshGroup
  dsimp only
  split <;> rfl

theorem State.settleEntry_config (s : State) (r : Group) : (s.settleEntry r).config = r.config :=
  (congrArg Group.config (s.settleEntry_frame r) :)

theorem State.cancelManual_reacts (s : State) (g : GroupId) : s.Reacts (s.cancelManual g) := by
  unfold State.cancelManual
  split
  · exact .trans (s.setGroup_reacts g _ (by rfl)) (State.putEvent_reacts _ _ _)
  all_goals exact .refl s

theorem State.bringRequests_reacts (s : State) (g : GroupId) : s.Reacts (s.bringRequests g) := by
  unfold State.bringRequests
  have refreshed : s.Reacts (s.setGroup g (s.refreshGroup s.group[g])) := s.setGroup_reacts g _ (s.refreshGroup_config _)
  exact (refreshed.trans (.iteSelf (State.cancelManual_reacts _ g))).trans
    (State.setGroup_reacts _ g _ (State.settleEntry_config _ _))

theorem State.commandGroup_reacts (s : State) (g : GroupId) : s.Reacts (s.commandGroup g) := by
  rw [s.commandGroup_eq g]
  exact .of_driver s _ s.now

theorem Group.firstEvaluated_config (r : Group) (n : Nat) : (r.firstEvaluated n).config = r.config := by
  unfold Group.firstEvaluated
  split <;> rfl

theorem Group.confirm_config (r : Group) (n : Nat) : (r.confirm n).config = r.config :=
  (congrArg Group.config (r.confirm_frame n) :)

theorem State.evaluate_reacts (s : State) (first : Bool) (g : GroupId) : s.Reacts (s.evaluate first g) := by
  unfold State.evaluate
  have chosen : s.Reacts (s.setGroup g { s.group[g] with winner := s.group[g].choose.1, source := s.group[g].choose.2 }) :=
    s.setGroup_reacts g _ rfl
  refine .trans (.trans (chosen.trans (State.commandGroup_reacts _ g)) ?_) (State.setGroup_reacts _ g _ ?_)
  · exact .ite (.refl _) (State.putEvent_reacts _ _ _)
  · cases first
    · exact Group.confirm_config _ _
    · exact (Group.firstEvaluated_config _ _).trans (Group.confirm_config _ _)

theorem State.noteReport_reacts (s : State) (heard : Driver) (g : GroupId) (e : ElementId) : s.Reacts (s.noteReport heard g e) :=
  .iteSelf (s.setGroup_reacts g _ (by rfl))

theorem State.handConditions_reacts (s : State) (heard : Driver) (g : GroupId) : s.Reacts (s.handConditions heard g) :=
  .trans (s.setGroup_reacts g _ (by rfl)) (.foldl (fun s _ => s.setPoint_reacts _ _) _ _)

theorem State.setTransmit_reacts (s : State) (p : Port) (w : Word) : s.Reacts (s.setTransmit p w) := .of_scan _ _ rfl

theorem State.formTransmit_reacts (s : State) (heard : Driver) (g : GroupId) : s.Reacts (s.formTransmit heard g) := by
  unfold State.formTransmit
  dsimp only
  split
  · exact s.setTransmit_reacts _ _
  · exact .refl s

theorem State.takeUpdate_reacts (s : State) (heard : Driver) (first : Bool) (g : GroupId) :
    s.Reacts (s.takeUpdate heard first g) :=
  (((s.bringRequests_reacts g).trans (.iteSelf (State.evaluate_reacts _ first g))).trans
    (State.handConditions_reacts _ heard g)).trans (State.formTransmit_reacts _ heard g)

theorem State.takeOwnReport_reacts (s : State) (old heard : Driver) (g : GroupId) (e : Option ElementId) :
    s.Reacts (s.takeOwnReport old heard g e) := by
  unfold State.takeOwnReport
  split
  · exact .iteSelf ((s.noteReport_reacts heard g _).trans (State.takeUpdate_reacts _ heard false g))
  · exact .refl s

theorem State.reportSelector_reacts (before s : State) (g : GroupId) : s.Reacts (State.reportSelector before s g) := by
  unfold State.reportSelector
  split
  · exact .iteSelf (s.timingReport_reacts _)
  · exact .refl s

theorem State.groupUpdate_reacts (s : State) (first : Bool) (g : GroupId) : s.Reacts (s.groupUpdate first g) :=
  (((s.takeUpdate_reacts s.driver first g).trans (State.takeOwnReport_reacts _ _ _ g _)).trans
    (State.takeOwnReport_reacts _ _ _ g _)).trans (State.reportSelector_reacts _ _ g)

theorem State.updateGroup_reacts (s : State) (g : GroupId) : s.Reacts (s.updateGroup g) := s.groupUpdate_reacts false g

theorem State.takeReport_reacts (s : State) (e : ElementId) : s.Reacts (s.takeReport e) := by
  unfold State.takeReport
  split
  · exact ((s.noteReport_reacts _ _ _).trans (State.updateGroup_reacts _ _)).trans (State.timingReport_reacts _ e)
  · exact s.timingReport_reacts e

theorem State.takeReportIf_reacts (before s : State) (e : ElementId) : s.Reacts (State.takeReportIf before s e) :=
  .iteSelf (s.takeReport_reacts e)

theorem State.senseChange_reacts (s : State) (e : ElementId) (p : Option Position) : s.Reacts (s.senseChange e p) :=
  .ite (.refl s) (.ite ((s.setElement_reacts e _).trans (State.takeReportIf_reacts _ _ e)) (s.setElement_reacts e _))

theorem State.travelExpire_reacts (s : State) (e : ElementId) : s.Reacts (s.travelExpire e) := by
  unfold State.travelExpire
  split
  · exact .refl s
  · exact ((s.passTo_reacts _).trans (State.setElement_reacts _ e _)).trans (State.takeReportIf_reacts _ _ e)

theorem State.judgeCandidate_reacts (s : State) (g : GroupId) (w : Word) : s.Reacts (s.judgeCandidate g w) := by
  unfold State.judgeCandidate
  have judged (r : Group) (h : r.config = s.group[g].config) : s.Reacts ((s.setGroup g r).updateGroup g) :=
    (s.setGroup_reacts g r h).trans (State.updateGroup_reacts _ g)
  refine .ite (.ite (.iteSelf (judged _ rfl)) ?_) (.ite (.refl s) (judged _ rfl))
  exact ((s.setGroup_reacts g _ (by rfl)).trans (.iteSelf (State.cancelManual_reacts _ g))).trans (State.updateGroup_reacts _ g)

theorem State.takeWord_reacts (s : State) (g : GroupId) (w : Word) : s.Reacts (s.takeWord g w) :=
  .trans (s.setGroup_reacts g _ (by rfl)) (.iteSelf (State.judgeCandidate_reacts _ g w))

theorem State.takeBridgeWord_reacts (s : State) (p : Port) (w : Word) : s.Reacts (s.takeBridgeWord p w) := by
  unfold State.takeBridgeWord
  split
  · exact .refl s
  · exact .ite (.refl s) (s.takeWord_reacts _ w)

theorem State.holdOffExpire_reacts (s : State) (g : GroupId) (k : ChannelIx) : s.Reacts (s.holdOffExpire g k) := by
  unfold State.holdOffExpire
  split
  · exact .refl s
  · exact ((s.passTo_reacts _).trans (State.setGroup_reacts _ g _ (by rfl))).trans (State.updateGroup_reacts _ g)

theorem State.restoreWaitExpire_reacts (s : State) (g : GroupId) : s.Reacts (s.restoreWaitExpire g) := by
  unfold State.restoreWaitExpire
  split
  · exact .refl s
  · exact ((s.passTo_reacts _).trans (State.setGroup_reacts _ g _ (by rfl))).trans (State.updateGroup_reacts _ g)

theorem State.confirmationExpire_reacts (s : State) (g : GroupId) : s.Reacts (s.confirmationExpire g) := by
  unfold State.confirmationExpire
  split
  · exact .refl s
  · exact ((s.passTo_reacts _).trans (State.setGroup_reacts _ g _ (by rfl))).trans (State.updateGroup_reacts _ g)

theorem State.storeCommand_reacts (s : State) (c : StoredKind) (o n : Nat) : s.Reacts (s.storeCommand c o n).1 := by
  unfold State.storeCommand
  split
  · dsimp only
    split
    · exact .refl s
    · exact (s.setGroup_reacts _ _ (by rfl)).trans (State.updateGroup_reacts _ _)
  · exact .refl s

theorem State.clearGroup_reacts (s : State) (o n : Nat) : s.Reacts (s.clearGroup o n).1 := by
  unfold State.clearGroup
  split
  · dsimp only
    split
    · exact (s.setGroup_reacts _ _ (by rfl)).trans (State.updateGroup_reacts _ _)
    · exact .refl s
  · exact .refl s

theorem Group.changeRevertive_config (r : Group) (n : Nat) : (r.changeRevertive n).config = r.config := by
  unfold Group.changeRevertive
  (repeat' split) <;> rfl

theorem State.takeElements_config (s : State) (old : Vector Word 8) (r : Group) : (s.takeElements old r).config = r.config := by
  unfold State.takeElements State.takeSelector
  dsimp only
  (repeat' split) <;> rfl

theorem State.handElements_reacts (s : State) (g : GroupId) : s.Reacts (s.handElements g) :=
  (s.setPoint_reacts _ _).trans (State.setPoint_reacts _ _ _)

theorem State.endTransmit_reacts (s : State) (a b : Vector Word 8) : s.Reacts (s.endTransmit a b) := by
  unfold State.endTransmit
  split
  · exact .ite (.refl s) (s.setTransmit_reacts _ _)
  · exact .refl s

theorem State.groupChanged_reacts (s : State) (g : GroupId) (old : Vector Word 8) : s.Reacts (s.groupChanged g old) := by
  unfold State.groupChanged
  dsimp only
  have config : (if GroupConfig.revertive old = GroupConfig.revertive s.group[g].config then
        if newProtocolCase old s.group[g].config then (s.group[g].changeWorkings old).newProtocol
        else s.group[g].changeWorkings old
      else (if newProtocolCase old s.group[g].config then (s.group[g].changeWorkings old).newProtocol
        else s.group[g].changeWorkings old).changeRevertive s.now).config = s.group[g].config := by
    split
    · split <;> rfl
    · rw [Group.changeRevertive_config]
      split <;> rfl
  have placed := s.setGroup_reacts g _ ((s.takeElements_config old _).trans config)
  have handed := State.Reacts.ite (c := old[6] = s.group[g].config[6]) placed (placed.trans (State.handElements_reacts _ g))
  have updated := (handed.trans (State.endTransmit_reacts _ old s.group[g].config)).trans (State.updateGroup_reacts _ g)
  exact .ite (updated.trans (State.timingGroupChange_reacts _ g)) updated

theorem State.takeSelector_config (s : State) (r : Group) : (s.takeSelector r).config = r.config := rfl

theorem State.adoptGroup_reacts (s : State) (g : GroupId) : s.Reacts (s.adoptGroup g) := by
  unfold State.adoptGroup
  refine .trans (.trans (s.setGroup_reacts g _ ?_) (State.handConditions_reacts _ _ g)) (State.formTransmit_reacts _ _ g)
  exact s.takeSelector_config _

theorem State.firstEvaluations_reacts (s : State) (n : Nat) : s.Reacts (s.firstEvaluations n) :=
  .foldl (fun s g => .iteSelf (s.groupUpdate_reacts true g)) _ s

/-! ### The port supervisor -/

theorem Supervisor.promote_table (u : Supervisor) (id : Word) : (u.promote id).table = u.table := by
  unfold Supervisor.promote
  split <;> rfl

theorem Supervisor.giveUp_table (u : Supervisor) (p : Port) : (u.giveUp p).table = u.table := by
  unfold Supervisor.giveUp
  split
  · rfl
  · exact Supervisor.promote_table _ _

theorem Supervisor.dropTrace_table (u : Supervisor) (p : Port) (x : TraceState) (c : Bool) :
    (u.dropTrace p x c).table = u.table := Supervisor.giveUp_table _ _

theorem Supervisor.acceptTrace_table (u : Supervisor) (p : Port) (id : Word) : (u.acceptTrace p id).table = u.table := by
  unfold Supervisor.acceptTrace
  dsimp only
  (repeat' split) <;> exact Supervisor.giveUp_table _ _

theorem Supervisor.awaitTrace_table (u : Supervisor) (p : Port) : (u.awaitTrace p).table = u.table := by
  unfold Supervisor.awaitTrace
  split <;> rfl

theorem Supervisor.receiveTrace_table (u : Supervisor) (p : Port) (w : Word) : (u.receiveTrace p w).table = u.table := by
  unfold Supervisor.receiveTrace
  extract_lets t limit r run v
  split
  · exact Supervisor.acceptTrace_table _ _ _
  · exact Supervisor.awaitTrace_table _ _

theorem Supervisor.traceWork_table (u : Supervisor) (p : Port) (a : Answer) : (u.traceWork p a).table = u.table := by
  unfold Supervisor.traceWork
  split
  · split
    · exact Supervisor.dropTrace_table _ _ _ _
    · exact Supervisor.receiveTrace_table _ _ _
  · exact Supervisor.dropTrace_table _ _ _ _
  · exact Supervisor.dropTrace_table _ _ _ _
  · rfl

theorem Supervisor.missed_table (u : Supervisor) (p : Port) : (u.missed p).table = u.table := by
  unfold Supervisor.missed
  split
  · rfl
  · exact Supervisor.dropTrace_table _ _ _ _
  · rfl

theorem Supervisor.updated_table (u : Supervisor) (p : Port) (a : Option Answer) : (u.updated p a).table = u.table := by
  cases a with
  | none => exact u.missed_table p
  | some a => exact Supervisor.traceWork_table _ p a

theorem Supervisor.kindChanged_table (u : Supervisor) (p : Port) (k : MonitorKind) : (u.kindChanged p k).table = u.table := by
  unfold Supervisor.kindChanged
  dsimp only
  split
  · exact Supervisor.dropTrace_table _ _ _ _
  · exact Supervisor.dropTrace_table _ _ _ _
  · exact Supervisor.dropTrace_table _ _ _ _
  · exact Supervisor.dropTrace_table _ _ _ _
  · exact Supervisor.dropTrace_table _ _ _ _
  · rfl
  · rfl

theorem Supervisor.expectedChanged_table (u : Supervisor) (p : Port) : (u.expectedChanged p).table = u.table := by
  unfold Supervisor.expectedChanged
  dsimp only
  split <;> rfl

theorem Supervisor.portChanged_table (u : Supervisor) (p : Port) (j : Fin 8) (old : Vector Word 8) :
    (u.portChanged p j old).table = u.table := by
  unfold Supervisor.portChanged
  split
  · split
    · rfl
    · exact u.kindChanged_table p _
  · exact u.expectedChanged_table p
  all_goals rfl

theorem Supervisor.calibrationChanged_table (u : Supervisor) (n : Fin 8) : (u.calibrationChanged n).table = u.table := by
  simp only [Supervisor.table, Supervisor.calibrationChanged]

theorem State.portPoints_reacts (s : State) (p : Port) : s.Reacts (s.portPoints p) :=
  .foldl (fun s _ => s.setPoint_reacts _ _) _ s

theorem State.handOver_reacts (old s : State) (w : Option (Port × Word)) : s.Reacts (State.handOver old s w) := by
  unfold State.handOver
  dsimp only
  have groups : s.Reacts ((List.finRange 12).foldl (fun t g => if State.memberChanged old s g then t.updateGroup g else t) s) :=
    .foldl (fun t g => .iteSelf (t.updateGroup_reacts g)) _ s
  have points : ∀ t : State, t.Reacts ((List.finRange 24).foldl (fun t p => if State.portChanged old s p then t.portPoints p else t) t) :=
    fun t => .foldl (fun t p => .iteSelf (t.portPoints_reacts p)) _ t
  cases w with
  | none => exact (groups.trans (State.retime_reacts _)).trans (points _)
  | some w => exact ((groups.trans (State.takeBridgeWord_reacts _ _ _)).trans (State.retime_reacts _)).trans (points _)

theorem State.takeResult_reacts (s : State) (p : Port) (a : Option Answer) : s.Reacts (s.takeResult p a) :=
  .ite (.refl s) (.trans (.of_sup _ _ (s.sup.updated_table p a)) (State.handOver_reacts _ _ _))

theorem State.roundEnd_reacts (s : State) (n : Nat) : s.Reacts (s.roundEnd n) :=
  .ite ((s.firstEvaluations_reacts n).trans (State.enterFollow_reacts _)) (s.firstEvaluations_reacts n)

theorem State.drain_reacts (s : State) (l : List ProcessedRound) : s.Reacts (s.drain l) := by
  induction l generalizing s with
  | nil => exact .of_sup _ _ rfl
  | cons r rest ih => exact .ite ((s.roundEnd_reacts _).trans (ih _)) (.of_sup _ _ rfl)

theorem State.portUpdate_reacts (s : State) : s.Reacts s.portUpdate := by
  unfold State.portUpdate
  split
  · exact .refl s
  · split
    · exact s.drain_reacts _
    · exact (s.takeResult_reacts _ _).trans (State.drain_reacts _ _)

theorem State.changeMaintenance_reacts (s : State) (p : Port) (v : Bool) : s.Reacts (s.changeMaintenance p v) :=
  .trans (.trans (.of_sup s (s.sup.setMaintenance p v) rfl) (State.judgeRelays_reacts s _)) (State.handOver_reacts s _ none)

theorem State.maint_reacts (s : State) (o : Nat) : s.Reacts (s.maint o).1 := by
  unfold State.maint
  dsimp only
  split
  · split
    · exact .refl s
    · split
      · exact .refl s
      · split
        · exact .refl s
        · exact s.changeMaintenance_reacts _ _
  · exact .refl s

theorem State.release_reacts (s : State) (o : Nat) : s.Reacts (s.release o).1 := by
  unfold State.release
  dsimp only
  split
  · split
    · exact s.changeMaintenance_reacts _ _
    · exact .refl s
  · exact .refl s

/-! ### The scan controller -/

theorem State.beginRound_reacts (s : State) : s.Reacts s.beginRound := .of_scan _ _ rfl

theorem State.setRound_reacts (s : State) (r : Option Round) : s.Reacts (s.setRound r) := .of_scan _ _ rfl

theorem State.startRound_reacts (s : State) : s.Reacts s.startRound := .iteSelf s.beginRound_reacts

theorem State.startSlot_reacts (s : State) : s.Reacts s.startSlot := by
  unfold State.startSlot
  split
  · exact .ite (s.setRound_reacts _) ((s.setRound_reacts _).trans (.of_scan _ _ rfl))
  · exact .refl s

theorem State.takeAnswer_reacts (s : State) (k : Bool) (a : Answer) : s.Reacts (s.takeAnswer k a) := by
  unfold State.takeAnswer
  split
  · exact .iteSelf (s.setRound_reacts _)
  · exact .refl s

theorem State.classifyRound_reacts (s : State) (r : List (Port × Option Answer)) : s.Reacts (s.classifyRound r) := by
  unfold State.classifyRound
  extract_lets fault run
  have counted : s.Reacts { s with scan := { s.scan with round := none, faultedRun := run, scanFault := fault } } :=
    .of_scan s _ rfl
  have pointed := counted.trans (State.setPoint_reacts _ Point.scanFault fault)
  exact .ite pointed ((pointed.trans (.of_scan _ _ (by rfl))).trans (State.drain_reacts _ _))

theorem State.endSlot_reacts (s : State) : s.Reacts s.endSlot := by
  unfold State.endSlot
  split
  · exact .refl s
  · split
    · exact .refl s
    · split
      · exact s.setRound_reacts _
      · exact s.classifyRound_reacts _

/-! ### The poster, the command unit, and the changes of watched words -/

theorem State.handRingFormat_reacts (s : State) : s.Reacts s.handRingFormat := s.setPoint_reacts _ _

theorem State.recordResult_reacts (s : State) (c : BitVec 4) (o : Nat) (r : CommandResult) : s.Reacts (s.recordResult c o r) :=
  .trans (.trans (.of_mailbox _ _) (State.putEvent_reacts _ _ _)) (.of_alarm _ _ rfl rfl)

theorem State.recordWord_reacts (s : State) (w : Word) (r : CommandResult) : s.Reacts (s.recordWord w r) :=
  s.recordResult_reacts _ _ r

theorem State.settleMailbox_reacts (s : State) (m : MailboxState) : s.Reacts (s.settleMailbox m) := .of_mailbox _ _

theorem State.block_reacts (s : State) (w : Word) (r : CommandResult) : s.Reacts (s.block w r) :=
  (s.settleMailbox_reacts _).trans (State.recordWord_reacts _ w r)

theorem State.forceRef_reacts (s : State) (o : Nat) : s.Reacts (s.forceRef o).1 := by
  unfold State.forceRef
  split
  · split
    · exact .refl s
    · exact s.setForce_reacts _
  · exact .refl s

theorem State.mailboxByte_reacts (s : State) : s.Reacts s.mailboxByte := by
  unfold State.mailboxByte
  split
  · exact .refl s
  all_goals exact s.block_reacts _ _

theorem State.windowExpire_reacts (s : State) : s.Reacts s.windowExpire := by
  unfold State.windowExpire
  split
  · exact ((s.passTo_reacts _).trans (State.settleMailbox_reacts _ _)).trans (State.recordWord_reacts _ _ _)
  · exact .refl s

theorem State.writeStatus_reacts (s : State) (l : Lanes) (d : Word) : s.Reacts (s.writeStatus l d) := .iteSelf (.of_mailbox _ _)

theorem State.completeRestart_reacts (s : State) : s.Reacts s.completeRestart :=
  .iteSelf (.trans (.trans (.of_mailbox _ _) (State.putEvent_reacts _ _ _)) (.of_alarm _ _ rfl rfl))

theorem State.provision_reacts (s : State) (w : Watched) (v : Verdict) : s.Reacts (s.provision w v) :=
  .ite (.refl s) (s.putEvent_reacts _ _)

/-- What follows from a changed held value, but for the ring's words, is a reaction. -/
theorem State.changed_reacts (old s : State) (w : Watched) (base : w ≠ .ringBase) (size : w ≠ .ringSize) :
    s.Reacts (State.changed old s w) := by
  cases w with
  | ringBase => exact absurd rfl base
  | ringSize => exact absurd rfl size
  | shelfNumber | attentionMask | stationKind => exact .refl s
  | profile _ => exact State.judgeRelays_reacts old s
  | calibration n _ => exact .of_sup s _ (s.sup.calibrationChanged_table n)
  | port p j =>
    have supervised : s.Reacts { s with sup := s.sup.portChanged p j old.sup.config[p] } :=
      .of_sup s _ (s.sup.portChanged_table p j _)
    exact supervised.trans (State.handOver_reacts old _ none)
  | group g _ => exact s.groupChanged_reacts g _
  | slot _ _ => exact State.retimeFrom_reacts old s
  | source l =>
    have decided : s.Reacts (if s.path.op = .running then s.takeDecision l else s) := .iteSelf (s.takeDecision_reacts l)
    exact decided.trans (State.retimeFrom_reacts old _)

end Sys2Proof.Machine

namespace Sys2Proof.Machine

/-! ## Where cycles go (R1, R3) -/

theorem Config.imageBase_fits (x : BitVec 2) : (Config.imageBase x).toNat + 0xFFF < 2 ^ 19 := by
  revert x
  decide

theorem Watched.offset_lt (w : Watched) : w.offset < 4096 := by
  cases w <;> simp only [Watched.offset] <;> omega

theorem ImageWord.offset_lt (w : ImageWord) : w.offset < 4096 := by
  cases w with
  | watched w => exact w.offset_lt
  | trigger t => rcases t with - | (- | -) <;> decide
  | live l => cases l <;> simp only [ImageWord.offset, LiveWord.offset] <;> omega
  | change w => simp only [ImageWord.offset]; omega

theorem State.imageAddr_toNat (s : State) (w : ImageWord) : (s.imageAddr w.offset).toNat = s.base.toNat + w.offset := by
  have hb := Config.imageBase_fits s.path.straps
  have ho := w.offset_lt
  simp only [State.imageAddr, State.base, BitVec.toNat_add, BitVec.toNat_ofNat]
  omega

theorem classify_iff (base a : Addr) (w : ImageWord) : classify base a = some w ↔ a.toNat = base.toNat + w.offset := by
  have ho := w.offset_lt
  unfold classify
  constructor
  · intro h
    split at h
    next inside =>
      have := offset_of_imageWordAt (by omega) h
      omega
    · cases h
  · intro h
    rw [if_pos (by omega), h, Nat.add_sub_cancel_left, imageWordAt_offset]

/-- The image words lie at different addresses (R1). -/
theorem State.imageAddr_injective (s : State) {v w : ImageWord} (h : s.imageAddr v.offset = s.imageAddr w.offset) : v = w := by
  have e := congrArg BitVec.toNat h
  rw [s.imageAddr_toNat, s.imageAddr_toNat] at e
  exact ImageWord.offset_injective (by omega)

theorem State.classify_imageAddr (s : State) (w : ImageWord) : classify s.base (s.imageAddr w.offset) = some w :=
  (classify_iff _ _ _).mpr (s.imageAddr_toNat w)

/-- A cycle's address is classed as what the cycle touches. -/
theorem State.classify_cycleAddr (s : State) (c : Cycle) : classify s.base (s.cycleAddr c) = s.touched c := by
  unfold State.cycleAddr State.touched
  split
  · rfl
  · exact s.classify_imageAddr _

/-- What memory holds after a write (R1, R6). -/
theorem State.memWord_memWrite {s : State} (h : s.path.mem.wf = true) (a b : Addr) (l : Lanes) (w : Word) :
    (s.memWrite a l w).memWord b = if b = a then mergeLanes l (s.memWord a) w else s.memWord b :=
  Memory.readWord_writeLanes s.path.mem a b l w h

theorem State.memWrite_wf {s : State} (h : s.path.mem.wf = true) (a : Addr) (l : Lanes) (w : Word) :
    (s.memWrite a l w).path.mem.wf = true := Memory.wf_writeLanes s.path.mem a l w h

/-! ## What a served cycle does (R3) -/

/-- `t` is `s` after a cycle that went to memory, or showed a word upstream, and told no owner: a write in RUNNING missed every
watched word (R4, R8). -/
structure State.Passed (s t : State) : Prop where
  eq      : t = { s with path := { s.path with mem := t.path.mem, upstream := t.path.upstream } }
  memory  : s.path.mem.wf = true → t.path.mem.wf = true
  watched : s.path.mem.wf = true → s.path.op = .running →
    ∀ w : Watched, t.memWord (s.imageAddr w.offset) = s.memWord (s.imageAddr w.offset)

namespace State.Passed

theorem refl (s : State) : s.Passed s := ⟨rfl, id, fun _ _ _ => rfl⟩

theorem drive (s : State) (l : Lanes) (w : Word) : s.Passed (s.drive l w) := ⟨rfl, id, fun _ _ _ => rfl⟩

/-- A memory cycle that, where it writes in RUNNING, writes no watched word. -/
theorem passCycle (s : State) (c : Cycle) (miss : c.write = true → s.path.op = .running → ∀ w, s.touched c ≠ some (.watched w)) :
    s.Passed (s.passCycle c) := by
  unfold State.passCycle
  split
  next write =>
    refine ⟨rfl, fun h => State.memWrite_wf h _ _ _, fun h run w => ?_⟩
    refine (State.memWord_memWrite h _ _ _ _).trans (if_neg fun e => miss write run w ?_)
    rw [← s.classify_cycleAddr, ← e]
    exact s.classify_imageAddr (.watched w)
  · exact drive s _ _

end State.Passed

/-- What a processor's cycle, served or held on, makes of the state (R3 to R10, R13). -/
inductive State.Served (s : State) : State → Prop
  /-- a cycle waits in the start check, in LOADING and for the read-back of STANDBY -/
  | held (c : Cycle) (busy : s.path.op = .startCheck ∨ s.path.op = .loading
      ∨ (s.path.op = .standby ∧ s.path.readBackOwed = true)) : Served s (s.holdCycle c)
  /-- in STANDBY every word passes, and a write of IMAGE READY owes its read-back -/
  | standby {u : State} (op : s.path.op = .standby) (passed : s.Passed u) (owed : Bool)
      (kept : s.path.readBackOwed = true → owed = true) :
      Served s { u with path := { u.path with readBackOwed := owed } }
  /-- a write of a watched word in RUNNING -/
  | watched (op : s.path.op = .running) (w : Watched) (l : Lanes) (d : Word) : Served s (s.watchedWrite w l d)
  /-- any other cycle in RUNNING but the command RESUME and the confirm of RESTART -/
  | reacts {u t : State} (op : s.path.op = .running) (passed : s.Passed u) (h : u.Reacts t) : Served s t
  | resumed {u v t : State} (op : s.path.op = .running) (passed : s.Passed u) (h : u.Reacts v) (k : v.resume.Reacts t) : Served s t
  | restarted {u v : State} (op : s.path.op = .running) (passed : s.Passed u) (h : v.path = u.path) : Served s v.beginRestart

/-- `t` follows `s` by reactions, with RESUME among them or not. -/
def State.Commanded (s t : State) : Prop := s.Reacts t ∨ ∃ v, s.Reacts v ∧ v.resume.Reacts t

theorem State.Commanded.trans_left {s t u : State} (h : s.Reacts t) (k : t.Commanded u) : s.Commanded u := by
  rcases k with k | ⟨v, k, r⟩
  · exact .inl (h.trans k)
  · exact .inr ⟨v, h.trans k, r⟩

theorem State.Commanded.trans_right {s t u : State} (h : s.Commanded t) (k : t.Reacts u) : s.Commanded u := by
  rcases h with h | ⟨v, h, r⟩
  · exact .inl (h.trans k)
  · exact .inr ⟨v, h, r.trans k⟩

theorem State.handToOwner_commanded (s : State) (c : Command) (o n : Nat) : s.Commanded (s.handToOwner c o n).1 := by
  cases c with
  | resume => exact .inr ⟨s, .refl s, .refl _⟩
  | bar | force | manual => exact .inl (s.storeCommand_reacts _ o n)
  | clear => exact .inl (s.clearGroup_reacts o n)
  | forceRef => exact .inl (s.forceRef_reacts o)
  | clearRef => exact .inl (s.setForce_reacts _)
  | maint => exact .inl (s.maint_reacts o)
  | release => exact .inl (s.release_reacts o)
  | aco => exact .inl s.cutOff_reacts
  | restart => exact .inl (.refl s)

theorem State.executeWord_commanded (s : State) (c : Command) (w : Word) : s.Commanded (s.executeWord c w) :=
  (s.handToOwner_commanded c _ _).trans_right (State.recordWord_reacts _ w _)

theorem State.newCommand_commanded (s : State) (w : Word) : s.Commanded (s.newCommand w) := by
  unfold State.newCommand
  split
  · exact .inl (s.recordResult_reacts _ _ _)
  · split
    · exact .inl (.of_mailbox s _)
    · exact s.executeWord_commanded _ w

theorem State.commandWrite_commanded (s : State) (w : Word) : s.Commanded (s.commandWrite w) := by
  unfold State.commandWrite
  split
  · exact s.newCommand_commanded w
  · exact .inl (s.block_reacts _ _)
  · exact .inl (.refl s)
  · exact .inl (s.recordWord_reacts w _)

theorem State.confirmed_commanded (s : State) (w : Word) : s.Commanded (s.confirmed w) := by
  unfold State.confirmed
  split
  · exact .inl (.of_mailbox s _)
  · exact .trans_left (s.settleMailbox_reacts _) (State.executeWord_commanded _ _ w)
  · exact .inl (s.settleMailbox_reacts _)

theorem State.confirmWrite_commanded (s : State) (w : Word) : s.Commanded (s.confirmWrite w) := by
  unfold State.confirmWrite
  split
  · exact .inl (s.recordWord_reacts w _)
  · split
    · exact s.confirmed_commanded w
    · exact .inl (s.block_reacts _ _)
  · exact .inl (.refl s)
  · exact .inl (s.recordWord_reacts w _)

theorem State.Served.commanded {s u t : State} (op : s.path.op = .running) (passed : s.Passed u) (h : u.Commanded t) :
    s.Served t := by
  rcases h with h | ⟨v, h, k⟩
  · exact .reacts op passed h
  · exact .resumed op passed h k

theorem State.triggered_served (s u : State) (op : s.path.op = .running) (passed : s.Passed u) (t : Trigger) (l : Lanes)
    (d : Word) : s.Served (u.triggered t l d) := by
  unfold State.triggered
  split
  · exact .reacts op passed (.refl u)
  · exact .commanded op passed (u.commandWrite_commanded d)
  · unfold State.confirmCycle
    dsimp only
    split
    · exact .restarted op passed (u.confirmWrite_frame d).2.2
    · exact .commanded op passed (u.confirmWrite_commanded d)
  · exact .reacts op passed u.mailboxByte_reacts
  · exact .reacts op passed u.mailboxByte_reacts

theorem State.setShelfTime_reacts (s : State) (w : Word) : s.Reacts (s.setShelfTime w) :=
  .of_blocks rfl rfl rfl rfl rfl rfl (fun _ => rfl) rfl rfl rfl { Poster.Grows.refl s.poster with }

theorem State.advanceShelfTime_reacts (s : State) : s.Reacts s.advanceShelfTime :=
  .of_blocks rfl rfl rfl rfl rfl rfl (fun _ => rfl) rfl rfl rfl { Poster.Grows.refl s.poster with }

theorem State.writeLive_reacts (s : State) (v : LiveWord) (l : Lanes) (d : Word) : s.Reacts (s.writeLive v l d) := by
  unfold State.writeLive
  split
  · exact s.setShelfTime_reacts _
  · exact s.writeStatus_reacts l d
  all_goals exact .refl s

theorem Alarm.identificationRead_table (a : Alarm) (l : Lanes) :
    (a.identificationRead l).mask = a.mask ∧ (a.identificationRead l).profile = a.profile := by
  unfold Alarm.identificationRead
  (repeat' split) <;> exact ⟨rfl, rfl⟩

theorem State.readLive_reacts (s : State) (v : LiveWord) (l : Lanes) :
    (s.drive l (s.liveWord v)).Reacts (s.readLive v l) := by
  unfold State.readLive
  dsimp only
  split
  · exact .of_alarm _ _ (Alarm.identificationRead_table _ l).1 (Alarm.identificationRead_table _ l).2
  · exact .refl _

theorem State.readChange_reacts (s : State) (w : Fin 16) (l : Lanes) :
    (s.drive l (s.alarm.changeWord w)).Reacts (s.readChange w l) := .of_alarm _ _ rfl rfl

theorem State.serveRunning_served (s : State) (c : Cycle) (op : s.path.op = .running) : s.Served (s.serveRunning c) := by
  have pass (h : ∀ w, s.touched c = some (.watched w) → c.write = false) : s.Passed (s.passCycle c) :=
    .passCycle s c fun write _ w e => by rw [h w e] at write; cases write
  unfold State.serveRunning
  split
  next e => exact .reacts op (pass (by simp [e])) (.refl _)
  next w e =>
    split
    · exact .watched op w _ _
    next read => exact .reacts op (pass fun _ _ => by simpa using read) (.refl _)
  next t e =>
    split
    · exact State.triggered_served s _ op (pass (by simp [e])) t _ _
    · exact .reacts op (pass (by simp [e])) (.refl _)
  next v e =>
    split
    · exact .reacts op (.refl s) (s.writeLive_reacts v _ _)
    · exact .reacts op (.drive s _ _) (s.readLive_reacts v _)
  next w e =>
    split
    · exact .reacts op (.refl s) (.refl s)
    · exact .reacts op (.drive s _ _) (s.readChange_reacts w _)

theorem State.serveStandby_served (s : State) (c : Cycle) (op : s.path.op = .standby) : s.Served (s.serveStandby c) := by
  have pass : s.Passed (s.passCycle c) := .passCycle s c fun _ run => by rw [op] at run; cases run
  have same (u : State) (h : s.Passed u) : s.Served u := by
    have e := State.Served.standby op h s.path.readBackOwed id
    have : u.path.readBackOwed = s.path.readBackOwed := by rw [h.eq]
    rwa [← this] at e
  unfold State.serveStandby
  dsimp only
  split
  · exact same _ (.drive s _ _)
  · split
    next owed => exact .held c (.inr (.inr ⟨op, owed⟩))
    · split
      · exact .standby op pass true fun _ => rfl
      · exact same _ pass

/-- A processor's cycle does one of the things a served cycle does. -/
theorem State.processorCycle_served (s : State) (c : Cycle) : s.Served (s.processorCycle c) := by
  unfold State.processorCycle
  split
  next op => exact s.serveRunning_served c op
  next op => exact s.serveStandby_served c op
  next op => exact .held c (.inl op)
  next op => exact .held c (.inr (.inl op))

theorem State.needsPort_false (s : State) (c : Cycle) (h : s.needsPort c = false) :
    (s.path.op = .running ∧ ((∃ v, s.touched c = some (.live v)) ∨ ∃ w, s.touched c = some (.change w)))
    ∨ (s.touched c = some (.live .identity) ∧ c.write = false) := by
  unfold State.needsPort at h
  split at h
  next v op e => exact .inl ⟨op, .inl ⟨v, e⟩⟩
  next w op e => exact .inl ⟨op, .inr ⟨w, e⟩⟩
  next e _ => exact .inr ⟨e, h⟩
  · cases h

/-- A cycle that needs no port tells no owner of a memory word: it waits while nothing is served, or a live or change word is
read or takes it. -/
theorem State.processorCycle_portless (s : State) (c : Cycle) (h : s.needsPort c = false) :
    s.processorCycle c = s.holdCycle c ∧ (s.path.op = .startCheck ∨ s.path.op = .loading)
    ∨ ∃ x, State.Reacts { s with path := { s.path with upstream := x } } (s.processorCycle c) := by
  have run (op : s.path.op = .running) (e : (∃ v, s.touched c = some (.live v)) ∨ ∃ w, s.touched c = some (.change w)) :
      ∃ x, State.Reacts { s with path := { s.path with upstream := x } } (s.processorCycle c) := by
    rw [s.processorCycle_running c op]
    unfold State.serveRunning
    rcases e with ⟨v, e⟩ | ⟨w, e⟩ <;> simp only [e] <;> split
    · exact ⟨s.path.upstream, s.writeLive_reacts v _ _⟩
    · exact ⟨_, s.readLive_reacts v _⟩
    · exact ⟨s.path.upstream, .refl s⟩
    · exact ⟨_, s.readChange_reacts w _⟩
  rcases s.needsPort_false c h with ⟨op, e⟩ | ⟨e, read⟩
  · exact .inr (run op e)
  · cases op : s.path.op with
    | startCheck => exact .inl ⟨s.processorCycle_held c (.inl op), .inl rfl⟩
    | loading => exact .inl ⟨s.processorCycle_held c (.inr op), .inr rfl⟩
    | running => exact .inr (run op (.inl ⟨_, e⟩))
    | standby =>
      have shown : s.processorCycle c = s.readLive .identity c.lanes := by
        unfold State.processorCycle State.serveStandby
        simp [op, e, read]
      exact .inr ⟨_, shown ▸ s.readLive_reacts .identity c.lanes⟩

/-! ## What a command does -/

/-- What a command makes of the state: a processor's cycle, a reaction of the blocks, a power-on, or one of the part's own memory
cycles, when it is due. -/
inductive State.Effect (s : State) : State → Prop
  | processor (c : Cycle) : Effect s (s.processor c)
  | reacts {u : State} (h : s.Reacts u) : Effect s u.eventDone
  | powerOn (x : BitVec 2) : Effect s (s.releaseReset x)
  | startCheck (op : s.path.op = .startCheck) : Effect s s.endStartCheck.serveHeld.grantAfresh
  | loaderRead (op : s.path.op = .loading) : Effect s s.loadWord.serveHeld.grantAfresh
  | loaderWriteBack (op : s.path.op = .loading) : Effect s s.writeBackWord.serveHeld.grantAfresh
  | readBack (op : s.path.op = .standby) (owed : s.path.readBackOwed = true) : Effect s s.readBack.serveHeld.grantAfresh
  | word0Read {e : Event} (due : s.posting .readWord0 = some e) : Effect s s.readWord0.serveHeld.grantAfresh
  | wordWrite {e : Event} (due : s.posting .writeWord1 = some e ∨ s.posting .writeWord2 = some e ∨ s.posting .writeWord3 = some e) :
      Effect s s.writeWord.serveHeld.grantAfresh
  | word0Write {e : Event} (due : s.posting .writeWord0 = some e) : Effect s s.writeWord0.serveHeld.grantAfresh

/-- A processor's command is its cycle. -/
theorem exec_of_cycleOf {c : Instr} {y : Cycle} (h : cycleOf c = some y) (s : State) : exec c s = .next (s.processor y) := by
  cases c <;> cases h <;> rfl

theorem State.posting_eq_some {s : State} {st : PostStep} {e : Event} : s.posting st = some e ↔
    s.path.op = .running ∧ s.poster.state = .posting ∧ s.poster.step = st ∧ s.posterGrant.isSome = true
    ∧ s.poster.queue.head? = some e := by
  unfold State.posting
  split
  next h => exact ⟨fun q => ⟨h.1, h.2.1, h.2.2.1, h.2.2.2, q⟩, fun q => q.2.2.2.2⟩
  next h => exact ⟨nofun, fun q => absurd ⟨q.1, q.2.1, q.2.2.1, q.2.2.2.1⟩ h⟩

theorem State.endStartCheck_idle {s : State} (h : s.path.op ≠ .startCheck) : s.endStartCheck = s := if_neg h

theorem State.loadWord_idle {s : State} (h : s.path.op ≠ .loading) : s.loadWord = s := if_neg fun e => h e.1

theorem State.writeBackWord_idle {s : State} (h : s.path.op ≠ .loading) : s.writeBackWord = s := by
  unfold State.writeBackWord
  split
  next e _ => exact absurd e h
  · rfl

theorem State.readBack_idle {s : State} (h : ¬ (s.path.op = .standby ∧ s.path.readBackOwed = true)) : s.readBack = s := if_neg h

/-- A master cycle's command has its effect when it is due, and none when it is not. -/
theorem State.Effect.master {s u t : State} {due : Bool} (e : u.finishMaster due = .next t) (idle : due = false → u = s)
    (run : due = true → s.Effect u.serveHeld.grantAfresh) : s.Effect t := by
  unfold State.finishMaster at e
  injection e with e
  subst e
  cases due with
  | true => exact run rfl
  | false =>
    rw [idle rfl]
    exact .reacts (.refl s)

/-- What an answered command makes of the state, said once for every command. -/
theorem exec_effect {c : Instr} {s t : State} (h : exec c s = .next t) : s.Effect t := by
  cases hy : cycleOf c with
  | some y =>
    rw [exec_of_cycleOf hy] at h
    cases h
    exact .processor y
  | none =>
    cases c with
    | powerOn x => cases h; exact .powerOn x
    | startCheck =>
      exact .master h (fun d => State.endStartCheck_idle (by simpa using d)) (fun d => .startCheck (by simpa using d))
    | loaderRead => exact .master h (fun d => State.loadWord_idle (by simpa using d)) (fun d => .loaderRead (by simpa using d))
    | loaderWriteBack =>
      exact .master h (fun d => State.writeBackWord_idle (by simpa using d)) (fun d => .loaderWriteBack (by simpa using d))
    | imageReadyReadBack =>
      refine .master h (fun d => State.readBack_idle (by simpa using d)) (fun d => ?_)
      have due : s.path.op = .standby ∧ s.path.readBackOwed = true := by simpa using d
      exact .readBack due.1 due.2
    | descriptorWord0Read =>
      refine .master h (fun d => ?_) (fun d => ?_)
      · unfold State.readWord0
        rw [Option.isSome_eq_false_iff, Option.isNone_iff_eq_none] at d
        rw [d]
      · obtain ⟨e, he⟩ := Option.isSome_iff_exists.mp d
        exact .word0Read he
    | descriptorWordWrite =>
      refine .master h (fun d => ?_) (fun d => ?_)
      · simp only [Bool.or_eq_false_iff, Option.isSome_eq_false_iff, Option.isNone_iff_eq_none] at d
        unfold State.writeWord
        rw [d.1.1, d.1.2, d.2]
      · simp only [Bool.or_eq_true, Option.isSome_iff_exists] at d
        obtain (⟨e, d⟩ | ⟨e, d⟩) | ⟨e, d⟩ := d
        · exact .wordWrite (.inl d)
        · exact .wordWrite (.inr (.inl d))
        · exact .wordWrite (.inr (.inr d))
    | descriptorWord0Write =>
      refine .master h (fun d => ?_) (fun d => ?_)
      · unfold State.writeWord0
        rw [Option.isSome_eq_false_iff, Option.isNone_iff_eq_none] at d
        rw [d]
      · obtain ⟨e, he⟩ := Option.isSome_iff_exists.mp d
        exact .word0Write he
    | confirmWindowExpiry => cases h; exact .reacts s.windowExpire_reacts
    | shelfTimeAdvance => cases h; exact .reacts s.advanceShelfTime_reacts
    | scanRoundStart => cases h; exact .reacts s.startRound_reacts
    | portSlotStart => cases h; exact .reacts s.startSlot_reacts
    | moduleAnswer k a => cases h; exact .reacts (s.takeAnswer_reacts k a)
    | portSlotEnd => cases h; exact .reacts s.endSlot_reacts
    | portUpdate => cases h; exact .reacts s.portUpdate_reacts
    | holdOffExpiry g k => cases h; exact .reacts (s.holdOffExpire_reacts g k)
    | restoreWaitExpiry g => cases h; exact .reacts (s.restoreWaitExpire_reacts g)
    | confirmationTimerExpiry g => cases h; exact .reacts (s.confirmationExpire_reacts g)
    | senseChange e x => cases h; exact .reacts (s.senseChange_reacts e _)
    | travelTimerExpiry e => cases h; exact .reacts (s.travelExpire_reacts e)
    | settleTimerExpiry l => cases h; exact .reacts (s.settleExpire_reacts l)
    | slotPulse i => cases h; exact .reacts (s.takePulse_reacts i)
    | lossWindowExpiry i => cases h; exact .reacts (s.lossExpire_reacts i)
    | gateComplete i n => cases h; exact .reacts (s.completeGate_reacts i n)
    | gateOverrun i => cases h; exact .reacts (s.abandonGate_reacts i)
    | qualifyTimerExpiry i => cases h; exact .reacts (s.qualifyExpire_reacts i)
    | acoInput => cases h; exact .reacts s.cutOff_reacts
    | _ => cases hy

/-- A step idles, or takes the command at the front of the queue and has its effect. -/
theorem step_effect {s t : State} (h : step s = .next t) : t = s ∨ ∃ rest, State.Effect { s with pending := rest } t := by
  unfold step at h
  split at h
  · cases h; exact .inl rfl
  next c rest _ => exact .inr ⟨rest, exec_effect h⟩

end Sys2Proof.Machine

namespace Sys2Proof.Machine

/-! ## Screening (R5) -/

/-- Fields that answer a refusal, a prohibition or ONCE-HELD leave the held value; the others give the value in range. -/
theorem Answers.verdict_cases (a : Answers) (held v : Word) :
    ((a.verdict held v).1 = .refused ∨ (a.verdict held v).1 = .prohibited ∨ (a.verdict held v).1 = .onceHeld)
        ∧ (a.verdict held v).2 = held
    ∨ (a.refused = false ∧ a.prohibited = false ∧ a.onceHeld = false ∧ (a.verdict held v).2 = a.value
        ∧ (a.verdict held v).1 = if a.value = v then .accepted else .clamped) := by
  unfold Answers.verdict
  split
  · exact .inl ⟨.inl rfl, rfl⟩
  next hr =>
    split
    · exact .inl ⟨.inr (.inl rfl), rfl⟩
    next hp =>
      split
      · exact .inl ⟨.inr (.inr rfl), rfl⟩
      next ho =>
        refine .inr ⟨by simpa using hr, by simpa using hp, by simpa using ho, ?_⟩
        split
        next => simp
        next hv => simp [not_not.mp hv]

theorem State.screen_held (s : State) (w : Watched) : s.screen w (s.heldWord w) = (.accepted, s.heldWord w) := if_pos rfl

theorem State.screen_written (s : State) (w : Watched) {v : Word} (h : v ≠ s.heldWord w) :
    s.screen w v = (s.answers w v).verdict (s.heldWord w) v := if_neg h

/-- Screening leaves the held value, or gives the value the owner brought into range for a word it neither refused nor
prohibited. -/
theorem State.screen_effective (s : State) (w : Watched) (v : Word) :
    (s.screen w v).2 = s.heldWord w ∨ ((s.answers w v).refused = false ∧ (s.answers w v).prohibited = false
      ∧ (s.screen w v).2 = (s.answers w v).value) := by
  by_cases h : v = s.heldWord w
  · rw [h, s.screen_held]
    exact .inl rfl
  · rw [s.screen_written w h]
    rcases (s.answers w v).verdict_cases (s.heldWord w) v with ⟨-, e⟩ | ⟨r, p, -, e, -⟩
    · exact .inl e
    · exact .inr ⟨r, p, e⟩

/-- A ring word keeps its value while the poster is neither BUSY nor DISABLED (R178). -/
theorem State.screen_ring_closed (s : State) (w : Watched) (v : Word) (h : w = .ringBase ∨ w = .ringSize)
    (closed : s.poster.state ≠ .busy ∧ s.poster.state ≠ .disabled) : (s.screen w v).2 = s.heldWord w := by
  have p : (s.answers w v).prohibited = true := by
    rcases h with rfl | rfl <;>
      simp [State.answers, State.answerRingBase, State.answerRingSize, State.ringClosed, closed]
  rcases s.screen_effective w v with e | ⟨-, e, -⟩
  · exact e
  · rw [p] at e
    cases e

/-- The effective RING SIZE is in its range (R178). -/
theorem State.screen_ringSize (s : State) (v : Word) (h : 2 ≤ s.poster.ringSize.toNat ∧ s.poster.ringSize.toNat ≤ 256) :
    2 ≤ (s.screen .ringSize v).2.toNat ∧ (s.screen .ringSize v).2.toNat ≤ 256 := by
  rcases s.screen_effective .ringSize v with e | ⟨-, -, e⟩ <;> rw [e]
  · exact h
  · simp only [State.answers, State.answerRingSize, wordOf, clampNat, BitVec.toNat_ofNat]
    omega

end Sys2Proof.Machine

namespace Sys2Proof.Proofs
open Sys2Proof.Machine

/-- Settles O15: the verdict is one of the five, and each decides the effective value. -/
theorem screenKeepsHeld : Obligations.ScreenKeepsHeld := by
  intro s w v
  refine ⟨s.screen_held w, ?_⟩
  by_cases h : v = s.heldWord w
  · rw [h, s.screen_held]
    simp
  · rw [s.screen_written w h]
    rcases (s.answers w v).verdict_cases (s.heldWord w) v with ⟨k, e⟩ | ⟨-, -, -, e, k⟩
    · refine ⟨fun _ => e, fun a => ?_, fun a => ?_⟩ <;> rw [a] at k <;> simp at k
    · rw [k, e]
      split <;> simp [*]

end Sys2Proof.Proofs

namespace Sys2Proof.Machine

/-! ## The owner takes a value (R5, R7) -/

/-- The owner of a value that is held already does nothing. -/
theorem State.takeHeld_same (s : State) (w : Watched) : s.takeHeld w (s.heldWord w) = s := if_pos rfl

/-- What the owner of a new value does: a ring word is held with the ring-change flag, and any other is held and its owner
reacts. -/
theorem State.takeHeld_cases (s : State) (w : Watched) (v : Word) :
    (v = s.heldWord w ∧ s.takeHeld w v = s)
    ∨ (w ≠ .ringBase ∧ w ≠ .ringSize ∧ (s.setHeld w v).Reacts (s.takeHeld w v))
    ∨ (w = .ringBase ∧ s.takeHeld w v = { s with poster := { s.poster with ringBase := v, ringChange := true } })
    ∨ (w = .ringSize ∧ s.takeHeld w v = { s with poster := { s.poster with ringSize := v, ringChange := true } }) := by
  by_cases h : v = s.heldWord w
  · exact .inl ⟨h, if_pos h⟩
  · have e : s.takeHeld w v = State.changed s (s.setHeld w v) w := if_neg h
    by_cases base : w = .ringBase
    · subst base
      exact .inr (.inr (.inl ⟨rfl, e⟩))
    · by_cases size : w = .ringSize
      · subst size
        exact .inr (.inr (.inr ⟨rfl, e⟩))
      · exact .inr (.inl ⟨base, size, e ▸ State.changed_reacts s _ w base size⟩)

/-- The owner holds the value it takes. -/
theorem State.takeHeld_heldWord (s : State) (w : Watched) (v : Word) (x : Watched) :
    (s.takeHeld w v).heldWord x = (s.setHeld w v).heldWord x := by
  rcases s.takeHeld_cases w v with ⟨h, e⟩ | ⟨-, -, h⟩ | ⟨rfl, e⟩ | ⟨rfl, e⟩
  · rw [e]
    by_cases k : x = w
    · rw [k, s.heldWord_setHeld, h]
    · rw [s.heldWord_setHeld_other _ _ _ k]
  · exact h.held x
  · rw [e]
    cases x <;> rfl
  · rw [e]
    cases x <;> rfl

theorem State.takeHeld_self (s : State) (w : Watched) (v : Word) : (s.takeHeld w v).heldWord w = v := by
  rw [s.takeHeld_heldWord, s.heldWord_setHeld]

theorem State.takeHeld_other (s : State) (w x : Watched) (v : Word) (h : x ≠ w) :
    (s.takeHeld w v).heldWord x = s.heldWord x := by
  rw [s.takeHeld_heldWord, s.heldWord_setHeld_other _ _ _ h]

theorem State.setHeld_poster (s : State) (w : Watched) (v : Word) (base : w ≠ .ringBase) (size : w ≠ .ringSize) :
    (s.setHeld w v).poster = s.poster := by
  cases w with
  | ringBase => exact absurd rfl base
  | ringSize => exact absurd rfl size
  | _ => rfl

/-- The poster after an owner took a value, and its verdict's event: it only took events, or it also took a ring word with the
ring-change flag. -/
theorem State.takeHeld_poster (s : State) (w : Watched) (v : Word) :
    s.poster.Grows (s.takeHeld w v).poster
    ∨ (w = .ringBase ∧ v ≠ s.heldWord w ∧ (s.takeHeld w v).poster = { s.poster with ringBase := v, ringChange := true })
    ∨ (w = .ringSize ∧ v ≠ s.heldWord w ∧ (s.takeHeld w v).poster = { s.poster with ringSize := v, ringChange := true }) := by
  by_cases k : v = s.heldWord w
  · rw [k, s.takeHeld_same]
    exact .inl (.refl _)
  rcases s.takeHeld_cases w v with ⟨h, -⟩ | ⟨base, size, h⟩ | ⟨rfl, e⟩ | ⟨rfl, e⟩
  · exact absurd h k
  · have g := h.poster
    rw [s.setHeld_poster w v base size] at g
    exact .inl g
  · exact .inr (.inl ⟨rfl, k, by rw [e]⟩)
  · exact .inr (.inr ⟨rfl, k, by rw [e]⟩)

/-- What the loader's reads and write-backs and a watched write have in common: the owner takes a value, and the PROVISION event
of its verdict follows (R5, R7). -/
def State.take (s : State) (w : Watched) (v : Word) (x : Verdict) : State := (s.takeHeld w v).provision w x

theorem State.take_heldWord (s : State) (w : Watched) (v : Word) (x : Verdict) (y : Watched) :
    (s.take w v x).heldWord y = if y = w then v else s.heldWord y := by
  unfold State.take
  rw [(State.provision_reacts _ w x).held]
  split
  next h => rw [h, s.takeHeld_self]
  next h => exact s.takeHeld_other w y v h

theorem State.take_path (s : State) (w : Watched) (v : Word) (x : Verdict) : (s.take w v x).path = s.path := by
  simp only [State.take, State.provision_frame, State.takeHeld_frame]

theorem State.take_mailbox (s : State) (w : Watched) (v : Word) (x : Verdict) : (s.take w v x).mailbox = s.mailbox := by
  simp only [State.take, State.provision_frame, State.takeHeld_frame]

/-- The poster after a taking: it only took events; or a new ring word came with the ring-change flag, and events after it. -/
theorem State.take_poster (s : State) (w : Watched) (v : Word) (x : Verdict) :
    s.poster.Grows (s.take w v x).poster
    ∨ (w = .ringBase ∧ v ≠ s.heldWord w
        ∧ Poster.Grows { s.poster with ringBase := v, ringChange := true } (s.take w v x).poster)
    ∨ (w = .ringSize ∧ v ≠ s.heldWord w
        ∧ Poster.Grows { s.poster with ringSize := v, ringChange := true } (s.take w v x).poster) := by
  have g := (State.provision_reacts (s.takeHeld w v) w x).poster
  rcases s.takeHeld_poster w v with h | ⟨e, k, h⟩ | ⟨e, k, h⟩
  · exact .inl (h.trans g)
  · exact .inr (.inl ⟨e, k, h ▸ g⟩)
  · exact .inr (.inr ⟨e, k, h ▸ g⟩)

theorem State.take_queueSound (s : State) (w : Watched) (v : Word) (x : Verdict) (h : s.poster.QueueSound) :
    (s.take w v x).poster.QueueSound := by
  rcases s.take_poster w v x with g | ⟨-, -, g⟩ | ⟨-, -, g⟩
  · exact g.queueSound h
  · exact g.queueSound h
  · exact g.queueSound h

theorem State.watchedWrite_eq (s : State) (w : Watched) (l : Lanes) (d : Word) :
    s.watchedWrite w l d = (s.memWrite (s.imageAddr w.offset) .word (s.screen w (mergeLanes l (s.heldWord w) d)).2).take w
      (s.screen w (mergeLanes l (s.heldWord w) d)).2 (s.screen w (mergeLanes l (s.heldWord w) d)).1 := rfl

theorem State.memWrite_heldWord (s : State) (a : Addr) (l : Lanes) (d : Word) (w : Watched) :
    (s.memWrite a l d).heldWord w = s.heldWord w := by
  cases w <;> rfl

/-- A loader read, case by case (R16). -/
theorem State.loadWord_cases (s : State) (op : s.path.op = .loading) :
    (s.loadWord = s ∧ (s.path.writeBack ≠ none ∨ loaderOrder[s.path.loaderAt]? = none))
    ∨ ∃ w v, s.path.writeBack = none ∧ loaderOrder[s.path.loaderAt]? = some w ∧ v = s.memWord (s.imageAddr w.offset)
      ∧ (((s.screen w v).2 = v ∧ s.loadWord = (s.take w v (s.screen w v).1).loaderNext)
        ∨ ((s.screen w v).2 ≠ v ∧ s.loadWord = { s with path := { s.path with
            writeBack := some ⟨w, (s.screen w v).2, (s.screen w v).1⟩ } })) := by
  unfold State.loadWord
  split
  next due =>
    split
    next e => exact .inl ⟨rfl, .inr e⟩
    next w e =>
      refine .inr ⟨w, _, due.2, e, rfl, ?_⟩
      dsimp only
      split
      next h => exact .inl ⟨h, rfl⟩
      next h => exact .inr ⟨h, rfl⟩
  next idle => exact .inl ⟨rfl, .inl fun e => idle ⟨op, e⟩⟩

/-- A loader write-back, case by case (R16). -/
theorem State.writeBackWord_cases (s : State) (op : s.path.op = .loading) :
    (s.path.writeBack = none ∧ s.writeBackWord = s)
    ∨ ∃ b, s.path.writeBack = some b ∧ s.writeBackWord =
      ((s.memWrite (s.imageAddr b.word.offset) .word b.value).take b.word b.value b.verdict).loaderNext := by
  unfold State.writeBackWord
  cases h : s.path.writeBack with
  | none => exact .inl ⟨rfl, by rw [op]⟩
  | some b => exact .inr ⟨b, rfl, by rw [op]; rfl⟩

end Sys2Proof.Machine

namespace Sys2Proof.Machine

/-! ## The ring taken up, RESUME, the start of RUNNING, and the cycles of a posting, each said once -/

/-- The poster takes up the held ring at index 0, or is DISABLED by an unusable one (R179). -/
theorem State.takeRing_cases (s : State) (x : PosterState) :
    (s.ringOk = true ∧ s.takeRing x = { s with poster := { s.poster with
        ringChange := false, index := 0, step := .readWord0, state := x } })
    ∨ (s.ringOk = false ∧ s.takeRing x = { s with poster := { s.poster with ringChange := false, state := .disabled } }) := by
  unfold State.takeRing
  split
  next h => exact .inl ⟨h, rfl⟩
  next h => exact .inr ⟨by simpa using h, rfl⟩

theorem State.takeRing_heldWord (s : State) (x : PosterState) (w : Watched) : (s.takeRing x).heldWord w = s.heldWord w := by
  rcases s.takeRing_cases x with ⟨-, e⟩ | ⟨-, e⟩ <;> rw [e] <;> cases w <;> rfl

/-- What RESUME makes of the poster, before the points are handed over (R182). -/
inductive State.Resumed (s : State) : State → Prop
  | changed (busy : s.poster.state = .busy) (c : s.poster.ringChange = true) :
      Resumed s (State.takeRing { s with poster := { s.poster with wrapFault := false } } .posting)
  | unchanged (busy : s.poster.state = .busy) (c : s.poster.ringChange = false) :
      Resumed s { s with poster := { s.poster with wrapFault := false, state := .posting, step := .readWord0 } }
  | disabled (d : s.poster.state = .disabled) :
      Resumed s (State.takeRing { s with poster := { s.poster with wrapFault := false } } s.poster.ready)
  | open_ (o : s.poster.state = .idle ∨ s.poster.state = .posting) :
      Resumed s { s with poster := { s.poster with wrapFault := false } }

theorem State.endBusy_reacts (s : State) : s.Reacts s.endBusy :=
  .trans (.of_alarm s { s.alarm with ringBusy := false } rfl rfl) (State.setPoint_reacts _ _ _)

theorem State.resume_resumed (s : State) : ∃ u, s.Resumed u ∧ u.Reacts s.resume := by
  have ended (u : State) : u.Reacts u.endBusy.handRingFormat := u.endBusy_reacts.trans (State.handRingFormat_reacts _)
  unfold State.resume
  dsimp only
  split
  next h =>
    split
    next c => exact ⟨_, .changed h c, ended _⟩
    next c => exact ⟨_, .unchanged h (by simpa using c), ended _⟩
  next h => exact ⟨_, .disabled h, State.handRingFormat_reacts _⟩
  next h => exact ⟨_, .open_ (.inl h), State.handRingFormat_reacts _⟩
  next h => exact ⟨_, .open_ (.inr h), State.handRingFormat_reacts _⟩

theorem State.Resumed.path {s u : State} (h : s.Resumed u) : u.path = s.path := by
  cases h with
  | changed | disabled => exact (State.takeRing_frame _ _).2.2.1
  | unchanged | open_ => rfl

theorem State.Resumed.heldWord {s u : State} (h : s.Resumed u) (w : Watched) : u.heldWord w = s.heldWord w := by
  cases h with
  | changed | disabled => exact (State.takeRing_heldWord _ _ w).trans (by cases w <;> rfl)
  | unchanged | open_ => cases w <;> rfl

/-- RUNNING begins with reactions, the ring taken up, and reactions (R17, R179). -/
theorem State.beginRunning_cases (s : State) : ∃ v, State.Reacts { s with path := { s.path with op := .running } } v
    ∧ (v.takeRing v.poster.ready).Reacts s.beginRunning := by
  unfold State.beginRunning State.startRing
  refine ⟨_, ?_, (State.handRingFormat_reacts _).trans (State.completeRestart_reacts _)⟩
  refine .trans (.trans (.trans (.trans ?_ (State.adoptElements_reacts _)) (.foldl State.adoptGroup_reacts _ _))
    (State.timingStart_reacts _)) (State.beginRound_reacts _)
  exact State.setPoint_reacts _ _ _

/-- After the loader's last word RUNNING begins; before it the loader stands on the next (R16). -/
theorem State.loaderNext_cases (s : State) :
    (s.path.loaderAt + 1 = loaderOrder.length
      ∧ s.loaderNext = State.beginRunning { s with path := { s.path with loaderAt := s.path.loaderAt + 1, writeBack := none } })
    ∨ (s.path.loaderAt + 1 ≠ loaderOrder.length
      ∧ s.loaderNext = { s with path := { s.path with loaderAt := s.path.loaderAt + 1, writeBack := none } }) := by
  unfold State.loaderNext
  dsimp only
  split
  next h => exact .inl ⟨h, rfl⟩
  next h => exact .inr ⟨h, rfl⟩

/-- The start check ends with reactions, and LOADING or STANDBY is entered (R14, R15). -/
theorem State.endStartCheck_cases (s : State) (op : s.path.op = .startCheck) : ∃ v, s.Reacts v
    ∧ (s.endStartCheck = v.enterLoading
      ∨ State.Reacts { v with path := { v.path with op := .standby } } s.endStartCheck) := by
  unfold State.endStartCheck
  rw [if_pos op]
  extract_lets t u
  have reacts : s.Reacts u := .trans (.iteSelf (c := s.mailbox.state = .executing) (.of_mailbox s s.mailbox.restarted))
    (State.handRingFormat_reacts t)
  refine ⟨u, reacts, ?_⟩
  split
  · exact .inl rfl
  · exact .inr ((State.enterAllAlarm_reacts _).trans (State.setPoint_reacts _ _ _))

/-- The read-back of STANDBY, when it is owed (R15). -/
theorem State.readBack_cases (s : State) (op : s.path.op = .standby) (owed : s.path.readBackOwed = true) :
    s.readBack = s.enterLoading ∨ s.readBack = { s with path := { s.path with readBackOwed := false } } := by
  unfold State.readBack
  rw [if_pos ⟨op, owed⟩]
  dsimp only
  split
  · exact .inl rfl
  · exact .inr rfl

/-- The read of word 0 keeps WRAP and goes on, or enters BUSY (R180, R182). -/
theorem State.readWord0_cases {s : State} {e : Event} (due : s.posting .readWord0 = some e) :
    s.readWord0 = { s with poster := { s.poster with
      wrapKept := flag (s.memWord (s.descriptorAddr 0)) 1, step := .writeWord1 } }
    ∨ State.Reacts { s with poster := { s.poster with state := .busy } } s.readWord0 := by
  unfold State.readWord0
  rw [due]
  dsimp only
  split
  · exact .inl rfl
  · refine .inr (.trans ?_ (State.setPoint_reacts _ _ _))
    exact .of_alarm { s with poster := { s.poster with state := .busy } } { s.alarm with ringBusy := true } rfl rfl

/-- The writes of words 1, 2 and 3 write one word of the descriptor (R180). -/
theorem State.writeWord_cases {s : State} {e : Event}
    (due : s.posting .writeWord1 = some e ∨ s.posting .writeWord2 = some e ∨ s.posting .writeWord3 = some e) :
    ∃ j w next, j < 4 ∧ s.writeWord = s.writeDescriptor j w next := by
  unfold State.writeWord
  rcases due with d | d | d
  · exact ⟨1, e.word1, .writeWord2, by omega, by rw [d]⟩
  · have n : s.posting .writeWord1 = none := Option.eq_none_iff_forall_not_mem.mpr fun x h => by
      have h2 := (State.posting_eq_some.mp d).2.2.1
      rw [(State.posting_eq_some.mp h).2.2.1] at h2
      cases h2
    exact ⟨2, e.detail.word, .writeWord3, by omega, by rw [n, d]⟩
  · have n (st : PostStep) (k : st ≠ .writeWord3) : s.posting st = none := Option.eq_none_iff_forall_not_mem.mpr fun x h =>
      k ((State.posting_eq_some.mp h).2.2.1.symm.trans (State.posting_eq_some.mp d).2.2.1)
    exact ⟨3, e.stamp, .writeWord0, by omega, by rw [n .writeWord1 nofun, n .writeWord2 nofun, d]⟩

/-- The write of word 0 writes it, and the event leaves the queue (R180, R181). -/
theorem State.writeWord0_cases {s : State} {e : Event} (due : s.posting .writeWord0 = some e) : ∃ b, s.posterGrant = some b
    ∧ State.Reacts { s.memWrite (s.descriptorAddr 0) .word (e.word0 s.poster.wrapKept b) with poster := s.poster.posted b }
      s.writeWord0 := by
  obtain ⟨b, hb⟩ := Option.isSome_iff_exists.mp (State.posting_eq_some.mp due).2.2.2.1
  refine ⟨b, hb, ?_⟩
  unfold State.writeWord0
  rw [due, hb]
  refine .trans ?_ (State.handRingFormat_reacts _)
  exact .of_alarm { s.memWrite (s.descriptorAddr 0) .word (e.word0 s.poster.wrapKept b) with poster := s.poster.posted b }
    { s.alarm with eventPosted := true } rfl rfl

/-- Posting leaves the poster IDLE with nothing queued and POSTING with an event, and moves the index on (R181). -/
theorem Poster.posted_eq (p : Poster) (b : Bool) :
    (p.posted b).queue = p.queue.tail ∧ (p.posted b).overflow = (p.overflow && !b)
    ∧ (p.posted b).state = (if p.queue.tail = [] then .idle else .posting) ∧ (p.posted b).step = .readWord0
    ∧ (p.posted b).ringBase = p.ringBase ∧ (p.posted b).ringSize = p.ringSize ∧ (p.posted b).ringChange = p.ringChange
    ∧ (p.posted b).index = p.advance.index ∧ (p.posted b).wrapFault = p.advance.wrapFault := by
  have h : p.advance.ringBase = p.ringBase ∧ p.advance.ringSize = p.ringSize ∧ p.advance.ringChange = p.ringChange := by
    unfold Poster.advance
    (repeat' split) <;> exact ⟨rfl, rfl, rfl⟩
  obtain ⟨hb, hs, hc⟩ := h
  simp only [Poster.posted, Poster.ready, hb, hs, hc, and_self]

end Sys2Proof.Machine

namespace Sys2Proof.Machine

/-! ## The event queue (R175, R179) -/

theorem Poster.queueSound_ready {p q : Poster} (h : p.queue.length ≤ 16) (hq : q.queue = p.queue)
    (hs : q.state = p.ready ∨ q.state = .disabled) : q.QueueSound := by
  unfold Poster.ready at hs
  refine ⟨hq ▸ h, fun i => ?_, fun b e => ?_⟩
  · rw [i] at hs
    split at hs
    next e => rw [hq, e]
    · simp at hs
  · rw [hq] at e
    rw [if_pos e] at hs
    rcases hs with hs | hs <;> rw [hs] at b <;> simp at b

/-- A poster that keeps its queue, and its state or one that also has an event at its head, stays sound. -/
theorem Poster.queueSound_congr {p q : Poster} (h : p.QueueSound) (hq : q.queue = p.queue) (hs : q.state = p.state) :
    q.QueueSound := by
  unfold Poster.QueueSound
  rw [hq, hs]
  exact h

theorem State.Passed.poster {s t : State} (h : s.Passed t) : t.poster = s.poster := by rw [h.eq]

theorem Poster.reset_queueSound (w : Word) (n : Nat) : (Poster.reset w n).QueueSound := ⟨Nat.zero_le _, nofun, nofun⟩

theorem State.Resumed.queueSound {s u : State} (h : s.Resumed u) (q : s.poster.QueueSound) : u.poster.QueueSound := by
  cases h with
  | changed busy c =>
    rcases State.takeRing_cases { s with poster := { s.poster with wrapFault := false } } .posting with ⟨-, e⟩ | ⟨-, e⟩ <;> rw [e]
    · exact ⟨q.1, nofun, fun _ => q.2.2 (.inr busy)⟩
    · exact ⟨q.1, nofun, nofun⟩
  | unchanged busy c => exact ⟨q.1, nofun, fun _ => q.2.2 (.inr busy)⟩
  | disabled d =>
    rcases State.takeRing_cases { s with poster := { s.poster with wrapFault := false } } s.poster.ready with ⟨-, e⟩ | ⟨-, e⟩ <;>
      rw [e]
    · exact Poster.queueSound_ready (p := s.poster) q.1 rfl (.inl rfl)
    · exact Poster.queueSound_ready (p := s.poster) q.1 rfl (.inr rfl)
  | open_ o => exact q

theorem State.Served.queueSound {s t : State} (h : s.Served t) (q : s.poster.QueueSound) : t.poster.QueueSound := by
  cases h with
  | held c => exact q
  | standby op passed => exact (passed.poster ▸ q :)
  | watched op w l d =>
    rw [s.watchedWrite_eq]
    exact State.take_queueSound _ _ _ _ q
  | reacts op passed h => exact h.poster.queueSound (passed.poster ▸ q)
  | resumed op passed h k =>
    obtain ⟨u, r, h'⟩ := State.resume_resumed _
    exact k.poster.queueSound (h'.poster.queueSound (r.queueSound (h.poster.queueSound (passed.poster ▸ q))))
  | restarted op passed h => exact Poster.reset_queueSound _ _

theorem State.serve_queueSound (s : State) (c : Cycle) (q : s.poster.QueueSound) : (s.serve c).poster.QueueSound := by
  unfold State.serve
  split
  · exact q
  · exact (s.processorCycle_served c).queueSound q

/-- What every cycle served keeps, the cycles that meet a free port keep together. -/
theorem State.serveHeld_keeps {I : State → Prop} (held : ∀ s l, I s → I { s with path := { s.path with held := l } })
    (serve : ∀ s c, I s → I (s.serve c)) (s : State) (h : I s) : I s.serveHeld := by
  have fold : ∀ (l : List Cycle) (u : State), I u → I (l.foldl State.serve u) := by
    intro l
    induction l with
    | nil => exact fun _ h => h
    | cons c l ih => exact fun u h => ih _ (serve u c h)
  exact fold _ _ (held s [] h)

theorem State.serveHeld_queueSound (s : State) (q : s.poster.QueueSound) : s.serveHeld.poster.QueueSound :=
  State.serveHeld_keeps (I := fun s => s.poster.QueueSound) (fun _ _ h => h) (fun s c h => s.serve_queueSound c h) s q

theorem State.loaderNext_queueSound (s : State) (q : s.poster.QueueSound) : s.loaderNext.poster.QueueSound := by
  rcases s.loaderNext_cases with ⟨-, e⟩ | ⟨-, e⟩ <;> rw [e]
  · obtain ⟨v, h, k⟩ := State.beginRunning_cases
      { s with path := { s.path with loaderAt := s.path.loaderAt + 1, writeBack := none } }
    have qv : v.poster.QueueSound := h.poster.queueSound q
    refine k.poster.queueSound ?_
    rcases v.takeRing_cases v.poster.ready with ⟨-, r⟩ | ⟨-, r⟩ <;> rw [r]
    · exact Poster.queueSound_ready qv.1 rfl (.inl rfl)
    · exact Poster.queueSound_ready qv.1 rfl (.inr rfl)
  · exact q

theorem Poster.QueueSound.posted {p : Poster} (q : p.QueueSound) (b : Bool) : (p.posted b).QueueSound := by
  obtain ⟨hq, -, hs, -⟩ := p.posted_eq b
  have len := q.1
  refine ⟨?_, fun i => ?_, fun k n => ?_⟩
  · rw [hq, List.length_tail]
    omega
  · rw [hs] at i
    split at i
    next n => rw [hq, n]
    · cases i
  · rw [hq] at n
    rw [hs, if_pos n] at k
    simp at k

theorem State.Effect.queueSound {s t : State} (h : s.Effect t) (q : s.poster.QueueSound) : t.poster.QueueSound := by
  have granted (u : State) (h : u.poster.QueueSound) : u.serveHeld.grantAfresh.poster.QueueSound := u.serveHeld_queueSound h
  cases h with
  | processor c =>
    have served := (s.processorCycle_served c).queueSound q
    unfold State.processor State.eventDone
    (repeat' split) <;> assumption
  | reacts h =>
    rw [(State.eventDone_frame _).2.2.2.2.2.2.2.2.2]
    exact h.poster.queueSound q
  | powerOn x => exact Poster.reset_queueSound _ _
  | startCheck op =>
    refine granted _ ?_
    obtain ⟨v, h, e | k⟩ := s.endStartCheck_cases op
    · exact e ▸ h.poster.queueSound q
    · exact k.poster.queueSound (h.poster.queueSound q)
  | loaderRead op =>
    refine granted _ ?_
    rcases s.loadWord_cases op with ⟨e, -⟩ | ⟨w, v, -, -, -, ⟨-, e⟩ | ⟨-, e⟩⟩ <;> rw [e]
    · exact q
    · exact State.loaderNext_queueSound _ (s.take_queueSound _ _ _ q)
    · exact q
  | loaderWriteBack op =>
    refine granted _ ?_
    rcases s.writeBackWord_cases op with ⟨-, e⟩ | ⟨b, -, e⟩ <;> rw [e]
    · exact q
    · exact State.loaderNext_queueSound _ (State.take_queueSound _ _ _ _ q)
  | readBack op owed =>
    refine granted _ ?_
    rcases s.readBack_cases op owed with e | e <;> rw [e] <;> exact q
  | word0Read due =>
    refine granted _ ?_
    rcases State.readWord0_cases due with e | h
    · exact e ▸ q
    · exact h.poster.queueSound ⟨q.1, nofun, fun _ => q.2.2 (.inl (State.posting_eq_some.mp due).2.1)⟩
  | wordWrite due =>
    refine granted _ ?_
    obtain ⟨j, w, next, -, e⟩ := State.writeWord_cases due
    exact e ▸ q
  | word0Write due =>
    refine granted _ ?_
    obtain ⟨b, -, h⟩ := State.writeWord0_cases due
    exact h.poster.queueSound (q.posted b)

/-! ## The memory port (R11, R13) -/

/-- What the poster keeps of `PortSound`, whoever holds the port. -/
structure State.PosterReady (s : State) : Prop where
  queue    : s.poster.QueueSound
  overflow : s.poster.overflow = true → 15 ≤ s.poster.queue.length
  stopped  : s.path.op ≠ .running → s.poster.state = .disabled
  change   : s.path.op = .running → s.poster.ringChange = true → s.poster.state = .busy ∨ s.poster.state = .disabled
  wrap     : s.poster.state = .disabled → s.poster.wrapFault = false

/-- A state whose port has fallen free and is not granted yet: a cycle is held on in RUNNING only for an urgent poster, and in
STANDBY only for the read-back. -/
structure State.PortReady (s : State) : Prop extends s.PosterReady where
  standby : s.path.op = .standby → s.path.readBackOwed = false → s.path.held = []
  running : s.path.op = .running → s.path.held ≠ [] → s.poster.state = .posting ∧ 12 ≤ s.poster.queue.length

theorem State.PortSound.posterReady {s : State} (h : s.PortSound) : s.PosterReady :=
  ⟨h.queue, h.overflow, h.stopped, h.change, h.wrap⟩

theorem State.arbitrate_unwaited {s : State} (h : s.path.op = .running ∧ s.poster.state ≠ .posting
    ∨ s.path.op = .standby ∧ s.path.readBackOwed = false) (p : Bool) :
    s.arbitrate p = if p then some .processor else none := by
  have none_ : s.masterWaiting = none := by
    unfold State.masterWaiting
    rcases h with ⟨op, st⟩ | ⟨op, owed⟩
    · rw [op]
      exact if_neg st
    · rw [op]
      simp [owed]
  unfold State.arbitrate
  rw [none_]

theorem State.arbitrate_posting {s : State} (op : s.path.op = .running) (st : s.poster.state = .posting) (p : Bool) :
    s.arbitrate p = if p = true ∧ s.poster.queue.length < 12 then some .processor else some (.poster s.poster.overflow) := by
  have waits : s.masterWaiting = some (.poster s.poster.overflow) := by
    unfold State.masterWaiting
    rw [op]
    exact if_pos st
  unfold State.arbitrate
  rw [waits]
  change (if (p && decide (s.poster.queue.length < 12)) = true then _ else _) = _
  simp only [Bool.and_eq_true, decide_eq_true_eq]

theorem State.arbitrate_memoryPath {s : State} (h : s.path.op = .startCheck ∨ s.path.op = .loading
    ∨ s.path.op = .standby ∧ s.path.readBackOwed = true) (p : Bool) : s.arbitrate p = some .memoryPath := by
  have waits : s.masterWaiting = some .memoryPath := by
    unfold State.masterWaiting
    rcases h with op | op | ⟨op, owed⟩ <;> rw [op]
    simp [owed]
  unfold State.arbitrate
  rw [waits]

theorem State.processorWaiting_nil {s : State} (h : s.path.held = []) : s.processorWaiting = false := by
  unfold State.processorWaiting
  rw [h]
  rfl

theorem State.PortReady.granted_posting {s : State} (h : s.PortReady) (op : s.path.op = .running)
    (st : s.poster.state = .posting) : s.grantAfresh.path.grant = some (.poster s.poster.overflow) := by
  refine (State.arbitrate_posting op st _).trans (if_neg ?_)
  rintro ⟨waits, len⟩
  have urgent := (h.running op fun e => by rw [State.processorWaiting_nil e] at waits; cases waits).2
  omega

/-- A free port granted afresh is held as `PortSound` says. -/
theorem State.PortReady.granted {s : State} (h : s.PortReady) : s.grantAfresh.PortSound where
  queue := h.queue
  overflow := h.overflow
  stopped := h.stopped
  change := h.change
  wrap := h.wrap
  loading := fun op => State.arbitrate_memoryPath (s := s) (op.imp id .inl) _
  standby := fun op => by
    refine ⟨fun owed => State.arbitrate_memoryPath (s := s) (.inr (.inr ⟨op, owed⟩)) _, fun owed => ?_⟩
    have none_ := h.standby op owed
    refine ⟨(State.arbitrate_unwaited (s := s) (.inr ⟨op, owed⟩) _).trans ?_, none_⟩
    rw [State.processorWaiting_nil none_]
    rfl
  running := fun op => by
    refine ⟨fun st => ⟨s.poster.overflow, h.granted_posting op st⟩, fun st => ?_⟩
    have none_ : s.path.held = [] := not_not.mp fun n => st (h.running op n).1
    refine ⟨(State.arbitrate_unwaited (s := s) (.inl ⟨op, st⟩) _).trans ?_, none_⟩
    rw [State.processorWaiting_nil none_]
    rfl
  granted := fun op st ov _ => (h.granted_posting op st).trans (by rw [show s.poster.overflow = true from ov])

theorem State.Reacts.posterReady {s t : State} (h : s.Reacts t) (r : s.PosterReady) : t.PosterReady where
  queue := h.poster.queueSound r.queue
  overflow := fun o => by
    rcases h.poster.overflow o with o | full
    · exact (r.overflow o).trans h.poster.queue.length_le
    · omega
  stopped := fun op => by
    rw [h.path] at op
    have d := r.stopped op
    rw [h.poster.state_of_not_idle (by simp [d]), d]
  change := fun op c => by
    rw [h.path] at op
    rw [h.poster.ringChange] at c
    have b := r.change op c
    rw [h.poster.state_of_not_idle (by rcases b with b | b <;> simp [b])]
    exact b
  wrap := fun d => by
    rw [h.poster.wrapFault]
    rcases h.poster.state with ⟨e, -⟩ | ⟨-, e, -⟩
    · exact r.wrap (e ▸ d)
    · rw [e] at d
      cases d

theorem State.Passed.posterReady {s t : State} (h : s.Passed t) (r : s.PosterReady) : t.PosterReady := by
  rw [h.eq]
  exact ⟨r.queue, r.overflow, r.stopped, r.change, r.wrap⟩

theorem State.Passed.op {s t : State} (h : s.Passed t) : t.path.op = s.path.op := by rw [h.eq]

/-- The ring taken up, in RUNNING, with the wrap-fault flag clear. -/
theorem State.takeRing_posterReady (s : State) (x : PosterState) (op : s.path.op = .running) (r : s.PosterReady)
    (w : s.poster.wrapFault = false) (hx : x = s.poster.ready ∨ x = .posting ∧ s.poster.queue ≠ []) : (s.takeRing x).PosterReady := by
  rcases s.takeRing_cases x with ⟨-, e⟩ | ⟨-, e⟩ <;> rw [e]
  · refine ⟨?_, r.overflow, fun n => absurd op n, fun _ => nofun, fun _ => w⟩
    rcases hx with hx | ⟨hx, hq⟩
    · exact Poster.queueSound_ready r.queue.1 rfl (.inl hx)
    · exact ⟨r.queue.1, fun i => by simp [hx] at i, fun _ => hq⟩
  · exact ⟨Poster.queueSound_ready (p := s.poster) r.queue.1 rfl (.inr rfl), r.overflow, fun n => absurd op n, fun _ => nofun,
      fun _ => w⟩

theorem State.Resumed.posterReady {s u : State} (h : s.Resumed u) (op : s.path.op = .running) (r : s.PosterReady) :
    u.PosterReady := by
  have cleared : State.PosterReady { s with poster := { s.poster with wrapFault := false } } :=
    ⟨r.queue, r.overflow, r.stopped, r.change, fun _ => rfl⟩
  cases h with
  | changed busy c => exact State.takeRing_posterReady _ _ op cleared rfl (.inr ⟨rfl, r.queue.2.2 (.inr busy)⟩)
  | unchanged busy c =>
    exact ⟨⟨r.queue.1, nofun, fun _ => r.queue.2.2 (.inr busy)⟩, r.overflow, fun n => absurd op n,
      fun _ k => by simp [c] at k, fun _ => rfl⟩
  | disabled d => exact State.takeRing_posterReady _ _ op cleared rfl (.inl rfl)
  | open_ o => exact cleared

theorem State.take_posterReady (s : State) (w : Watched) (v : Word) (x : Verdict) (r : s.PosterReady)
    (ring : w = .ringBase ∨ w = .ringSize → v ≠ s.heldWord w → s.poster.state = .busy ∨ s.poster.state = .disabled) :
    (s.take w v x).PosterReady := by
  have path := s.take_path w v x
  have changed (p : Poster) (hs : p.state = s.poster.state) (hq : p.queue = s.poster.queue) (ho : p.overflow = s.poster.overflow)
      (hw : p.wrapFault = s.poster.wrapFault) (b : s.poster.state = .busy ∨ s.poster.state = .disabled)
      (g : p.Grows (s.take w v x).poster) : (s.take w v x).PosterReady := by
    have ready : State.PosterReady { s with poster := p } :=
      ⟨Poster.queueSound_congr r.queue hq hs, by simpa only [ho, hq] using r.overflow, by simpa only [hs] using r.stopped,
        fun _ _ => by simpa only [hs] using b, by simpa only [hs, hw] using r.wrap⟩
    have step : State.Reacts { s with poster := p } { s with poster := (s.take w v x).poster } :=
      .of_blocks rfl rfl rfl rfl rfl rfl (fun _ => rfl) rfl rfl rfl g
    obtain ⟨q, o, st, c, wf⟩ := step.posterReady ready
    exact ⟨q, o, fun n => st (path ▸ n), fun n => c (path ▸ n), wf⟩
  rcases s.take_poster w v x with g | ⟨e, k, g⟩ | ⟨e, k, g⟩
  · have step : s.Reacts { s with poster := (s.take w v x).poster } :=
      .of_blocks rfl rfl rfl rfl rfl rfl (fun _ => rfl) rfl rfl rfl g
    obtain ⟨q, o, st, c, wf⟩ := step.posterReady r
    exact ⟨q, o, fun n => st (path ▸ n), fun n => c (path ▸ n), wf⟩
  · exact changed { s.poster with ringBase := v, ringChange := true } rfl rfl rfl rfl (ring (.inl e) k) g
  · exact changed { s.poster with ringSize := v, ringChange := true } rfl rfl rfl rfl (ring (.inr e) k) g

theorem State.Served.posterReady {s t : State} (h : s.Served t) (r : s.PosterReady) : t.PosterReady := by
  cases h with
  | held c => exact ⟨r.queue, r.overflow, r.stopped, r.change, r.wrap⟩
  | standby op passed owed =>
    obtain ⟨q, o, st, c, w⟩ := passed.posterReady r
    exact ⟨q, o, st, c, w⟩
  | watched op w l d =>
    rw [s.watchedWrite_eq]
    refine State.take_posterReady _ _ _ _ ⟨r.queue, r.overflow, r.stopped, r.change, r.wrap⟩ fun ring k => ?_
    rw [State.memWrite_heldWord] at k
    by_contra n
    exact k (s.screen_ring_closed w _ ring (not_or.mp n))
  | reacts op passed h => exact h.posterReady (passed.posterReady r)
  | resumed op passed h k =>
    obtain ⟨u, rs, h'⟩ := State.resume_resumed _
    exact k.posterReady (h'.posterReady (rs.posterReady (by rw [h.path, passed.op, op]) (h.posterReady (passed.posterReady r))))
  | restarted op passed h =>
    exact ⟨Poster.reset_queueSound _ _, nofun, fun _ => rfl, nofun, fun _ => rfl⟩

/-- A served cycle leaves the held cycles as they are, but where it waits itself. -/
theorem State.Served.held_running {s t : State} (h : s.Served t) (op : s.path.op = .running) (run : t.path.op = .running) :
    t.path.held = s.path.held := by
  cases h with
  | held c busy => simp [op] at busy
  | standby st => rw [op] at st; cases st
  | watched op w l d => rw [s.watchedWrite_eq, State.take_path]; rfl
  | reacts op passed h => rw [h.path, passed.eq]
  | resumed op passed h k =>
    rw [k.path, (State.resume_frame _).2.2.1, h.path, passed.eq]
  | restarted => cases run

theorem State.Served.not_standby {s t : State} (h : s.Served t) (op : s.path.op = .running) : t.path.op ≠ .standby := by
  cases h with
  | held c busy => simp [op] at busy
  | standby st => rw [op] at st; cases st
  | watched op w l d => rw [s.watchedWrite_eq, State.take_path]; exact fun e => by simp [State.memWrite, op] at e
  | reacts op passed h => simp [h.path, passed.op, op]
  | resumed op passed h k =>
    rw [k.path, (State.resume_frame _).2.2.1, h.path, passed.op, op]
    nofun
  | restarted => nofun

/-- Outside RUNNING the operating state stands, and cycles are held on only where they wait. -/
theorem State.Served.not_running {s t : State} (h : s.Served t) (op : s.path.op ≠ .running) : t.path.op = s.path.op
    ∧ (s.path.op = .standby → t.path.readBackOwed = false → s.path.readBackOwed = false ∧ t.path.held = s.path.held) := by
  cases h with
  | held c busy =>
    refine ⟨rfl, fun st owed => ?_⟩
    simp only [State.holdCycle] at owed
    simp [st, owed] at busy
  | standby st passed owed kept =>
    refine ⟨by rw [passed.eq], fun _ o => ⟨?_, by rw [passed.eq]⟩⟩
    by_contra n
    rw [show owed = false from o] at kept
    exact absurd (kept (by simpa using n)) nofun
  | watched run => exact absurd run op
  | reacts run => exact absurd run op
  | resumed run => exact absurd run op
  | restarted run => exact absurd run op

/-- A cycle that meets the free port leaves it ready to be granted. -/
theorem State.PortReady.serve {s : State} (r : s.PortReady) (c : Cycle) : (s.serve c).PortReady := by
  unfold State.serve
  split
  next waits =>
    refine ⟨⟨r.queue, r.overflow, r.stopped, r.change, r.wrap⟩, fun op owed => ?_, fun op _ => ?_⟩
    · exact absurd (State.arbitrate_unwaited (s := s) (.inr ⟨op, owed⟩) true) waits.2
    · by_cases st : s.poster.state = .posting
      · refine ⟨st, Nat.le_of_not_lt fun len => waits.2 ?_⟩
        exact (State.arbitrate_posting op st true).trans (if_pos ⟨rfl, len⟩)
      · exact absurd (State.arbitrate_unwaited (s := s) (.inl ⟨op, st⟩) true) waits.2
  next served =>
    have h := s.processorCycle_served c
    refine ⟨h.posterReady r.toPosterReady, fun st owed => ?_, fun run ne => ?_⟩
    · by_cases op : s.path.op = .running
      · exact absurd st (h.not_standby op)
      · obtain ⟨e, k⟩ := h.not_running op
        obtain ⟨o, l⟩ := k (e ▸ st) owed
        rw [l]
        exact r.standby (e ▸ st) o
    · by_cases op : s.path.op = .running
      · rw [h.held_running op run] at ne
        obtain ⟨st, len⟩ := r.running op ne
        have portless : s.needsPort c = false := by
          by_contra n
          refine served ⟨by simpa using n, ?_⟩
          rw [State.arbitrate_posting op st, if_neg (by omega)]
          nofun
        rcases s.processorCycle_portless c portless with ⟨-, b⟩ | ⟨x, k⟩
        · simp [op] at b
        · exact ⟨(k.poster.state_of_not_idle (by simp [st])).trans st, len.trans k.poster.queue.length_le⟩
      · exact absurd ((h.not_running op).1 ▸ run) op

theorem State.PosterReady.serveHeld {s : State} (r : s.PosterReady) : s.serveHeld.PortReady := by
  have fold : ∀ (l : List Cycle) (u : State), u.PortReady → (l.foldl State.serve u).PortReady := by
    intro l
    induction l with
    | nil => exact fun _ h => h
    | cons c l ih => exact fun u h => ih _ (h.serve c)
  exact fold _ _ ⟨⟨r.queue, r.overflow, r.stopped, r.change, r.wrap⟩, fun _ _ => rfl, fun _ n => absurd rfl n⟩

/-- With the port free nothing waits for it, and no cycle is held. -/
theorem State.PortSound.free {s : State} (h : s.PortSound) (g : s.path.grant = none) : s.path.held = []
    ∧ (s.path.op = .running ∧ s.poster.state ≠ .posting ∨ s.path.op = .standby ∧ s.path.readBackOwed = false) := by
  cases op : s.path.op with
  | startCheck => simp [h.loading (.inl op)] at g
  | loading => simp [h.loading (.inr op)] at g
  | standby =>
    have owed : s.path.readBackOwed = false := by
      by_contra n
      simp [(h.standby op).1 (by simpa using n)] at g
    exact ⟨((h.standby op).2 owed).2, .inr ⟨rfl, owed⟩⟩
  | running =>
    have st : s.poster.state ≠ .posting := fun st => by
      obtain ⟨b, e⟩ := (h.running op).1 st
      simp [e] at g
    exact ⟨((h.running op).2 st).2, .inl ⟨rfl, st⟩⟩

theorem State.PortSound.ready {s : State} (h : s.PortSound) (g : s.path.grant = none) : s.PortReady :=
  ⟨h.posterReady, fun _ _ => (h.free g).1, fun _ n => absurd (h.free g).1 n⟩

/-- While the port is busy a reaction leaves it held as `PortSound` says. -/
theorem State.PortSound.reacts_busy {s t : State} (h : s.PortSound) (g : s.path.grant ≠ none) (k : s.Reacts t) :
    t.PortSound := by
  obtain ⟨q, o, st, c, w⟩ := k.posterReady h.posterReady
  have posting (op : s.path.op = .running) : s.poster.state = .posting := by
    by_contra n
    exact g ((h.running op).2 n).1
  have kept (op : s.path.op = .running) : t.poster.state = .posting :=
    (k.poster.state_of_not_idle (by simp [posting op])).trans (posting op)
  refine ⟨q, ?_, ?_, fun op => ?_, o, fun op _ ov len => ?_, st, c, w⟩
  · rw [k.path]
    exact h.loading
  · rw [k.path]
    exact h.standby
  · rw [k.path] at op ⊢
    exact ⟨fun _ => (h.running op).1 (posting op), fun n => absurd (kept op) n⟩
  · rw [k.path] at op ⊢
    have grew := k.poster.queue.length_le
    rcases k.poster.overflow ov with ov | full
    · have := h.overflow ov
      exact h.granted op (posting op) ov (by omega)
    · omega

theorem State.PortSound.reacts {s t : State} (h : s.PortSound) (k : s.Reacts t) : t.eventDone.PortSound := by
  by_cases g : s.path.grant = none
  · have ready : t.PortReady :=
      ⟨k.posterReady h.posterReady, fun _ _ => by rw [k.path]; exact (h.free g).1,
        fun _ n => by rw [k.path] at n; exact absurd (h.free g).1 n⟩
    unfold State.eventDone
    rw [if_pos (by rw [k.path]; exact g)]
    exact ready.granted
  · unfold State.eventDone
    rw [if_neg (by rw [k.path]; exact g)]
    exact h.reacts_busy g k

theorem State.PortSound.hold {s : State} (h : s.PortSound) (g : s.path.grant ≠ none) (c : Cycle) : (s.holdCycle c).PortSound where
  queue := h.queue
  loading := h.loading
  standby := fun op => ⟨(h.standby op).1, fun owed => absurd ((h.standby op).2 owed).1 g⟩
  running := fun op => ⟨(h.running op).1, fun st => absurd ((h.running op).2 st).1 g⟩
  overflow := h.overflow
  granted := h.granted
  stopped := h.stopped
  change := h.change
  wrap := h.wrap

/-- A processor's command keeps the port held as `PortSound` says. -/
theorem State.PortSound.processor {s : State} (h : s.PortSound) (c : Cycle) : (s.processor c).PortSound := by
  unfold State.processor
  split
  next needs =>
    split
    next g =>
      have serves : s.serve c = s.processorCycle c := if_neg fun ⟨_, e⟩ => e (State.arbitrate_unwaited (h.free g).2 true)
      exact (serves ▸ (h.ready g).serve c).granted
    next g => exact h.hold g c
  next portless =>
    rcases s.processorCycle_portless c (by simpa using portless) with ⟨e, busy⟩ | ⟨x, k⟩
    · have g : s.path.grant ≠ none := by simp [h.loading busy]
      rw [e, show (s.holdCycle c).eventDone = s.holdCycle c from if_neg g]
      exact h.hold g c
    · have shown : State.PortSound { s with path := { s.path with upstream := x } } :=
        ⟨h.queue, h.loading, h.standby, h.running, h.overflow, h.granted, h.stopped, h.change, h.wrap⟩
      exact shown.reacts k

theorem State.loaderNext_posterReady (s : State) (r : s.PosterReady) (op : s.path.op = .loading) : s.loaderNext.PosterReady := by
  have disabled := r.stopped (by simp [op])
  rcases s.loaderNext_cases with ⟨-, e⟩ | ⟨-, e⟩ <;> rw [e]
  · obtain ⟨v, h, k⟩ := State.beginRunning_cases
      { s with path := { s.path with loaderAt := s.path.loaderAt + 1, writeBack := none } }
    have begun : v.PosterReady := h.posterReady ⟨r.queue, r.overflow, fun n => absurd rfl n, fun _ _ => .inr disabled, r.wrap⟩
    have vd : v.poster.state = .disabled := (h.poster.state_of_not_idle (by simp [disabled])).trans disabled
    exact k.posterReady (State.takeRing_posterReady _ _ (by rw [h.path]) begun (begun.wrap vd) (.inl rfl))
  · exact ⟨r.queue, r.overflow, r.stopped, r.change, r.wrap⟩

/-- Every command keeps the memory port with its holder. -/
theorem State.Effect.portSound {s t : State} (h : s.Effect t) (p : s.PortSound) : t.PortSound := by
  have r := p.posterReady
  cases h with
  | processor c => exact p.processor c
  | reacts h => exact p.reacts h
  | powerOn x =>
    exact ⟨Poster.reset_queueSound _ _, fun _ => rfl, nofun, nofun, nofun, nofun, fun _ => rfl, nofun, fun _ => rfl⟩
  | startCheck op =>
    refine (State.PosterReady.serveHeld ?_).granted
    have disabled := r.stopped (by simp [op])
    obtain ⟨v, h, e | k⟩ := s.endStartCheck_cases op
    · have rv := h.posterReady r
      have vd := rv.stopped (by rw [h.path, op]; nofun)
      rw [e]
      exact ⟨rv.queue, rv.overflow, fun _ => vd, nofun, rv.wrap⟩
    · have rv := h.posterReady r
      have vd := rv.stopped (by rw [h.path, op]; nofun)
      exact k.posterReady ⟨rv.queue, rv.overflow, fun _ => vd, nofun, rv.wrap⟩
  | loaderRead op =>
    refine (State.PosterReady.serveHeld ?_).granted
    have taken (w v x) : (s.take w v x).PosterReady := s.take_posterReady w v x r fun _ _ => .inr (r.stopped (by simp [op]))
    rcases s.loadWord_cases op with ⟨e, -⟩ | ⟨w, v, -, -, -, ⟨-, e⟩ | ⟨-, e⟩⟩ <;> rw [e]
    · exact r
    · exact State.loaderNext_posterReady _ (taken _ _ _) (by rw [State.take_path, op])
    · exact ⟨r.queue, r.overflow, r.stopped, r.change, r.wrap⟩
  | loaderWriteBack op =>
    refine (State.PosterReady.serveHeld ?_).granted
    rcases s.writeBackWord_cases op with ⟨-, e⟩ | ⟨b, -, e⟩ <;> rw [e]
    · exact r
    · refine State.loaderNext_posterReady _ (State.take_posterReady _ _ _ _ ⟨r.queue, r.overflow, r.stopped, r.change, r.wrap⟩
        fun _ _ => .inr (r.stopped (by simp [op]))) ?_
      rw [State.take_path]
      exact op
  | readBack op owed =>
    refine (State.PosterReady.serveHeld ?_).granted
    have disabled := r.stopped (by simp [op])
    rcases s.readBack_cases op owed with e | e <;> rw [e]
    · exact ⟨r.queue, r.overflow, fun _ => disabled, nofun, r.wrap⟩
    · exact ⟨r.queue, r.overflow, r.stopped, r.change, r.wrap⟩
  | word0Read due =>
    refine (State.PosterReady.serveHeld ?_).granted
    obtain ⟨op, st, -, -, -⟩ := State.posting_eq_some.mp due
    rcases State.readWord0_cases due with e | h
    · exact e ▸ ⟨r.queue, r.overflow, r.stopped, r.change, r.wrap⟩
    · refine h.posterReady ⟨⟨r.queue.1, nofun, fun _ => r.queue.2.2 (.inl st)⟩, r.overflow, fun n => absurd op n,
        fun _ _ => .inl rfl, nofun⟩
  | wordWrite due =>
    refine (State.PosterReady.serveHeld ?_).granted
    obtain ⟨j, w, next, -, e⟩ := State.writeWord_cases due
    exact e ▸ ⟨r.queue, r.overflow, r.stopped, r.change, r.wrap⟩
  | word0Write due =>
    refine (State.PosterReady.serveHeld ?_).granted
    obtain ⟨op, st, -, -, -⟩ := State.posting_eq_some.mp due
    obtain ⟨b, hb, h⟩ := State.writeWord0_cases due
    obtain ⟨hq, ho, hs, -, -, -, hc, -, -⟩ := s.poster.posted_eq b
    refine h.posterReady ⟨r.queue.posted b, fun ov => ?_, fun n => absurd op n, fun _ c => ?_, fun d => ?_⟩
    · obtain ⟨ov, out⟩ : s.poster.overflow = true ∧ b = false := by simpa [ho] using ov
      have full : s.poster.queue.length ≠ 15 := fun len => by
        have granted := p.granted op st ov len
        rw [State.posterGrant, granted, out] at hb
        cases hb
      have := r.overflow ov
      simp only [hq, List.length_tail]
      omega
    · rw [show (s.poster.posted b).ringChange = true from c] at hc
      have := r.change op hc.symm
      simp [st] at this
    · rw [show (s.poster.posted b).state = .disabled from d] at hs
      split at hs <;> cases hs

theorem State.PortSound.withPending {s : State} (h : s.PortSound) (l : List Instr) : State.PortSound { s with pending := l } :=
  ⟨h.queue, h.loading, h.standby, h.running, h.overflow, h.granted, h.stopped, h.change, h.wrap⟩

end Sys2Proof.Machine

namespace Sys2Proof.Proofs
open Sys2Proof.Machine

/-- Settles O59: every effect of a command keeps the queue, and the port with its holder. -/
theorem queueKept : Obligations.QueueKept := by
  refine ⟨fun s t q h => ?_, fun s t p h => ?_⟩
  · rcases step_effect h with rfl | ⟨rest, e⟩
    · exact q
    · exact e.queueSound q
  · rcases step_effect h with rfl | ⟨rest, e⟩
    · exact p
    · exact e.portSound (p.withPending rest)

end Sys2Proof.Proofs

namespace Sys2Proof.Machine

/-! ## The group table as the held words give it (R74, R75) -/

/-- The number a port field of the held words names. -/
def portNumber (f : Watched → Word) (g : GroupId) (j : Fin 5) : Nat := bits (f (.group g ⟨j + 1, by omega⟩)) 0 6

/-- The number an element field of the held words names. -/
def elementNumber (f : Watched → Word) (g : GroupId) (b : Bool) : Nat := bits (f (.group g 6)) (if b then 8 else 0) 6

/-- The channel count the held words give a group. -/
def channelCount (f : Watched → Word) (g : GroupId) : Nat := bits (f (.group g 0)) 4 3

/-- `TableSound` as a law of the held words alone. -/
structure Table (f : Watched → Word) : Prop where
  portRange    : ∀ g j, portNumber f g j < 24 ∨ portNumber f g j = 63
  portOnce     : ∀ g j g' j', portNumber f g j ≠ 63 → portNumber f g j = portNumber f g' j' → g = g' ∧ j = j'
  monitored    : ∀ g j (p : Port), portNumber f g j = p.val → bits (f (.port p 0)) 0 2 = 1 ∨ bits (f (.port p 0)) 0 2 = 2
  counts       : ∀ g, 1 ≤ channelCount f g ∧ channelCount f g ≤ 4
  count        : ∀ g (k : ChannelIx), channelCount f g < k.val + 1 → 24 ≤ portNumber f g k.succ
  elementRange : ∀ g b, elementNumber f g b < 32 ∨ elementNumber f g b = 63
  elementOnce  : ∀ g b g' b', elementNumber f g b ≠ 63 → elementNumber f g b = elementNumber f g' b' → g = g' ∧ b = b'

theorem PortConfig.kind_ne_none (cfg : Vector Word 8) : PortConfig.kind cfg ≠ .none ↔ bits cfg[0] 0 2 = 1 ∨ bits cfg[0] 0 2 = 2 := by
  unfold PortConfig.kind
  split <;> simp_all

theorem portField_eq_none (w : Word) : portField w = none ↔ 24 ≤ bits w 0 6 := by
  unfold portField
  split <;> simp_all

theorem State.tableSound_iff (s : State) : s.TableSound ↔ Table s.heldWord := by
  have kind (p : Port) : s.sup.kind p ≠ .none ↔ bits (s.heldWord (.port p 0)) 0 2 = 1 ∨ bits (s.heldWord (.port p 0)) 0 2 = 2 :=
    PortConfig.kind_ne_none _
  have working (g : GroupId) (k : ChannelIx) :
      GroupConfig.working s.group[g].config k = none ↔ 24 ≤ portNumber s.heldWord g k.succ := by
    rw [show portNumber s.heldWord g k.succ = bits s.group[g].config[2 + k.val] 0 6 by
      simp only [portNumber, State.heldWord, Fin.val_succ, Fin.getElem_fin, Nat.add_comm, Nat.add_left_comm]]
    exact portField_eq_none _
  constructor
  · rintro ⟨range, once, monitored, counts, count, elRange, elOnce⟩
    exact ⟨range, once, fun g j p e => (kind p).mp (monitored g j p e), counts, fun g k h => (working g k).mp (count g k h),
      elRange, elOnce⟩
  · rintro ⟨range, once, monitored, counts, count, elRange, elOnce⟩
    exact ⟨range, once, fun g j p e => (kind p).mpr (monitored g j p e), counts, fun g k h => (working g k).mpr (count g k h),
      elRange, elOnce⟩

theorem State.TableSound.congr {s t : State} (h : s.TableSound) (e : ∀ w, t.heldWord w = s.heldWord w) : t.TableSound := by
  rw [State.tableSound_iff] at h ⊢
  rwa [funext e]

/-- The held words with one replaced. -/
theorem State.setHeld_heldWord (s : State) (w : Watched) (v : Word) :
    (s.setHeld w v).heldWord = Function.update s.heldWord w v := by
  funext x
  by_cases h : x = w
  · subst h
    rw [s.heldWord_setHeld, Function.update_self]
  · rw [s.heldWord_setHeld_other _ _ _ h, Function.update_of_ne h]

/-- A change of a word that is in no field of the group table. -/
theorem Table.other {f : Watched → Word} (h : Table f) {w : Watched} (v : Word)
    (hg : ∀ (g : GroupId) (j : Fin 7), w ≠ .group g j.castSucc) (hp : ∀ p, w ≠ .port p 0) : Table (Function.update f w v) := by
  have group (g : GroupId) (j : Fin 7) : Function.update f w v (.group g j.castSucc) = f (.group g j.castSucc) :=
    Function.update_of_ne (hg g j).symm _ _
  have port (p : Port) : Function.update f w v (.port p 0) = f (.port p 0) := Function.update_of_ne (hp p).symm _ _
  have number (g : GroupId) (j : Fin 5) : portNumber (Function.update f w v) g j = portNumber f g j :=
    congrArg (bits · 0 6) (group g ⟨j + 1, by omega⟩)
  have element (g : GroupId) (b : Bool) : elementNumber (Function.update f w v) g b = elementNumber f g b :=
    congrArg (bits · _ 6) (group g 6)
  have counted (g : GroupId) : channelCount (Function.update f w v) g = channelCount f g := congrArg (bits · 4 3) (group g 0)
  obtain ⟨range, once, monitored, counts, count, elRange, elOnce⟩ := h
  constructor <;> simp only [number, element, counted, port] <;> assumption

theorem Watched.group_ne {g g' : GroupId} {j j' : Fin 8} (h : j ≠ j') : Watched.group g j ≠ .group g' j' :=
  fun e => h (Watched.group.inj e).2

/-- A monitor kind written: the port stays monitored, or no field names it (R32). -/
theorem Table.monitorWritten {f : Watched → Word} (h : Table f) (p : Port) (v : Word)
    (hv : bits v 0 2 = 1 ∨ bits v 0 2 = 2 ∨ ∀ g j, portNumber f g j ≠ p.val) : Table (Function.update f (.port p 0) v) := by
  obtain ⟨range, once, monitored, counts, count, elRange, elOnce⟩ := h
  refine ⟨range, once, fun g j q e => ?_, counts, count, elRange, elOnce⟩
  by_cases k : q = p
  · subst k
    rw [Function.update_self]
    rcases hv with hv | hv | hv
    · exact .inl hv
    · exact .inr hv
    · exact absurd e (hv g j)
  · rw [Function.update_of_ne (by simpa using k)]
    exact monitored g j q e

/-- A kind and count written: the count is in range, and no channel above it names a port (R75). -/
theorem Table.kindWritten {f : Watched → Word} (h : Table f) (g : GroupId) (v : Word) (hc : 1 ≤ bits v 4 3 ∧ bits v 4 3 ≤ 4)
    (hn : ∀ k : ChannelIx, bits v 4 3 < k.val + 1 → 24 ≤ portNumber f g k.succ) : Table (Function.update f (.group g 0) v) := by
  obtain ⟨range, once, monitored, counts, count, elRange, elOnce⟩ := h
  have number (g' : GroupId) (j : Fin 5) : portNumber (Function.update f (.group g 0) v) g' j = portNumber f g' j :=
    congrArg (bits · 0 6) (Function.update_of_ne (Watched.group_ne (Fin.ne_of_val_ne (Nat.succ_ne_zero _))) _ _)
  have element (g' : GroupId) (b : Bool) : elementNumber (Function.update f (.group g 0) v) g' b = elementNumber f g' b :=
    congrArg (bits · _ 6) (Function.update_of_ne (Watched.group_ne (by decide)) _ _)
  have port (p : Port) : Function.update f (.group g 0) v (.port p 0) = f (.port p 0) := Function.update_of_ne (by simp) _ _
  have counted (g' : GroupId) : channelCount (Function.update f (.group g 0) v) g' = if g' = g then bits v 4 3 else channelCount f g' := by
    unfold channelCount
    rw [Function.update_apply]
    simp only [Watched.group.injEq, and_true]
    split <;> rfl
  constructor <;> simp only [number, element, port, counted]
  · exact range
  · exact once
  · exact monitored
  · intro g'
    split
    · exact hc
    · exact counts g'
  · intro g' k
    split
    next e => exact e ▸ hn k
    · exact count g' k
  · exact elRange
  · exact elOnce

/-- A port field written: it names none, or a monitored port that no other field names, on a channel the group has (R74, R75). -/
theorem Table.portWritten {f : Watched → Word} (h : Table f) (g : GroupId) (i : Fin 5) (v : Word)
    (hv : bits v 0 6 = 63 ∨ (bits v 0 6 < 24 ∧ (∀ g' j, ¬ (g' = g ∧ j = i) → portNumber f g' j ≠ bits v 0 6)
      ∧ (∀ p : Port, bits v 0 6 = p.val → bits (f (.port p 0)) 0 2 = 1 ∨ bits (f (.port p 0)) 0 2 = 2)
      ∧ i.val ≤ channelCount f g)) : Table (Function.update f (.group g ⟨i + 1, by omega⟩) v) := by
  obtain ⟨range, once, monitored, counts, count, elRange, elOnce⟩ := h
  have number (g' : GroupId) (j : Fin 5) : portNumber (Function.update f (.group g ⟨i + 1, by omega⟩) v) g' j
      = if g' = g ∧ j = i then bits v 0 6 else portNumber f g' j := by
    unfold portNumber
    rw [Function.update_apply]
    simp only [Watched.group.injEq, Fin.mk.injEq, Nat.add_right_cancel_iff, ← Fin.ext_iff]
    split <;> rfl
  have element (g' : GroupId) (b : Bool) :
      elementNumber (Function.update f (.group g ⟨i + 1, by omega⟩) v) g' b = elementNumber f g' b :=
    congrArg (bits · _ 6) (Function.update_of_ne (by simp [Fin.ext_iff]; omega) _ _)
  have port (p : Port) : Function.update f (.group g ⟨i + 1, by omega⟩) v (.port p 0) = f (.port p 0) :=
    Function.update_of_ne (by simp) _ _
  have counted (g' : GroupId) : channelCount (Function.update f (.group g ⟨i + 1, by omega⟩) v) g' = channelCount f g' :=
    congrArg (bits · 4 3) (Function.update_of_ne (Watched.group_ne (Fin.ne_of_val_ne (Nat.succ_ne_zero _).symm)) _ _)
  constructor <;> simp only [number, element, port, counted]
  · intro g' j
    split
    · exact hv.symm.imp (·.1) id
    · exact range g' j
  · intro g1 j1 g2 j2 ne e
    by_cases a : g1 = g ∧ j1 = i
    · rw [if_pos a] at ne e
      by_cases b : g2 = g ∧ j2 = i
      · exact ⟨a.1.trans b.1.symm, a.2.trans b.2.symm⟩
      · rw [if_neg b] at e
        exact absurd e.symm ((hv.resolve_left ne).2.1 g2 j2 b)
    · rw [if_neg a] at ne e
      by_cases b : g2 = g ∧ j2 = i
      · rw [if_pos b] at e
        rw [e] at ne
        exact absurd e ((hv.resolve_left ne).2.1 g1 j1 a)
      · rw [if_neg b] at e
        exact once g1 j1 g2 j2 ne e
  · intro g' j p
    split
    · intro e
      rcases hv with hv | hv
      · have := p.isLt
        omega
      · exact hv.2.2.1 p e
    · exact monitored g' j p
  · exact counts
  · intro g' k above
    split
    next e =>
      rcases hv with hv | hv
      · omega
      · have below := hv.2.2.2
        have := congrArg Fin.val e.2
        rw [e.1] at above
        simp only [Fin.val_succ] at this
        omega
    · exact count g' k above
  · exact elRange
  · exact elOnce

/-- An element word written: each field names none, or an element that no field of another group names, and the two differ
(R74). -/
theorem Table.elementsWritten {f : Watched → Word} (h : Table f) (g : GroupId) (v : Word)
    (hv : ∀ b : Bool, bits v (if b then 8 else 0) 6 = 63 ∨ (bits v (if b then 8 else 0) 6 < 32
      ∧ ∀ g' c, g' ≠ g → elementNumber f g' c ≠ bits v (if b then 8 else 0) 6))
    (differ : bits v 0 6 = bits v 8 6 → bits v 0 6 = 63) : Table (Function.update f (.group g 6) v) := by
  obtain ⟨range, once, monitored, counts, count, elRange, elOnce⟩ := h
  have number (g' : GroupId) (j : Fin 5) : portNumber (Function.update f (.group g 6) v) g' j = portNumber f g' j :=
    congrArg (bits · 0 6) (Function.update_of_ne (by simp [Fin.ext_iff]; omega) _ _)
  have element (g' : GroupId) (b : Bool) : elementNumber (Function.update f (.group g 6) v) g' b
      = if g' = g then bits v (if b then 8 else 0) 6 else elementNumber f g' b := by
    unfold elementNumber
    rw [Function.update_apply]
    simp only [Watched.group.injEq, and_true]
    split <;> rfl
  have port (p : Port) : Function.update f (.group g 6) v (.port p 0) = f (.port p 0) := Function.update_of_ne (by simp) _ _
  have counted (g' : GroupId) : channelCount (Function.update f (.group g 6) v) g' = channelCount f g' :=
    congrArg (bits · 4 3) (Function.update_of_ne (Watched.group_ne (by decide)) _ _)
  constructor <;> simp only [number, element, port, counted]
  · exact range
  · exact once
  · exact monitored
  · exact counts
  · exact count
  · intro g' b
    split
    · exact (hv b).symm.imp (·.1) id
    · exact elRange g' b
  · intro g1 b1 g2 b2 ne e
    by_cases a : g1 = g
    · rw [if_pos a] at ne e
      by_cases b : g2 = g
      · rw [if_pos b] at e
        refine ⟨a.trans b.symm, ?_⟩
        cases b1 <;> cases b2
        · rfl
        · exact absurd (differ e) ne
        · exact absurd (e.trans (differ e.symm)) ne
        · rfl
      · rw [if_neg b] at e
        exact absurd e.symm (((hv b1).resolve_left ne).2 g2 b2 b)
    · rw [if_neg a] at ne e
      by_cases b : g2 = g
      · rw [if_pos b] at e
        rw [e] at ne
        exact absurd e (((hv b2).resolve_left ne).2 g1 b1 a)
      · rw [if_neg b] at e
        exact elOnce g1 b1 g2 b2 ne e

/-! ## Screening keeps the group table (R32, R74 to R76) -/

theorem bits_eq_extract (w : Word) (lo n : Nat) : bits w lo n = (w.extractLsb' lo n).toNat := by
  simp [bits, Nat.shiftRight_eq_div_pow]

/-- A mask that keeps a field leaves the number it holds. -/
theorem bits_and (w m : Word) (lo n : Nat) (h : m.extractLsb' lo n = BitVec.allOnes n) : bits (w &&& m) lo n = bits w lo n := by
  rw [bits_eq_extract, bits_eq_extract, BitVec.extractLsb'_and, h, BitVec.and_allOnes]

theorem bits_two_lt (w : Word) (lo : Nat) : bits w lo 2 < 4 := Nat.mod_lt _ (by decide)

theorem bits_portField {w : Word} {p : Port} (h : bits w 0 6 = p.val) : portField w = some p := by
  have := p.isLt
  unfold portField
  rw [dif_pos (by omega)]
  exact congrArg some (Fin.ext h)

theorem State.portNamed_false {s : State} {p : Port} (h : s.portNamed p = false) (g : GroupId) (j : Fin 5) :
    portNumber s.heldWord g j ≠ p.val := fun e => by
  have named : p ∈ GroupConfig.ports s.group[g].config := by
    unfold GroupConfig.ports
    rw [List.mem_append]
    cases j using Fin.cases with
    | zero => exact .inl (Option.mem_toList.mpr (bits_portField e))
    | succ k =>
      refine .inr (List.mem_filterMap.mpr ⟨k, List.mem_finRange k, ?_⟩)
      refine bits_portField (Eq.trans ?_ e)
      simp only [portNumber, State.heldWord, Fin.val_succ, Fin.getElem_fin, Nat.add_comm, Nat.add_left_comm]
  simp only [State.portNamed, List.any_eq_false, List.contains_iff_mem] at h
  exact h g (List.mem_finRange g) named

theorem State.monitorKind_table {s : State} (h : Table s.heldWord) (p : Port) (v : Word)
    (r : (s.answers (.port p 0) v).refused = false) :
    Table (Function.update s.heldWord (.port p 0) (s.answers (.port p 0) v).value) := by
  refine h.monitorWritten p _ ?_
  have kept : bits (v &&& 0x0013) 0 2 = bits v 0 2 := bits_and _ _ _ _ (by decide)
  change bits (v &&& 0x0013) 0 2 = 1 ∨ bits (v &&& 0x0013) 0 2 = 2 ∨ _
  rw [kept]
  change (decide (bits v 0 2 = 3) || (decide (bits v 0 2 = 0) && s.portNamed p)) = false at r
  simp only [Bool.or_eq_false_iff, Bool.and_eq_false_iff, decide_eq_false_iff_not] at r
  have := bits_two_lt v 0
  rcases r.2 with n | n
  · omega
  · exact .inr (.inr (State.portNamed_false n))

theorem State.groupKind_table {s : State} (h : Table s.heldWord) (g : GroupId) (v : Word)
    (r : (s.answers (.group g 0) v).refused = false) :
    Table (Function.update s.heldWord (.group g 0) (s.answers (.group g 0) v).value) := by
  have range : 1 ≤ clampCount (GroupConfig.kindOf v) (bits v 4 3) ∧ clampCount (GroupConfig.kindOf v) (bits v 4 3) ≤ 4 := by
    unfold clampCount clampNat
    split <;> omega
  have count : bits (s.answers (.group g 0) v).value 4 3 = clampCount (GroupConfig.kindOf v) (bits v 4 3) := by
    change bits (wordOf (bits v 0 2 + 16 * clampCount (GroupConfig.kindOf v) (bits v 4 3))) 4 3 = _
    have := bits_two_lt v 0
    unfold bits wordOf at *
    simp only [BitVec.toNat_ofNat]
    omega
  refine h.kindWritten g _ (count ▸ range) fun k above => ?_
  rw [count] at above
  change (decide (bits v 0 2 = 3) || (List.finRange 4).any (fun k => decide (clampCount (GroupConfig.kindOf v) (bits v 4 3) < k.val + 1)
    && decide (bits s.group[g].config[2 + k.val] 0 6 ≠ 63))) = false at r
  simp only [Bool.or_eq_false_iff, List.any_eq_false, Bool.and_eq_true, decide_eq_true_eq, not_and, not_not] at r
  have none_ := r.2 k (List.mem_finRange k) above
  have same : portNumber s.heldWord g k.succ = bits s.group[g].config[2 + k.val] 0 6 := by
    simp only [portNumber, State.heldWord, Fin.val_succ, Fin.getElem_fin, Nat.add_comm, Nat.add_left_comm]
  omega

theorem State.answers_portField (s : State) (g : GroupId) (i : Fin 5) (v : Word) :
    s.answers (.group g ⟨i + 1, by omega⟩) v = s.answerPortField g ⟨i + 1, by omega⟩ v := by
  fin_cases i <;> rfl

theorem State.portField_table {s : State} (h : Table s.heldWord) (g : GroupId) (i : Fin 5) (v : Word)
    (r : (s.answers (.group g ⟨i + 1, by omega⟩) v).refused = false) : Table (Function.update s.heldWord
      (.group g ⟨i + 1, by omega⟩) (s.answers (.group g ⟨i + 1, by omega⟩) v).value) := by
  rw [State.answers_portField] at r ⊢
  refine h.portWritten g i _ ?_
  have kept : bits (v &&& 0x003F) 0 6 = bits v 0 6 := bits_and _ _ _ _ (by decide)
  change bits (v &&& 0x003F) 0 6 = 63 ∨ bits (v &&& 0x003F) 0 6 < 24 ∧ _
  rw [show (s.answerPortField g ⟨i + 1, by omega⟩ v).value = v &&& 0x003F from rfl, kept]
  change (decide (bits v 0 6 ≠ 63) && (decide (24 ≤ bits v 0 6) || s.portTaken g ⟨i + 1, _⟩ (bits v 0 6)
    || s.sup.unmonitored (bits v 0 6) || decide (channelCount s.heldWord g + 1 < i.val + 1))) = false at r
  simp only [Bool.and_eq_false_iff, Bool.or_eq_false_iff, decide_eq_false_iff_not, not_not, not_le, not_lt] at r
  refine r.imp id fun ⟨⟨⟨lt, free⟩, mon⟩, below⟩ => ⟨lt, fun g' j ne => ?_, fun p e => ?_, by omega⟩
  · simp only [State.portTaken, List.any_eq_false, Bool.not_eq_true, Bool.and_eq_true, decide_eq_true_eq] at free
    intro e
    refine free g' (List.mem_finRange g') j (List.mem_finRange j) ⟨?_, e⟩
    rw [not_and_or] at ne
    simpa [Fin.val_inj] using ne
  · refine (PortConfig.kind_ne_none s.sup.config[p]).mp fun none_ => ?_
    unfold Supervisor.unmonitored at mon
    rw [dif_pos lt, decide_eq_false_iff_not] at mon
    exact mon (by simpa only [Supervisor.kind, e] using none_)

theorem State.elements_table {s : State} (h : Table s.heldWord) (g : GroupId) (v : Word)
    (r : (s.answers (.group g 6) v).refused = false) :
    Table (Function.update s.heldWord (.group g 6) (s.answers (.group g 6) v).value) := by
  have kept (b : Bool) : bits (v &&& 0x3F3F) (if b then 8 else 0) 6 = bits v (if b then 8 else 0) 6 := by
    cases b <;> exact bits_and _ _ _ _ (by decide)
  change (s.elementRefused g 0 (bits v 0 6) || s.elementRefused g 8 (bits v 8 6)
    || (decide (bits v 0 6 = bits v 8 6) && decide (bits v 0 6 ≠ 63))) = false at r
  simp only [Bool.or_eq_false_iff, Bool.and_eq_false_iff, decide_eq_false_iff_not, not_not] at r
  obtain ⟨⟨sel, bri⟩, differ⟩ := r
  have field (lo : Nat) (x : s.elementRefused g lo (bits v lo 6) = false) : bits v lo 6 = 63 ∨ (bits v lo 6 < 32
      ∧ ∀ g' c, g' ≠ g → elementNumber s.heldWord g' c ≠ bits v lo 6) := by
    simp only [State.elementRefused, Bool.and_eq_false_iff, Bool.or_eq_false_iff, decide_eq_false_iff_not, not_not, not_le,
      State.elementTaken, List.any_eq_false, Bool.not_eq_true, Bool.and_eq_true, decide_eq_true_eq] at x
    refine x.imp id fun ⟨lt, free⟩ => ⟨lt, fun g' c ne e => ?_⟩
    exact free g' (List.mem_finRange g') (if c then 8 else 0) (by cases c <;> simp) ⟨by simp [ne], e⟩
  refine h.elementsWritten g _ (fun b => ?_) ?_
  · change bits (v &&& 0x3F3F) _ 6 = 63 ∨ bits (v &&& 0x3F3F) _ 6 < 32 ∧ ∀ g' c, g' ≠ g → _ ≠ bits (v &&& 0x3F3F) _ 6
    rw [kept b]
    cases b
    · exact field 0 sel
    · exact field 8 bri
  · change bits (v &&& 0x3F3F) 0 6 = bits (v &&& 0x3F3F) 8 6 → bits (v &&& 0x3F3F) 0 6 = 63
    rw [show bits (v &&& 0x3F3F) 0 6 = bits v 0 6 from kept false, show bits (v &&& 0x3F3F) 8 6 = bits v 8 6 from kept true]
    exact fun e => differ.resolve_left (not_not.mpr e)

/-- The effective value of any written word keeps the group table sound. -/
theorem State.screen_table {s : State} (h : s.TableSound) (w : Watched) (v : Word) :
    Table (Function.update s.heldWord w (s.screen w v).2) := by
  rw [State.tableSound_iff] at h
  rcases s.screen_effective w v with e | ⟨r, -, e⟩ <;> rw [e]
  · rwa [Function.update_eq_self]
  · cases w with
    | port p j =>
      by_cases hj : j = 0
      · subst hj
        exact State.monitorKind_table h p v r
      · exact h.other _ nofun (fun q e => hj (Watched.port.inj e).2)
    | group g j =>
      cases j using Fin.cases with
      | zero => exact State.groupKind_table h g v r
      | succ i =>
        by_cases port : i.val < 5
        · exact State.portField_table h g ⟨i, port⟩ v r
        · by_cases six : i = 5
          · subst six
            exact State.elements_table h g v r
          · refine h.other _ (fun g' j e => ?_) nofun
            have := congrArg Fin.val (Watched.group.inj e).2
            simp only [Fin.val_succ, Fin.val_castSucc] at this
            have := j.isLt
            have := i.isLt
            have : i.val ≠ 5 := fun e => six (Fin.ext e)
            omega
    | _ => exact h.other _ nofun nofun

end Sys2Proof.Machine

namespace Sys2Proof.Machine

/-! ## Every command keeps the group table (R7, R16, R74, R75) -/

theorem State.Passed.heldWord {s t : State} (h : s.Passed t) (w : Watched) : t.heldWord w = s.heldWord w := by
  rw [h.eq]
  cases w <;> rfl

theorem State.take_table {s : State} {w : Watched} {v : Word} (h : Table (Function.update s.heldWord w v)) (x : Verdict) :
    (s.take w v x).TableSound := by
  rw [State.tableSound_iff]
  convert h using 1
  funext y
  rw [s.take_heldWord, Function.update_apply]

/-- The configuration a reset leaves names no port and no element (R74, R78). -/
theorem table_of_reset {s : State} (hg : s.group = Vector.replicate 12 Group.reset) : s.TableSound := by
  have config (g : GroupId) : s.group[g].config = GroupConfig.reset := by
    rw [hg]
    exact congrArg Group.config (Vector.getElem_replicate _)
  have number (g : GroupId) (j : Fin 5) : s.portFieldOf g j = 63 := by
    unfold State.portFieldOf
    rw [config]
    fin_cases j <;> decide
  have element (g : GroupId) (b : Bool) : s.elementFieldOf g b = 63 := by
    unfold State.elementFieldOf
    rw [config]
    cases b <;> decide
  refine ⟨fun g j => .inr (number g j), fun g j _ _ n => absurd (number g j) n, fun g j p e => ?_, fun g => ?_, fun g k _ => ?_,
    fun g b => .inr (element g b), fun g b _ _ n => absurd (element g b) n⟩
  · have := p.isLt
    rw [number] at e
    omega
  · rw [config]
    decide
  · rw [config]
    fin_cases k <;> decide

theorem State.Reacts.groupsDisjoint {s t : State} (h : s.Reacts t) (d : s.GroupsDisjoint) : t.GroupsDisjoint where
  table := d.table.congr h.held
  due := fun b op wb => by
    rw [h.path] at op wb
    refine (d.due b op wb).congr fun w => ?_
    rw [t.setHeld_heldWord, s.setHeld_heldWord, funext h.held]

/-- Outside LOADING a sound table is all there is to keep. -/
theorem State.TableSound.disjoint {s : State} (h : s.TableSound) (op : s.path.op ≠ .loading) : s.GroupsDisjoint :=
  ⟨h, fun _ l => absurd l op⟩

/-- A change of the memory path that brings no write-back to LOADING. -/
theorem State.GroupsDisjoint.withPath {s : State} (d : s.GroupsDisjoint) (p : Path)
    (h : p.op = .loading → p.writeBack = none ∨ s.path.op = .loading ∧ p.writeBack = s.path.writeBack) :
    State.GroupsDisjoint { s with path := p } where
  table := d.table.congr fun w => by cases w <;> rfl
  due := fun b op wb => by
    rcases h op with n | ⟨o, e⟩
    · exact absurd (n.symm.trans wb) nofun
    · refine (d.due b o (e.symm.trans wb)).congr fun w => ?_
      rw [State.setHeld_heldWord, State.setHeld_heldWord]
      congr 1

theorem State.GroupsDisjoint.withPending {s : State} (d : s.GroupsDisjoint) (l : List Instr) :
    State.GroupsDisjoint { s with pending := l } :=
  State.Reacts.groupsDisjoint (s := s) (.of_blocks rfl rfl rfl rfl rfl rfl (fun _ => rfl) rfl rfl rfl (.refl _)) d

theorem State.Served.groupsDisjoint {s t : State} (h : s.Served t) (d : s.GroupsDisjoint) : t.GroupsDisjoint := by
  have passing {u : State} (passed : s.Passed u) : u.GroupsDisjoint := by
    rw [passed.eq]
    exact d.withPath _ fun op => .inr ⟨op, rfl⟩
  cases h with
  | held c => exact d.withPath _ fun op => .inr ⟨op, rfl⟩
  | standby op passed => exact (passing passed).withPath _ fun op => .inr ⟨op, rfl⟩
  | watched op w l x =>
    rw [s.watchedWrite_eq]
    refine State.TableSound.disjoint (State.take_table ?_ _) ?_
    · rw [funext (State.memWrite_heldWord s _ _ _)]
      exact State.screen_table d.table w _
    · rw [State.take_path]
      exact fun e => by simp [State.memWrite, op] at e
  | reacts op passed h => exact h.groupsDisjoint (passing passed)
  | resumed op passed h k =>
    obtain ⟨u, r, h'⟩ := State.resume_resumed _
    refine k.groupsDisjoint (h'.groupsDisjoint (State.TableSound.disjoint ?_ ?_))
    · exact (h.groupsDisjoint (passing passed)).table.congr r.heldWord
    · rw [r.path, h.path, passed.op, op]
      nofun
  | restarted op passed h => exact (table_of_reset rfl).disjoint nofun

theorem State.serve_groupsDisjoint (s : State) (c : Cycle) (d : s.GroupsDisjoint) : (s.serve c).GroupsDisjoint := by
  unfold State.serve
  split
  · exact d.withPath _ fun op => .inr ⟨op, rfl⟩
  · exact (s.processorCycle_served c).groupsDisjoint d

theorem State.grantAfresh_groupsDisjoint (s : State) (d : s.GroupsDisjoint) : s.grantAfresh.GroupsDisjoint :=
  d.withPath _ fun op => .inr ⟨op, rfl⟩

theorem State.eventDone_groupsDisjoint (s : State) (d : s.GroupsDisjoint) : s.eventDone.GroupsDisjoint := by
  unfold State.eventDone
  split
  · exact s.grantAfresh_groupsDisjoint d
  · exact d

/-- The loader moves on with a sound table, whatever write-back was due. -/
theorem State.loaderNext_groupsDisjoint (s : State) (h : s.TableSound) : s.loaderNext.GroupsDisjoint := by
  have moved (p : Path) (h : s.TableSound) : State.TableSound { s with path := p } := h.congr fun w => by cases w <;> rfl
  rcases s.loaderNext_cases with ⟨-, e⟩ | ⟨-, e⟩ <;> rw [e]
  · obtain ⟨v, k, k'⟩ := State.beginRunning_cases
      { s with path := { s.path with loaderAt := s.path.loaderAt + 1, writeBack := none } }
    have table : v.TableSound := (moved _ h).congr k.held
    refine k'.groupsDisjoint (State.TableSound.disjoint (table.congr (v.takeRing_heldWord _)) ?_)
    rw [(v.takeRing_frame _).2.2.1, k.path]
    nofun
  · exact ⟨moved _ h, fun b _ wb => by cases wb⟩

theorem State.Effect.groupsDisjoint {s t : State} (h : s.Effect t) (d : s.GroupsDisjoint) : t.GroupsDisjoint := by
  have granted (u : State) (h : u.GroupsDisjoint) : u.serveHeld.grantAfresh.GroupsDisjoint :=
    State.grantAfresh_groupsDisjoint _ (State.serveHeld_keeps
      (fun s l h => h.withPath { s.path with held := l } fun op => .inr ⟨op, rfl⟩) State.serve_groupsDisjoint u h)
  cases h with
  | processor c =>
    have served := (s.processorCycle_served c).groupsDisjoint d
    unfold State.processor
    split
    · split
      · exact State.grantAfresh_groupsDisjoint _ served
      · exact d.withPath _ fun op => .inr ⟨op, rfl⟩
    · exact State.eventDone_groupsDisjoint _ served
  | reacts h => exact State.eventDone_groupsDisjoint _ (h.groupsDisjoint d)
  | powerOn x => exact (table_of_reset rfl).disjoint nofun
  | startCheck op =>
    refine granted _ ?_
    obtain ⟨v, h, e | k⟩ := s.endStartCheck_cases op
    · rw [e]
      exact (h.groupsDisjoint d).withPath _ fun _ => .inl rfl
    · exact k.groupsDisjoint ((h.groupsDisjoint d).withPath _ nofun)
  | loaderRead op =>
    refine granted _ ?_
    rcases s.loadWord_cases op with ⟨e, -⟩ | ⟨w, v, -, -, -, ⟨k, e⟩ | ⟨-, e⟩⟩ <;> rw [e]
    · exact d
    · have table := State.screen_table d.table w v
      rw [k] at table
      exact State.loaderNext_groupsDisjoint _ (State.take_table table _)
    · refine ⟨d.table.congr fun w => by cases w <;> rfl, fun b _ wb => ?_⟩
      injection wb with wb
      subst wb
      rw [State.tableSound_iff, State.setHeld_heldWord]
      exact State.screen_table d.table w v
  | loaderWriteBack op =>
    refine granted _ ?_
    rcases s.writeBackWord_cases op with ⟨-, e⟩ | ⟨b, wb, e⟩ <;> rw [e]
    · exact d
    · refine State.loaderNext_groupsDisjoint _ (State.take_table ?_ _)
      rw [funext (State.memWrite_heldWord s _ _ _), ← s.setHeld_heldWord, ← State.tableSound_iff]
      exact d.due b op wb
  | readBack op owed =>
    refine granted _ ?_
    rcases s.readBack_cases op owed with e | e <;> rw [e]
    · exact d.withPath _ fun _ => .inl rfl
    · exact d.withPath _ fun op => .inr ⟨op, rfl⟩
  | word0Read due =>
    refine granted _ ?_
    obtain ⟨op, -, -, -, -⟩ := State.posting_eq_some.mp due
    rcases State.readWord0_cases due with e | h
    · rw [e]
      exact State.TableSound.disjoint (d.table.congr fun w => by cases w <;> rfl) fun l => by simp [op] at l
    · exact h.groupsDisjoint (State.TableSound.disjoint (d.table.congr fun w => by cases w <;> rfl) fun l => by simp [op] at l)
  | wordWrite due =>
    refine granted _ ?_
    obtain ⟨j, w, next, -, e⟩ := State.writeWord_cases due
    rw [e]
    have op : s.path.op = .running := by rcases due with d | d | d <;> exact (State.posting_eq_some.mp d).1
    exact State.TableSound.disjoint (d.table.congr fun w => by cases w <;> rfl)
      fun l => by simp [State.writeDescriptor, State.memWrite, op] at l
  | word0Write due =>
    refine granted _ ?_
    obtain ⟨op, -, -, -, -⟩ := State.posting_eq_some.mp due
    obtain ⟨b, -, h⟩ := State.writeWord0_cases due
    obtain ⟨-, -, -, -, hb, hs, -⟩ := s.poster.posted_eq b
    refine h.groupsDisjoint (State.TableSound.disjoint (d.table.congr fun w => ?_) fun l => by simp [State.memWrite, op] at l)
    cases w with
    | ringBase => exact hb
    | ringSize => exact hs
    | _ => rfl

end Sys2Proof.Machine

namespace Sys2Proof.Proofs
open Sys2Proof.Machine

/-- Settles O58: the effective value of every screened word keeps the table, and nothing else writes it. -/
theorem groupTableKept : Obligations.GroupTableKept := by
  intro s t d h
  rcases step_effect h with rfl | ⟨rest, e⟩
  · exact d
  · exact e.groupsDisjoint (d.withPending rest)

end Sys2Proof.Proofs

namespace Sys2Proof.Machine

/-! ## The ring of the poster (R178, R179) -/

/-- What `Agreement` asks of the poster and its ring. -/
structure State.RingSound (s : State) : Prop where
  size    : 2 ≤ s.poster.ringSize.toNat ∧ s.poster.ringSize.toNat ≤ 256
  ring    : s.poster.usesRing = true → s.ringOk = true ∧ s.poster.index < s.poster.ringSize.toNat
  stopped : s.path.op ≠ .running → s.poster.state = .disabled

theorem State.Agreement.ringSound {s : State} (a : s.Agreement) : s.RingSound := ⟨a.size, a.ring, a.stopped⟩

theorem Poster.usesRing_iff (p : Poster) : p.usesRing = true ↔
    p.state = .idle ∨ p.state = .posting ∨ (p.state = .busy ∧ p.ringChange = false) := by
  simp [Poster.usesRing, or_assoc]

/-- A poster that only took events uses its ring as before. -/
theorem Poster.Grows.usesRing {p q : Poster} (h : p.Grows q) (u : q.usesRing = true) : p.usesRing = true := by
  rw [Poster.usesRing_iff] at *
  rcases h.state with ⟨e, -⟩ | ⟨e, -, -⟩
  · rwa [e, h.ringChange] at u
  · exact .inl e

theorem State.Reacts.ringSound {s t : State} (h : s.Reacts t) (r : s.RingSound) : t.RingSound where
  size := h.poster.ringSize ▸ r.size
  ring := fun u => by
    have ok := r.ring (h.poster.usesRing u)
    simpa only [State.ringOk, State.base, h.path, h.poster.ringBase, h.poster.ringSize, h.poster.index] using ok
  stopped := fun op => by
    have d := r.stopped (h.path ▸ op)
    rw [h.poster.state_of_not_idle (by simp [d]), d]

theorem State.RingSound.withPath {s : State} (r : s.RingSound) (p : Path) (hs : p.straps = s.path.straps)
    (ho : p.op ≠ .running → s.poster.state = .disabled) : State.RingSound { s with path := p } where
  size := r.size
  ring := fun u => by
    have ok := r.ring u
    simpa only [State.ringOk, State.base, hs] using ok
  stopped := ho

theorem State.takeRing_ringSound (s : State) (x : PosterState) (r : s.RingSound) (op : s.path.op = .running) :
    (s.takeRing x).RingSound := by
  have := r.size
  rcases s.takeRing_cases x with ⟨ok, e⟩ | ⟨-, e⟩ <;> rw [e]
  · exact ⟨r.size, fun _ => ⟨ok, show 0 < s.poster.ringSize.toNat by omega⟩, fun n => absurd op n⟩
  · exact ⟨r.size, fun u => by simp [Poster.usesRing] at u, fun n => absurd op n⟩

theorem State.Resumed.ringSound {s u : State} (h : s.Resumed u) (r : s.RingSound) (op : s.path.op = .running) : u.RingSound := by
  have cleared : State.RingSound { s with poster := { s.poster with wrapFault := false } } := ⟨r.size, r.ring, r.stopped⟩
  cases h with
  | changed | disabled => exact State.takeRing_ringSound _ _ cleared op
  | unchanged busy c =>
    have ok := r.ring (s.poster.usesRing_iff.mpr (.inr (.inr ⟨busy, c⟩)))
    exact ⟨r.size, fun _ => ok, fun n => absurd op n⟩
  | open_ o => exact cleared

/-- A value taken keeps the ring sound: a RING SIZE is in its range, and a new ring word is taken in BUSY or DISABLED, whose poster
uses no ring of its own until RESUME (R178, R182). -/
theorem State.take_ringSound (s : State) (w : Watched) (v : Word) (x : Verdict) (r : s.RingSound)
    (size : w = .ringSize → 2 ≤ v.toNat ∧ v.toNat ≤ 256)
    (ring : w = .ringBase ∨ w = .ringSize → v ≠ s.heldWord w → s.poster.state = .busy ∨ s.poster.state = .disabled) :
    (s.take w v x).RingSound := by
  have path := s.take_path w v x
  have step {p : Poster} (g : p.Grows (s.take w v x).poster) (rp : State.RingSound { s with poster := p }) :
      (s.take w v x).RingSound := by
    have k : State.Reacts { s with poster := p } { s with poster := (s.take w v x).poster } :=
      .of_blocks rfl rfl rfl rfl rfl rfl (fun _ => rfl) rfl rfl rfl g
    obtain ⟨sz, rg, st⟩ := k.ringSound rp
    refine ⟨sz, fun u => ?_, fun n => st (path ▸ n)⟩
    have ok := rg u
    simpa only [State.ringOk, State.base, path] using ok
  have unused {p : Poster} (c : p.ringChange = true) (hs : p.state = .busy ∨ p.state = .disabled) : p.usesRing = false := by
    rcases hs with e | e <;> simp [Poster.usesRing, e, c]
  rcases s.take_poster w v x with g | ⟨e, k, g⟩ | ⟨e, k, g⟩
  · exact step g r
  · refine step g ⟨r.size, fun u => ?_, r.stopped⟩
    exact absurd ((unused (p := { s.poster with ringBase := v, ringChange := true }) rfl (ring (.inl e) k)).symm.trans u) nofun
  · refine step g ⟨size e, fun u => ?_, r.stopped⟩
    exact absurd ((unused (p := { s.poster with ringSize := v, ringChange := true }) rfl (ring (.inr e) k)).symm.trans u) nofun

theorem ringUsable_iff (image : Addr) (base : Word) (size : Nat) : ringUsable image base size = true ↔
    8 * base.toNat + 4 * size ≤ 0x80000
    ∧ (size = 0 ∨ image.toNat + 0xFFF < 8 * base.toNat ∨ 8 * base.toNat + 4 * size ≤ image.toNat) := by
  simp only [ringUsable, ringInImage, Bool.and_eq_true, Bool.not_eq_true', Bool.and_eq_false_iff, decide_eq_true_eq,
    decide_eq_false_iff_not]
  unfold ringStart
  omega

/-- A word of the current descriptor of a ring in use lies in memory as computed, and outside the shelf image (R12, R179). -/
theorem State.descriptorAddr_outside {s : State} (ok : s.ringOk = true) (index : s.poster.index < s.poster.ringSize.toNat) {j : Nat}
    (hj : j < 4) (w : ImageWord) : s.imageAddr w.offset ≠ s.descriptorAddr j := fun e => by
  have n := congrArg BitVec.toNat e
  rw [s.imageAddr_toNat] at n
  have off := w.offset_lt
  rw [State.ringOk, ringUsable_iff] at ok
  simp only [State.descriptorAddr, ringStart, BitVec.toNat_ofNat] at n
  omega

/-! ## Memory and the watched words (R16, R17) -/

theorem State.agrees_congr {s t : State} {w : Watched} (hb : t.path.straps = s.path.straps)
    (hm : t.memWord (s.imageAddr w.offset) = s.memWord (s.imageAddr w.offset)) (hh : t.heldWord w = s.heldWord w) :
    t.agrees w ↔ s.agrees w := by
  have a : t.imageAddr w.offset = s.imageAddr w.offset := by simp only [State.imageAddr, State.base, hb]
  unfold State.agrees
  rw [a, hm, hh]

theorem State.Reacts.agrees {s t : State} (h : s.Reacts t) (w : Watched) : t.agrees w ↔ s.agrees w :=
  State.agrees_congr (by rw [h.path]) (by simp only [State.memWord, h.path]) (h.held w)

theorem State.Reacts.agreement {s t : State} (h : s.Reacts t) (a : s.Agreement) : t.Agreement := by
  obtain ⟨size, ring, stopped⟩ := h.ringSound a.ringSound
  refine ⟨?_, fun op w => ?_, fun op i w lt e => ?_, ?_, ?_, ?_, size, ring, stopped⟩
  · rw [h.path]
    exact a.memory
  · rw [h.path] at op
    exact (h.agrees w).mpr (a.running op w)
  · rw [h.path] at op lt
    exact (h.agrees w).mpr (a.loaded op i w lt e)
  · rw [h.path]
    exact a.position
  · rw [h.path]
    exact a.due
  · rw [h.path]
    exact a.dueSize

/-- An agreement that no loader has a part in. -/
theorem State.Agreement.ofRunning {s : State} (memory : s.path.mem.wf = true) (op : s.path.op = .running)
    (running : ∀ w, s.agrees w) (r : s.RingSound) : s.Agreement where
  memory := memory
  running := fun _ => running
  loaded := fun l => by simp [op] at l
  position := fun l => by simp [op] at l
  due := fun _ l => by simp [op] at l
  dueSize := fun _ _ l => by simp [op] at l
  size := r.size
  ring := r.ring
  stopped := r.stopped

theorem State.Agreement.ofStopped {s : State} (memory : s.path.mem.wf = true) (op : s.path.op = .startCheck ∨ s.path.op = .standby)
    (r : s.RingSound) : s.Agreement where
  memory := memory
  running := fun l => by simp [l] at op
  loaded := fun l => by simp [l] at op
  position := fun l => by simp [l] at op
  due := fun _ l => by simp [l] at op
  dueSize := fun _ _ l => by simp [l] at op
  size := r.size
  ring := r.ring
  stopped := r.stopped

/-- LOADING entered at the first watched word. -/
theorem State.Agreement.ofLoading {s : State} (memory : s.path.mem.wf = true) (op : s.path.op = .loading) (at_ : s.path.loaderAt = 0)
    (wb : s.path.writeBack = none) (r : s.RingSound) : s.Agreement where
  memory := memory
  running := fun l => by simp [op] at l
  loaded := fun _ i _ lt => by omega
  position := fun _ => by rw [at_, loaderOrder_length]; decide
  due := fun _ _ e => by simp [wb] at e
  dueSize := fun _ _ _ e => by simp [wb] at e
  size := r.size
  ring := r.ring
  stopped := r.stopped

theorem State.Passed.agreement {s t : State} (h : s.Passed t) (a : s.Agreement) (op : s.path.op = .running) : t.Agreement := by
  refine .ofRunning (h.memory a.memory) (h.op.trans op) (fun w => ?_) ?_
  · exact (State.agrees_congr (by rw [h.eq]) (h.watched a.memory op w) (h.heldWord w)).mpr (a.running op w)
  · rw [h.eq]
    exact a.ringSound.withPath _ rfl a.stopped

/-- A whole word written to memory at a watched word's place and taken by its owner: they agree, and the other words stand. -/
theorem State.memWrite_take_agrees {s : State} (memory : s.path.mem.wf = true) (w : Watched) (v : Word) (x : Verdict) (y : Watched)
    (h : y ≠ w → s.agrees y) : ((s.memWrite (s.imageAddr w.offset) .word v).take w v x).agrees y := by
  unfold State.agrees
  rw [State.take_heldWord, State.memWrite_heldWord]
  simp only [State.imageAddr, State.base, State.memWord, State.take_path]
  change (s.memWrite (s.imageAddr w.offset) .word v).memWord (s.imageAddr y.offset) = _
  rw [State.memWord_memWrite memory]
  by_cases e : y = w
  · rw [e, if_pos rfl, if_pos rfl]
    rfl
  · rw [if_neg fun k => e (by simpa using s.imageAddr_injective (v := .watched y) (w := .watched w) k), if_neg e]
    exact h e

theorem State.Served.agreement {s t : State} (h : s.Served t) (a : s.Agreement) : t.Agreement := by
  cases h with
  | held c => exact ⟨a.memory, a.running, a.loaded, a.position, a.due, a.dueSize, a.size, a.ring, a.stopped⟩
  | standby op passed owed =>
    refine .ofStopped (passed.memory a.memory) (.inr (passed.op.trans op)) ?_
    rw [passed.eq]
    exact a.ringSound.withPath _ rfl a.stopped
  | watched op w l d =>
    rw [s.watchedWrite_eq]
    refine .ofRunning ?_ ?_ (fun y => State.memWrite_take_agrees a.memory w _ _ y fun _ => a.running op y) ?_
    · rw [State.take_path]
      exact State.memWrite_wf a.memory _ _ _
    · rw [State.take_path]
      exact op
    · refine State.take_ringSound _ _ _ _ (a.ringSound.withPath _ rfl a.stopped) ?_ fun ring k => ?_
      · rintro rfl
        exact s.screen_ringSize _ a.size
      · rw [State.memWrite_heldWord] at k
        by_contra n
        exact k (s.screen_ring_closed w _ ring (not_or.mp n))
  | reacts op passed h => exact h.agreement (passed.agreement a op)
  | @resumed _ v _ op passed h k =>
    obtain ⟨u, r, h'⟩ := v.resume_resumed
    have b := h.agreement (passed.agreement a op)
    have run : v.path.op = .running := by rw [h.path, passed.op, op]
    refine k.agreement (h'.agreement (.ofRunning ?_ ?_ (fun w => ?_) (r.ringSound b.ringSound run)))
    · rw [r.path]
      exact b.memory
    · rw [r.path]
      exact run
    · exact (State.agrees_congr (by rw [r.path]) (by simp only [State.memWord, r.path]) (r.heldWord w)).mpr (b.running run w)
  | restarted op passed h =>
    refine .ofStopped ?_ (.inl rfl) ⟨(by decide : 2 ≤ (2 : Word).toNat ∧ (2 : Word).toNat ≤ 256), nofun, fun _ => rfl⟩
    rw [State.beginRestart]
    simp only [Path.reset, h]
    exact passed.memory a.memory

theorem State.serve_agreement (s : State) (c : Cycle) (a : s.Agreement) : (s.serve c).Agreement := by
  unfold State.serve
  split
  · exact ⟨a.memory, a.running, a.loaded, a.position, a.due, a.dueSize, a.size, a.ring, a.stopped⟩
  · exact (s.processorCycle_served c).agreement a

theorem State.eventDone_agreement (s : State) (a : s.Agreement) : s.eventDone.Agreement := by
  obtain ⟨g, e⟩ := s.eventDone_eq
  rw [e]
  exact ⟨a.memory, a.running, a.loaded, a.position, a.due, a.dueSize, a.size, a.ring, a.stopped⟩

/-- The loader moves on past a word that agrees; past the last one every watched word does (R16, R17). -/
theorem State.loaderNext_agreement {s : State} (memory : s.path.mem.wf = true) (op : s.path.op = .loading)
    (loaded : ∀ i w, i < s.path.loaderAt + 1 → loaderOrder[i]? = some w → s.agrees w)
    (position : s.path.loaderAt < loaderOrder.length) (r : s.RingSound) : s.loaderNext.Agreement := by
  have disabled := r.stopped (by simp [op])
  rcases s.loaderNext_cases with ⟨last, e⟩ | ⟨more, e⟩ <;> rw [e]
  · obtain ⟨v, h, k⟩ := State.beginRunning_cases
      { s with path := { s.path with loaderAt := s.path.loaderAt + 1, writeBack := none } }
    have begun := h.agreement (.ofRunning memory rfl (fun w => ?_) (r.withPath _ rfl fun _ => disabled))
    · have run : v.path.op = .running := by rw [h.path]
      have path := (v.takeRing_frame v.poster.ready).2.2.1
      refine k.agreement (.ofRunning ?_ ?_ (fun w => ?_) (v.takeRing_ringSound _ begun.ringSound run))
      · rw [path]
        exact begun.memory
      · rw [path]
        exact run
      · exact (State.agrees_congr (by rw [path]) (by simp only [State.memWord, path]) (v.takeRing_heldWord _ w)).mpr
          (begun.running run w)
    · obtain ⟨i, e⟩ := List.mem_iff_getElem?.mp (mem_loaderOrder w)
      have lt := (List.getElem?_eq_some_iff.mp e).1
      exact (State.agrees_congr rfl rfl (by cases w <;> rfl)).mpr (loaded i w (by omega) e)
  · refine ⟨memory, fun l => by simp [op] at l, fun _ i w lt e => ?_, fun _ => ?_, nofun, nofun,
      r.size, r.ring, r.stopped⟩
    · exact (State.agrees_congr rfl rfl (by cases w <;> rfl)).mpr (loaded i w lt e)
    · change s.path.loaderAt + 1 < _
      omega

/-- A poster with the same ring words leaves every held value. -/
theorem State.heldWord_withPoster (s : State) {p : Poster} (hb : p.ringBase = s.poster.ringBase)
    (hs : p.ringSize = s.poster.ringSize) (w : Watched) : State.heldWord { s with poster := p } w = s.heldWord w := by
  cases w with
  | ringBase => exact hb
  | ringSize => exact hs
  | _ => rfl

/-- In RUNNING the poster may move on with its ring words standing. -/
theorem State.Agreement.withPoster {s : State} {p : Poster} (memory : s.path.mem.wf = true) (op : s.path.op = .running)
    (running : ∀ w, s.agrees w) (r : State.RingSound { s with poster := p }) (hb : p.ringBase = s.poster.ringBase)
    (hs : p.ringSize = s.poster.ringSize) : State.Agreement { s with poster := p } :=
  .ofRunning memory op (fun y => (State.agrees_congr (s := s) (t := { s with poster := p }) rfl rfl
    (s.heldWord_withPoster hb hs y)).mpr (running y)) r

/-- A word of a descriptor written by a posting leaves memory agreeing with the owners (R12, R17). -/
theorem State.descriptorWrite_agrees {s : State} (a : s.Agreement) (op : s.path.op = .running) (st : s.poster.state = .posting)
    {j : Nat} (hj : j < 4) (w : Word) (y : Watched) : (s.memWrite (s.descriptorAddr j) .word w).agrees y := by
  obtain ⟨ok, index⟩ := a.ring (s.poster.usesRing_iff.mpr (.inr (.inl st)))
  have stands := s.memWord_memWrite a.memory (s.descriptorAddr j) (s.imageAddr y.offset) .word w
  have outside : s.imageAddr y.offset ≠ s.descriptorAddr j := State.descriptorAddr_outside ok index hj (.watched y)
  rw [if_neg outside] at stands
  have held := s.memWrite_heldWord (s.descriptorAddr j) .word w y
  have straps : (s.memWrite (s.descriptorAddr j) .word w).path.straps = s.path.straps := rfl
  generalize s.memWrite (s.descriptorAddr j) .word w = u at stands held straps ⊢
  exact (State.agrees_congr straps stands held).mpr (a.running op y)

theorem State.Effect.agreement {s t : State} (h : s.Effect t) (a : s.Agreement) : t.Agreement := by
  have granted (u : State) (h : u.Agreement) : u.serveHeld.grantAfresh.Agreement := by
    have b := State.serveHeld_keeps (I := State.Agreement) (fun s l a =>
      ⟨a.memory, a.running, a.loaded, a.position, a.due, a.dueSize, a.size, a.ring, a.stopped⟩) State.serve_agreement u h
    exact ⟨b.memory, b.running, b.loaded, b.position, b.due, b.dueSize, b.size, b.ring, b.stopped⟩
  cases h with
  | processor c =>
    have b := (s.processorCycle_served c).agreement a
    unfold State.processor
    split
    · split
      · exact ⟨b.memory, b.running, b.loaded, b.position, b.due, b.dueSize, b.size, b.ring, b.stopped⟩
      · exact ⟨a.memory, a.running, a.loaded, a.position, a.due, a.dueSize, a.size, a.ring, a.stopped⟩
    · exact State.eventDone_agreement _ b
  | reacts h => exact State.eventDone_agreement _ (h.agreement a)
  | powerOn x => exact .ofStopped a.memory (.inl rfl) ⟨(by decide : 2 ≤ (2 : Word).toNat ∧ (2 : Word).toNat ≤ 256), nofun, fun _ => rfl⟩
  | startCheck op =>
    refine granted _ ?_
    obtain ⟨v, h, e | k⟩ := s.endStartCheck_cases op
    · rw [e]
      have b := h.agreement a
      exact .ofLoading b.memory rfl rfl rfl (b.ringSound.withPath _ rfl fun _ => b.stopped (by simp [h.path, op]))
    · have b := h.agreement a
      exact k.agreement (.ofStopped b.memory (.inr rfl) (b.ringSound.withPath _ rfl fun _ => b.stopped (by simp [h.path, op])))
  | loaderRead op =>
    refine granted _ ?_
    have disabled := a.stopped (by simp [op])
    rcases s.loadWord_cases op with ⟨e, -⟩ | ⟨w, v, -, at_, hv, ⟨k, e⟩ | ⟨-, e⟩⟩ <;> rw [e]
    · exact a
    · have path := s.take_path w v (s.screen w v).1
      refine State.loaderNext_agreement (by rw [path]; exact a.memory) (by rw [path]; exact op) (fun i y lt ei => ?_)
        (by rw [path]; exact a.position op) (s.take_ringSound w v _ a.ringSound ?_ fun _ _ => .inr disabled)
      · unfold State.agrees
        rw [s.take_heldWord]
        simp only [State.memWord, State.imageAddr, State.base, path]
        rw [path] at lt
        split
        next e => rw [e]; exact hv.symm
        next ne =>
          refine a.loaded op i y (Nat.lt_of_le_of_ne (by omega) ?_) ei
          rintro rfl
          exact ne (Option.some.inj (ei.symm.trans at_))
      · rintro rfl
        exact k ▸ s.screen_ringSize v a.size
    · refine ⟨a.memory, a.running, a.loaded, a.position, fun b _ e => ?_, fun x y _ e => ?_, a.size, a.ring, a.stopped⟩
      · cases e
        exact at_
      · cases e
        exact s.screen_ringSize v a.size
  | loaderWriteBack op =>
    refine granted _ ?_
    have disabled := a.stopped (by simp [op])
    rcases s.writeBackWord_cases op with ⟨-, e⟩ | ⟨⟨w, v, x⟩, wb, e⟩ <;> rw [e]
    · exact a
    · have at_ := a.due _ op wb
      have path := (s.memWrite (s.imageAddr w.offset) .word v).take_path w v x
      refine State.loaderNext_agreement (by rw [path]; exact State.memWrite_wf a.memory _ _ _) (by rw [path]; exact op)
        (fun i y lt ei => State.memWrite_take_agrees a.memory w v x y fun ne => ?_) (by rw [path]; exact a.position op)
        (State.take_ringSound _ _ _ _ (a.ringSound.withPath _ rfl fun _ => disabled) ?_ fun _ _ => .inr disabled)
      · rw [path] at lt
        refine a.loaded op i y (Nat.lt_of_le_of_ne (Nat.le_of_lt_succ lt) ?_) ei
        rintro rfl
        exact ne (Option.some.inj (ei.symm.trans at_))
      · rintro rfl
        exact a.dueSize _ _ op wb
  | readBack op owed =>
    refine granted _ ?_
    have disabled := a.stopped (by simp [op])
    rcases s.readBack_cases op owed with e | e <;> rw [e]
    · exact .ofLoading a.memory rfl rfl rfl (a.ringSound.withPath _ rfl fun _ => disabled)
    · exact ⟨a.memory, a.running, a.loaded, a.position, a.due, a.dueSize, a.size, a.ring, a.stopped⟩
  | word0Read due =>
    refine granted _ ?_
    obtain ⟨op, st, -, -, -⟩ := State.posting_eq_some.mp due
    have ok := a.ring (s.poster.usesRing_iff.mpr (.inr (.inl st)))
    have kept (p : Poster) (hb : p.ringBase = s.poster.ringBase) (hs : p.ringSize = s.poster.ringSize)
        (hi : p.index = s.poster.index) : State.Agreement { s with poster := p } := by
      refine .ofRunning a.memory op (fun y => ?_) ⟨hs ▸ a.size, fun _ => ?_, fun n => absurd op n⟩
      · exact (State.agrees_congr (s := s) (t := { s with poster := p }) rfl rfl
          (s.heldWord_withPoster hb hs y)).mpr (a.running op y)
      · simpa only [State.ringOk, State.base, hb, hs, hi] using ok
    rcases State.readWord0_cases due with e | h
    · exact e ▸ kept _ rfl rfl rfl
    · exact h.agreement (kept _ rfl rfl rfl)
  | wordWrite due =>
    refine granted _ ?_
    obtain ⟨op, st⟩ : s.path.op = .running ∧ s.poster.state = .posting := by
      rcases due with d | d | d <;> exact ⟨(State.posting_eq_some.mp d).1, (State.posting_eq_some.mp d).2.1⟩
    obtain ⟨j, w, next, hj, e⟩ := State.writeWord_cases due
    rw [e]
    exact .withPoster (State.memWrite_wf a.memory (s.descriptorAddr j) .word w) op (State.descriptorWrite_agrees a op st hj w)
      ⟨a.size, a.ring, a.stopped⟩ rfl rfl
  | word0Write due =>
    refine granted _ ?_
    obtain ⟨op, st, -, -, -⟩ := State.posting_eq_some.mp due
    obtain ⟨b, -, h⟩ := State.writeWord0_cases due
    obtain ⟨-, -, -, -, hb, hs, -, hi, -⟩ := s.poster.posted_eq b
    obtain ⟨ok, index⟩ := a.ring (s.poster.usesRing_iff.mpr (.inr (.inl st)))
    have size := a.size
    refine h.agreement (.withPoster (State.memWrite_wf a.memory (s.descriptorAddr 0) .word _) op
      (State.descriptorWrite_agrees a op st (by decide) _) ⟨hs ▸ size, fun _ => ⟨?_, ?_⟩, fun n => absurd op n⟩ hb hs)
    · change ringUsable s.base (s.poster.posted b).ringBase (s.poster.posted b).ringSize.toNat = true
      rw [hb, hs]
      exact ok
    · change (s.poster.posted b).index < (s.poster.posted b).ringSize.toNat
      rw [hs, hi]
      unfold Poster.advance
      split
      · change 0 < _
        omega
      · split
        · change 0 < _
          omega
        · change s.poster.index + 1 < _
          omega

end Sys2Proof.Machine

namespace Sys2Proof.Proofs
open Sys2Proof.Machine

/-- Settles O52: a watched word changes in memory and with its owner together, and no other write reaches one. -/
theorem agreementKept : Obligations.AgreementKept := by
  intro s t a h
  rcases step_effect h with rfl | ⟨rest, e⟩
  · exact a
  · exact e.agreement ⟨a.memory, fun op w => (State.agrees_congr rfl rfl (by cases w <;> rfl)).mpr (a.running op w),
      fun op i w lt e => (State.agrees_congr rfl rfl (by cases w <;> rfl)).mpr (a.loaded op i w lt e), a.position, a.due, a.dueSize,
      a.size, a.ring, a.stopped⟩

end Sys2Proof.Proofs

namespace Sys2Proof.Claims
open Sys2Proof.Machine

/-! ## How a command ends (R11) -/

theorem Regranted.refl (s : State) : Regranted s s := ⟨s.path.grant, rfl⟩

theorem Regranted.eventDone (s : State) : Regranted s s.eventDone := s.eventDone_eq

/-- The holder of the port has no part in memory. -/
theorem Regranted.memWord {u t : State} (h : Regranted u t) (a : Addr) : t.memWord a = u.memWord a := by
  obtain ⟨g, rfl⟩ := h
  rfl

/-- A processor's command whose cycle needs no port, or finds it free, is its cycle with the grant that follows. -/
theorem exec_served {c : Instr} {y : Cycle} {s : State} (h : cycleOf c = some y) (free : s.needsPort y = true → PortFree s) :
    ∃ t, exec c s = .next t ∧ Regranted (s.processorCycle y) t :=
  ⟨_, exec_of_cycleOf h s, s.processor_served y free⟩

/-- A master cycle's command with no cycle held, or none that can be served, is its effect with the grant that follows. -/
theorem finishMaster_regranted (u : State) (due : Bool) (h : due = true → u.serveHeld = u) :
    ∃ t, u.finishMaster due = .next t ∧ Regranted u t := by
  refine ⟨_, rfl, ?_⟩
  cases due with
  | false => exact .eventDone u
  | true => exact ⟨_, (congrArg State.grantAfresh (h rfl)).trans rfl⟩

/-- A read shows its word upstream. -/
theorem drivenOnLanes_of_upstream {t : State} {l : Lanes} {old w : Word} (h : t.path.upstream = mergeLanes l old w) :
    DrivenOnLanes t l w := by
  unfold DrivenOnLanes
  rw [h]
  cases l with
  | word => exact ⟨fun _ => rfl, fun _ => rfl⟩
  | low => exact ⟨fun _ => BitVec.extractLsb'_append_eq_right, fun n => absurd rfl n⟩
  | high => exact ⟨fun n => absurd rfl n, fun _ => BitVec.extractLsb'_append_eq_left⟩

end Sys2Proof.Claims

namespace Sys2Proof.Machine

/-! ## The memory port by the state that follows (R11) -/

/-- What the arbiter gives in RUNNING when no processor cycle waits: the port is the poster's while it is POSTING. -/
theorem State.grantAfresh_unwaited {s : State} (op : s.path.op = .running) (held : s.path.held = []) :
    s.grantAfresh.path.grant = if s.poster.state = .posting then some (.poster s.poster.overflow) else none := by
  change s.arbitrate s.processorWaiting = _
  rw [State.processorWaiting_nil held]
  split
  next st => exact State.arbitrate_posting op st false
  next st => exact State.arbitrate_unwaited (.inl ⟨op, st⟩) false

/-- What a cycle needs of the port depends on the operating state and the image base alone. -/
theorem State.needsPort_congr {s t : State} (op : t.path.op = s.path.op) (straps : t.path.straps = s.path.straps) (c : Cycle) :
    t.needsPort c = s.needsPort c := by
  unfold State.needsPort State.touched State.base
  rw [op, straps]

/-- In RUNNING a held cycle meets a free port before the poster's, unless 12 or more events are queued. -/
theorem State.serve_running {s : State} {c : Cycle} (op : s.path.op = .running) (need : s.needsPort c = true) :
    s.serve c = if s.poster.state = .posting ∧ 12 ≤ s.poster.queue.length then s.holdCycle c else s.processorCycle c := by
  have refused : s.arbitrate true ≠ some .processor ↔ s.poster.state = .posting ∧ 12 ≤ s.poster.queue.length := by
    by_cases st : s.poster.state = .posting
    · simp [State.arbitrate_posting op st, st]
    · simp [State.arbitrate_unwaited (.inl ⟨op, st⟩), st]
  unfold State.serve
  simp only [need, refused, true_and]

/-- With one cycle held, that cycle meets the port that falls free. -/
theorem State.serveHeld_one {s : State} {c : Cycle} (h : s.path.held = [c]) :
    s.serveHeld = State.serve { s with path := { s.path with held := [] } } c := by
  unfold State.serveHeld
  rw [h]
  rfl

/-! ## The rows of the poster (R12, R180) -/

theorem State.posterGrant_of {s : State} {b : Bool} (h : s.path.grant = some (.poster b)) : s.posterGrant = some b := by
  unfold State.posterGrant
  rw [h]

/-- With the port granted to the poster its next cycle is for the event at the head of the queue. -/
theorem State.posting_granted {s : State} {b : Bool} (op : s.path.op = .running) (st : s.poster.state = .posting)
    (grant : s.path.grant = some (.poster b)) (x : PostStep) :
    s.posting x = if s.poster.step = x then s.poster.queue.head? else none := by
  unfold State.posting
  simp [op, st, State.posterGrant_of grant]

/-- A poster's cycle writes memory and leaves every other part of the memory path. -/
theorem State.writeWord_path (s : State) : ∃ m, s.writeWord.path = { s.path with mem := m } := by
  unfold State.writeWord
  split
  · exact ⟨_, rfl⟩
  · exact ⟨_, rfl⟩
  · exact ⟨_, rfl⟩
  · exact ⟨s.path.mem, rfl⟩

theorem State.writeWord0_path (s : State) : ∃ m, s.writeWord0.path = { s.path with mem := m } := by
  unfold State.writeWord0
  split
  · exact ⟨_, (State.handRingFormat_frame _).2.2.1⟩
  · exact ⟨s.path.mem, rfl⟩

end Sys2Proof.Machine

namespace Sys2Proof.Proofs
open Sys2Proof.Machine Sys2Proof.Claims

/-- Settles O1: by the definition of `step` at a queue with a front. -/
theorem stepRunsFront : Obligations.StepRunsFront := by
  intro c rest s h
  unfold step
  rw [h]

/-- Settles O10: `classify_iff`, and every offset lies below 4096. -/
theorem imageMap : Obligations.ImageMap := by
  refine ⟨fun base a fits outside => ?_, fun base a w _ => classify_iff base a w⟩
  by_contra n
  obtain ⟨w, h⟩ := Option.ne_none_iff_exists'.mp n
  have := (classify_iff base a w).mp h
  have := w.offset_lt
  omega

/-- Settles O12: such a cycle finds the port busy, or is held when it is served. -/
theorem cyclesHeld : Obligations.CyclesHeld := by
  intro c y s h op
  by_cases free : s.needsPort y = true → s.path.grant = none
  · have served := exec_served h free
    rwa [s.processorCycle_held y op] at served
  · rw [Classical.not_imp] at free
    refine ⟨_, exec_of_cycleOf h s, ?_⟩
    rw [s.processor_held y free.1 free.2]
    exact .refl _

end Sys2Proof.Proofs

namespace Sys2Proof.Claims
open Sys2Proof.Machine

/-- A row of the poster is its cycle, due in its own step of a posting, and leaves the operating state and the cycles held. -/
theorem posterRow_runs {c : Instr} {f : State → State} {steps : List PostStep} {s : State} {b : Bool} {e : Event}
    (row : (c, f, steps) ∈ posterRows) (op : s.path.op = .running) (st : s.poster.state = .posting) (mem : s.poster.step ∈ steps)
    (head : s.poster.queue.head? = some e) (grant : s.path.grant = some (.poster b)) :
    exec c s = .next (f s).serveHeld.grantAfresh ∧ (f s).path.op = .running ∧ (f s).path.straps = s.path.straps
    ∧ (f s).path.held = s.path.held := by
  have due := State.posting_granted op st grant
  rw [head] at due
  simp only [posterRows, List.mem_cons, Prod.mk.injEq, List.not_mem_nil, or_false] at row
  rcases row with ⟨rfl, rfl, rfl⟩ | ⟨rfl, rfl, rfl⟩ | ⟨rfl, rfl, rfl⟩ <;>
    simp only [List.mem_cons, List.not_mem_nil, or_false] at mem
  · refine ⟨?_, ?_⟩
    · change s.readWord0.finishMaster (s.posting .readWord0).isSome = _
      rw [due, if_pos mem]
      rfl
    · rw [s.readWord0_frame.2.2.1]
      exact ⟨op, rfl, rfl⟩
  · refine ⟨?_, ?_⟩
    · change s.writeWord.finishMaster ((s.posting .writeWord1).isSome || (s.posting .writeWord2).isSome
        || (s.posting .writeWord3).isSome) = _
      rw [due, due, due]
      rcases mem with m | m | m <;> rw [m] <;> rfl
    · obtain ⟨m, h⟩ := s.writeWord_path
      rw [h]
      exact ⟨op, rfl, rfl⟩
  · refine ⟨?_, ?_⟩
    · change s.writeWord0.finishMaster (s.posting .writeWord0).isSome = _
      rw [due, if_pos mem]
      rfl
    · obtain ⟨m, h⟩ := s.writeWord0_path
      rw [h]
      exact ⟨op, rfl, rfl⟩

end Sys2Proof.Claims

namespace Sys2Proof.Proofs
open Sys2Proof.Machine Sys2Proof.Claims

/-- Settles O13: a processor's cycle by `processor_served` and `processor_held`, and the poster's rows by the arbiter's answer to one
waiting cycle. -/
theorem portGranted : Obligations.PortGranted := by
  refine ⟨fun c y s h => ⟨exec_served h, fun need busy => ?_, fun need free => ?_⟩,
    fun c f steps s u b e row op st mem head grant hu => ?_⟩
  · rw [exec_of_cycleOf h, s.processor_held y need busy]
    rfl
  · refine ⟨_, exec_of_cycleOf h s, ?_⟩
    have done : s.processor y = (s.processorCycle y).grantAfresh := by
      unfold State.processor
      rw [if_pos need]
      exact if_pos free
    rw [done]
    exact State.grantAfresh_unwaited
  · obtain ⟨run, op', straps, held'⟩ := posterRow_runs row op st mem head grant
    refine ⟨fun none => ?_, fun y one need => ?_⟩
    · rw [State.serveHeld_none _ (held'.trans none)] at run
      exact ⟨_, run, ⟨_, rfl⟩, State.grantAfresh_unwaited op' (held'.trans none)⟩
    · have met := State.serve_running (s := u) (c := y) (by rw [hu]; exact op')
        ((State.needsPort_congr (by rw [hu]; exact op'.trans op.symm) (by rw [hu]; exact straps) y).trans need)
      rw [State.serveHeld_one (held'.trans one), ← hu, met] at run
      refine ⟨fun other => ?_, fun posting urgent => ?_⟩
      · rw [if_neg fun n => other.elim (· n.1) (by omega)] at run
        exact ⟨_, run, ⟨_, rfl⟩⟩
      · rw [if_pos ⟨posting, urgent⟩] at run
        have granted : (u.holdCycle y).grantAfresh.path.grant = some (.poster u.poster.overflow) :=
          (State.arbitrate_posting (s := u.holdCycle y) (by rw [hu]; exact op') posting _).trans (if_neg fun n => absurd n.2 (by
            change ¬ u.poster.queue.length < 12
            omega))
        refine ⟨_, run, ⟨some (.poster u.poster.overflow), ?_⟩, ?_, granted⟩
        · have fields : (u.holdCycle y).grantAfresh = { f s with path := { (f s).path with
              held := [y], grant := (u.holdCycle y).grantAfresh.path.grant } } := by
            rw [hu]
            rfl
          rw [fields, granted, ← held'.trans one]
        · rw [hu]
          rfl

end Sys2Proof.Proofs

namespace Sys2Proof.Machine

/-! ## STANDBY (R3, R15) -/

/-- In STANDBY, with no read-back owed, every cycle goes to memory but a read of IDENTITY; a write of IMAGE READY owes the
read-back. -/
theorem State.processorCycle_standby {s : State} {c : Cycle} (op : s.path.op = .standby) (owed : s.path.readBackOwed = false)
    (identity : ¬ (s.touched c = some (.live .identity) ∧ c.write = false)) :
    s.processorCycle c = if s.touched c = some (.trigger .imageReady) ∧ c.write = true
      then { s.passCycle c with path := { (s.passCycle c).path with readBackOwed := true } } else s.passCycle c := by
  unfold State.processorCycle
  rw [op]
  change s.serveStandby c = _
  unfold State.serveStandby
  dsimp only
  rw [if_neg identity, owed]
  rfl

theorem State.passCycle_write (s : State) (c : Cycle) (h : c.write = true) :
    s.passCycle c = s.memWrite (s.cycleAddr c) c.lanes c.data := if_pos h

theorem State.passCycle_read (s : State) (c : Cycle) (h : c.write = false) :
    s.passCycle c = s.drive c.lanes (s.memWord (s.cycleAddr c)) := if_neg (by simp [h])

/-- IMAGE READY reads as set when its word is 0x0001 (R14). -/
theorem State.imageReady_iff (s : State) : s.imageReady = true ↔ s.memWord (s.imageAddr 1) = 1 := decide_eq_true_iff

end Sys2Proof.Machine

namespace Sys2Proof.Proofs
open Sys2Proof.Machine Sys2Proof.Claims

/-- Settles O8: the two served cycles, and the two ends of the read-back. -/
theorem imageReady : Obligations.ImageReady := by
  refine ⟨fun l d s op owed free => ?_, fun l d s op free => ?_, fun s op owed set => ?_, fun s op owed clear held => ?_⟩
  · have served := exec_served (s := s) (c := .imageReadyWrite l d) rfl fun _ => free
    rw [State.processorCycle_standby op owed (by simp [writeCycle]), if_pos ⟨rfl, rfl⟩] at served
    exact served
  · have served := exec_served (s := s) (c := .imageReadyWrite l d) rfl fun _ => free
    rw [s.processorCycle_running _ op] at served
    exact served
  · have ready : s.readBack = { s with path := { s.path with
        op := .loading, loaderAt := 0, writeBack := none, readBackOwed := false } } := by
      unfold State.readBack
      rw [if_pos ⟨op, owed⟩]
      exact if_pos ((State.imageReady_iff _).mpr set)
    rw [← ready]
    exact finishMaster_regranted _ _ fun _ => State.serveHeld_busy _ (.inr (by rw [ready]))
  · have stays : s.readBack = { s with path := { s.path with readBackOwed := false } } := by
      unfold State.readBack
      rw [if_pos ⟨op, owed⟩]
      exact if_neg fun h => clear ((State.imageReady_iff _).mp h)
    rw [← stays]
    exact finishMaster_regranted _ _ fun _ => State.serveHeld_none _ (by rw [stays]; exact held)

end Sys2Proof.Proofs

namespace Sys2Proof.Machine

/-- The only commands that read are of a change word and of IDENTIFICATION. -/
theorem cycleOf_read {c : Instr} {y : Cycle} (h : cycleOf c = some y) (read : y.write = false) :
    (∃ w, y.place = .image (.change w)) ∨ y.place = .image (.live .identification) := by
  cases c with
  | changeWordRead w l => cases h; exact .inl ⟨w, rfl⟩
  | identificationRead l => cases h; exact .inr rfl
  | _ => cases h <;> cases read

end Sys2Proof.Machine

namespace Sys2Proof.Proofs
open Sys2Proof.Machine Sys2Proof.Claims

/-- Settles O9: such a cycle is a pass cycle in both operating states. -/
theorem passWrites : Obligations.PassWrites := by
  refine ⟨fun a l d s wf out free op => ?_, fun c y a s h free op owed place => ?_⟩
  · have served := exec_served (s := s) (c := .passWrite a l d) rfl fun _ => free
    have touched : s.touched ⟨.addr a, true, l, d⟩ = none := out
    have pass : s.processorCycle ⟨.addr a, true, l, d⟩ = s.memWrite a l d := by
      rcases op with op | ⟨op, owed⟩
      · rw [s.processorCycle_running _ op]
        unfold State.serveRunning
        rw [touched]
        rfl
      · rw [State.processorCycle_standby op owed (by simp [touched]), if_neg (by simp [touched])]
        rfl
    rw [pass] at served
    obtain ⟨t, run, regranted⟩ := served
    have word (b : Addr) := (regranted.memWord b).trans (State.memWord_memWrite wf a b l d)
    refine ⟨t, run, (word a).trans (if_pos rfl), fun b other => (word b).trans (if_neg other), ?_⟩
    obtain ⟨g, rfl⟩ := regranted
    exact ⟨g, rfl⟩
  · have notReady : s.touched y ≠ some (.trigger .imageReady) := by
      unfold State.touched
      rcases place with ⟨e, n⟩ | ⟨w, e, n, -⟩ <;> rw [e]
      · exact n
      · simpa using n
    have addr : s.cycleAddr y = a := by
      unfold State.cycleAddr
      rcases place with ⟨e, -⟩ | ⟨w, e, -, ha⟩ <;> rw [e]
      exact ha.symm
    have notIdentity : ¬ (s.touched y = some (.live .identity) ∧ y.write = false) := by
      rintro ⟨touched, read⟩
      unfold State.touched at touched
      rcases cycleOf_read h read with ⟨w, e⟩ | e <;> rw [e] at touched <;> simp at touched
    have served := exec_served h (s := s) fun _ => free
    rw [State.processorCycle_standby op owed notIdentity, if_neg fun n => notReady n.1] at served
    refine ⟨fun write => ?_, fun read => ?_⟩
    · rw [s.passCycle_write y write, addr] at served
      exact served
    · rw [s.passCycle_read y read, addr] at served
      obtain ⟨t, run, g, rfl⟩ := served
      exact ⟨_, run, drivenOnLanes_of_upstream rfl, g, rfl⟩

end Sys2Proof.Proofs

namespace Sys2Proof.Machine

/-! ## The loader's cycles, when due (R16) -/

theorem State.heldWord_withPath (s : State) (p : Path) (w : Watched) : State.heldWord { s with path := p } w = s.heldWord w := by
  cases w <;> rfl

theorem State.loadWord_due {s : State} {w : Watched} (op : s.path.op = .loading) (wb : s.path.writeBack = none)
    (at_ : loaderOrder[s.path.loaderAt]? = some w) :
    s.loadWord = if (s.screen w (s.memWord (s.imageAddr w.offset))).2 = s.memWord (s.imageAddr w.offset)
      then (s.take w (s.memWord (s.imageAddr w.offset)) (s.screen w (s.memWord (s.imageAddr w.offset))).1).loaderNext
      else { s with path := { s.path with writeBack := some ⟨w, (s.screen w (s.memWord (s.imageAddr w.offset))).2,
        (s.screen w (s.memWord (s.imageAddr w.offset))).1⟩ } } := by
  unfold State.loadWord
  rw [if_pos ⟨op, wb⟩, at_]
  rfl

theorem State.writeBackWord_due {s : State} {w : Watched} {e : Word} {v : Verdict} (op : s.path.op = .loading)
    (wb : s.path.writeBack = some ⟨w, e, v⟩) :
    s.writeBackWord = ((s.memWrite (s.imageAddr w.offset) .word e).take w e v).loaderNext := by
  unfold State.writeBackWord
  rw [op, wb]
  rfl

end Sys2Proof.Machine

namespace Sys2Proof.Claims
open Sys2Proof.Machine

theorem Regranted.heldWord {u t : State} (h : Regranted u t) (w : Watched) : t.heldWord w = u.heldWord w := by
  obtain ⟨g, rfl⟩ := h
  exact u.heldWord_withPath _ w

/-- An event put is the last one, or overflow-pending is set (R175). -/
theorem lastEvent_putEvent (s : State) (o : Nat) (d : Detail) : LastEvent (s.putEvent o d) o d := by
  rcases s.putEvent_cases o d with ⟨-, e⟩ | ⟨-, e⟩ <;> rw [e]
  · exact .inl (List.getLast?_concat ..)
  · exact .inr rfl

theorem lastEvent_congr {s t : State} {o : Nat} {d : Detail} (h : t.poster = s.poster) (k : LastEvent s o d) : LastEvent t o d := by
  unfold LastEvent
  rw [h]
  exact k

/-- The PROVISION event of a verdict other than ACCEPTED is the last of a taking. -/
theorem lastEvent_take (s : State) (w : Watched) (e : Word) {v : Verdict} (h : v ≠ .accepted) :
    LastEvent (s.take w e v) w.object (.provision w.offset v) := by
  unfold State.take State.provision
  rw [if_neg h]
  exact lastEvent_putEvent _ _ _

/-- What a taking gives, whatever follows it in the memory path: the held values, the event of its verdict, and the mailbox. -/
theorem take_shown {s t : State} {w : Watched} {e : Word} {v : Verdict} {p : Path}
    (h : Regranted { s.take w e v with path := p } t) :
    t.heldWord w = e ∧ (∀ w', w' ≠ w → t.heldWord w' = s.heldWord w') ∧ (∃ g, t.path = { p with grant := g })
    ∧ (v ≠ .accepted → LastEvent t w.object (.provision w.offset v)) ∧ t.mailbox = s.mailbox := by
  have held (x : Watched) : t.heldWord x = if x = w then e else s.heldWord x :=
    (h.heldWord x).trans (((s.take w e v).heldWord_withPath p x).trans (s.take_heldWord w e v x))
  refine ⟨(held w).trans (if_pos rfl), fun x n => (held x).trans (if_neg n), ?_⟩
  obtain ⟨g, rfl⟩ := h
  exact ⟨⟨g, rfl⟩, fun n => lastEvent_congr (s := s.take w e v) rfl (lastEvent_take s w e n), s.take_mailbox w e v⟩

/-- The loader moves on before the last word. -/
theorem loaderNext_regranted {s : State} {w : Watched} {e : Word} {v : Verdict} (op : s.path.op = .loading)
    (more : s.path.loaderAt + 1 < loaderOrder.length) : ∃ t, (s.take w e v).loaderNext.finishMaster true = .next t
      ∧ Regranted { s.take w e v with path := { s.path with loaderAt := s.path.loaderAt + 1, writeBack := none } } t := by
  have path := s.take_path w e v
  rcases (s.take w e v).loaderNext_cases with ⟨last, -⟩ | ⟨-, next⟩
  · rw [path] at last
    omega
  · rw [path] at next
    rw [← next]
    exact finishMaster_regranted _ _ fun _ => State.serveHeld_busy _ (.inr (by rw [next]; exact op))

end Sys2Proof.Claims

namespace Sys2Proof.Proofs
open Sys2Proof.Machine Sys2Proof.Claims

/-- Settles O5: the read is taken as it stands, or waits for its write-back. -/
theorem loaderReads : Obligations.LoaderReads := by
  intro s w v e op wb at_ screened
  have due := State.loadWord_due op wb at_
  have run : exec .loaderRead s = s.loadWord.finishMaster true := by
    change s.loadWord.finishMaster (decide (s.path.op = .loading)) = _
    rw [decide_eq_true op]
  rw [run, due, screened]
  refine ⟨fun same more => ?_, fun differs => ?_⟩
  · rw [if_pos same, ← same]
    obtain ⟨t, done, regranted⟩ := loaderNext_regranted (w := w) (e := e) (v := v) op more
    obtain ⟨own, other, path, -, mailbox⟩ := take_shown regranted
    exact ⟨t, done, own, other, path, mailbox⟩
  · rw [if_neg differs]
    exact finishMaster_regranted _ _ fun _ => State.serveHeld_busy _ (.inr op)

/-- Settles O6: the effective value is written and taken, and the loader moves on. -/
theorem loaderWritesBack : Obligations.LoaderWritesBack := by
  intro s w v e op wb more
  have run : exec .loaderWriteBack s = s.writeBackWord.finishMaster true := by
    change s.writeBackWord.finishMaster (decide (s.path.op = .loading)) = _
    rw [decide_eq_true op]
  rw [run, State.writeBackWord_due op wb]
  obtain ⟨t, done, regranted⟩ := loaderNext_regranted (s := s.memWrite (s.imageAddr w.offset) .word e) (w := w) (e := e) (v := v)
    op more
  obtain ⟨own, other, path, event, mailbox⟩ := take_shown regranted
  exact ⟨t, done, own, fun x n => (other x n).trans (s.memWrite_heldWord _ _ _ x), path, event, mailbox⟩

/-- The watched-word writes are cycles of their words. -/
theorem cycleOf_watchedWrite {c : Instr} {w : Watched} {l : Lanes} {d : Word} (h : watchedWriteOf c = some (w, l, d)) :
    cycleOf c = some (writeCycle (.watched w) l d) := by
  cases c with
  | thresholdWrite p t l d => cases t <;> cases h <;> rfl
  | _ => cases h <;> rfl

/-- Settles O14: a watched write is a memory write and a taking; a value held already is taken without effect. -/
theorem watchedWrites : Obligations.WatchedWrites := by
  intro c w l d s row op free v e screened
  obtain ⟨t, run, served⟩ := exec_served (cycleOf_watchedWrite row) (s := s) fun _ => free
  rw [s.processorCycle_running _ op, s.serveRunning_watched, s.watchedWrite_eq, screened] at served
  have path := State.take_path (s.memWrite (s.imageAddr w.offset) .word e) w e v
  obtain ⟨own, other, onPath, event, mailbox⟩ := take_shown (p := (s.memWrite (s.imageAddr w.offset) .word e).path)
    (by rwa [← path])
  refine ⟨t, run, own, fun x n => (other x n).trans (s.memWrite_heldWord _ _ _ x), onPath, mailbox, event, fun same => ?_⟩
  have taken : (s.memWrite (s.imageAddr w.offset) .word e).takeHeld w e = s.memWrite (s.imageAddr w.offset) .word e :=
    if_pos (same.trans (s.memWrite_heldWord _ _ _ w).symm)
  have eq : (s.memWrite (s.imageAddr w.offset) .word e).take w e v = if v = .accepted then wrote s w.offset .word e
      else (wrote s w.offset .word e).putEvent w.object (.provision w.offset v) :=
    (congrArg (State.provision · w v) taken).trans rfl
  exact eq ▸ served

end Sys2Proof.Proofs

namespace Sys2Proof.Machine

/-! ## The fields of a word laid out as a sum (R186, R187, R193) -/

theorem wordOf_toNat {n : Nat} (h : n < 65536) : (wordOf n).toNat = n := Nat.mod_eq_of_lt h

theorem bitOf_lt (b : Bool) : bitOf b < 2 := by
  cases b <;> decide

/-- Bit `i` of a word laid out as a sum. -/
theorem getLsbD_wordOf {n i : Nat} {b : Bool} (hi : i < 16) (h : n / 2 ^ i % 2 = bitOf b) : (wordOf n).getLsbD i = b := by
  rw [wordOf, BitVec.getLsbD_ofNat, decide_eq_true hi, Bool.true_and, Nat.testBit_eq_decide_div_mod_eq, h]
  cases b <;> rfl

theorem signedWord_toInt {v : Int} (lo : -32768 ≤ v) (hi : v < 32768) : (signedWord v).toInt = v := by
  rw [signedWord, BitVec.toInt_ofInt, Int.bmod_def]
  omega

theorem MailboxState.code_lt (m : MailboxState) : m.code < 4 := by cases m <;> decide

theorem CommandResult.code_lt (r : CommandResult) : r.code < 16 := by cases r <;> decide

theorem OpState.code_lt (o : OpState) : o.code < 4 := by cases o <;> decide

theorem MonitorKind.code_lt (k : MonitorKind) : k.code < 4 := by cases k <;> decide

theorem Presence.code_lt (p : Presence) : p.code < 4 := by cases p <;> decide

theorem Grade.code_lt (g : Grade) : g.code < 8 := by cases g <;> decide

theorem TraceState.code_lt (x : TraceState) : x.code < 8 := by cases x <;> decide

theorem SlotState.code_lt (x : SlotState) : x.code < 16 := by cases x <;> decide

theorem Measured.code_lt (x : Measured) : x.code < 16 := by cases x <;> decide

theorem GenState.code_lt (x : GenState) : x.code < 16 := by cases x <;> decide

theorem slotCode_lt (i : Option SlotId) : slotCode i < 8 := by
  cases i with
  | none => decide
  | some i => exact Nat.lt_trans i.isLt (by decide)

/-! ## Live and change words in RUNNING (R9, R10) -/

/-- A live word in RUNNING needs no memory cycle. -/
theorem State.needsPort_live {s : State} {c : Cycle} {v : LiveWord} (op : s.path.op = .running) (h : s.touched c = some (.live v)) :
    s.needsPort c = false := by
  unfold State.needsPort
  rw [op, h]

theorem State.needsPort_change {s : State} {c : Cycle} {w : Fin 16} (op : s.path.op = .running)
    (h : s.touched c = some (.change w)) : s.needsPort c = false := by
  unfold State.needsPort
  rw [op, h]

/-- A live word other than SHELF TIME and STATUS takes a write without effect. -/
theorem State.writeLive_absorbed (s : State) {v : LiveWord} (l : Lanes) (d : Word) (time : v ≠ .shelfTime) (status : v ≠ .status) :
    s.writeLive v l d = s := by
  unfold State.writeLive
  split
  · exact absurd rfl time
  · exact absurd rfl status
  all_goals rfl

/-- The top bit of a merged word is the one written where the high lane is. -/
theorem flag_mergeLanes_top (l : Lanes) (old new : Word) :
    flag (mergeLanes l old new) 15 = if l = .low then flag old 15 else flag new 15 := by
  cases l with
  | word => rfl
  | low | high => simp only [flag, mergeLanes, BitVec.getLsbD_append, BitVec.getLsbD_extractLsb']; rfl

theorem flag_top (w : Word) : flag w 15 = decide (32768 ≤ w.toNat) := by
  have top : flag w 15 = w.msb := by simp [flag, BitVec.msb_eq_getLsbD_last]
  exact top.trans (BitVec.msb_eq_decide w)

/-- Bit 15 of STATUS is spare (R187). -/
theorem Mailbox.status_top (m : Mailbox) : flag m.status 15 = false := by
  have := m.state.code_lt
  have := m.lastResult.code_lt
  have := m.lastCode.isLt
  have := m.count.isLt
  rw [flag_top, Mailbox.status, wordOf_toNat (by omega)]
  exact decide_eq_false (by omega)

/-- Only a write of the clear bit to a BLOCKED mailbox does anything (R133). -/
theorem State.writeStatus_eq (s : State) (l : Lanes) (d : Word) :
    s.writeStatus l d = if l ≠ .low ∧ 32768 ≤ d.toNat ∧ s.mailbox.state = .blocked
      then { s with mailbox := { s.mailbox with state := .ready } } else s := by
  unfold State.writeStatus
  rw [flag_mergeLanes_top, Mailbox.status_top, flag_top]
  by_cases h : l = .low <;> simp [h]

end Sys2Proof.Machine

namespace Sys2Proof.Proofs
open Sys2Proof.Machine Sys2Proof.Claims

/-- Settles O33: the four fields of STATUS, and `writeStatus_eq`. -/
theorem statusWrites : Obligations.StatusWrites := by
  refine ⟨fun s => ?_, fun l d s op => ?_⟩
  · have state := s.mailbox.state.code_lt
    have result := s.mailbox.lastResult.code_lt
    have code := s.mailbox.lastCode.isLt
    have count := s.mailbox.count.isLt
    have word : (s.liveWord .status).toNat = s.mailbox.state.code + 4 * s.mailbox.lastResult.code
        + 64 * s.mailbox.lastCode.toNat + 1024 * s.mailbox.count.toNat := wordOf_toNat (by omega)
    unfold StatusShown
    rw [word]
    refine ⟨?_, ?_, by omega, by omega⟩
    · change _ = s.mailbox.state.code
      omega
    · change _ = s.mailbox.lastResult.code
      omega
  · have served := exec_served (c := .statusWrite l d) (s := s) rfl fun need => by
      rw [State.needsPort_live op rfl] at need
      cases need
    rw [s.processorCycle_running _ op] at served
    change ∃ t, _ ∧ Regranted (s.writeStatus l d) t at served
    rw [s.writeStatus_eq] at served
    refine ⟨fun h => ?_, fun h => ?_⟩
    · rwa [if_pos h] at served
    · rwa [if_neg fun ⟨lane, bit, blocked⟩ => h.elim lane fun h => h.elim (by omega) (· blocked)] at served

/-- Settles O34: the counter's two ways to move, its read, and its value at power-on. -/
theorem shelfTime : Obligations.ShelfTime := by
  refine ⟨fun s => ?_, fun l d s op => ?_, fun s l => rfl, fun x s => ⟨_, rfl, rfl, rfl⟩⟩
  · obtain ⟨g, h⟩ := s.advanceShelfTime.eventDone_eq
    refine ⟨_, rfl, ?_, g, h⟩
    rw [h]
    exact BitVec.toNat_add _ _
  · have served := exec_served (c := .shelfTimeWrite l d) (s := s) rfl fun need => by
      rw [State.needsPort_live op rfl] at need
      cases need
    rw [s.processorCycle_running _ op] at served
    exact served

end Sys2Proof.Proofs

namespace Sys2Proof.Machine

/-- The latches that a read of a change word clears: those of the word, in the lanes read (R10). -/
theorem changeMask_getLsbD (w : Fin 16) (l : Lanes) {i : Nat} (h : i < 256) :
    (changeMask w l).getLsbD i = true ↔ i / 16 = w.val ∧ ((l ≠ .high ∧ i % 16 < 8) ∨ (l ≠ .low ∧ 8 ≤ i % 16)) := by
  have lane : ∀ (l : Lanes) (k : Fin 16), (mergeLanes l 0 0xFFFF : Word).getLsbD k.val = true
      ↔ (l ≠ .high ∧ k.val < 8) ∨ (l ≠ .low ∧ 8 ≤ k.val) := by
    intro l k
    cases l <;> revert k <;> decide
  by_cases at_ : i / 16 = w.val
  · have bit : i - 16 * w.val = i % 16 := by omega
    have := lane l ⟨i % 16, by omega⟩
    simp only [changeMask, BitVec.getLsbD_shiftLeft, BitVec.getLsbD_setWidth, bit, at_, true_and, ← this]
    have inside : ¬ i < 16 * w.val := by omega
    have low : i % 16 < 256 := by omega
    simp [h, inside, low]
  · have out : i < 16 * w.val ∨ 16 ≤ i - 16 * w.val := by omega
    simp only [changeMask, BitVec.getLsbD_shiftLeft, BitVec.getLsbD_setWidth, at_, false_and, iff_false]
    rcases out with out | out
    · simp [out]
    · simp [BitVec.getLsbD_of_ge _ _ out]

/-- A processor's command that needs no port is its cycle, and the end of a command. -/
theorem State.processor_portless {s : State} {c : Cycle} (h : s.needsPort c = false) :
    s.processor c = (s.processorCycle c).eventDone := by
  unfold State.processor
  rw [h]
  rfl

theorem State.eventDone_busy {s : State} (h : s.path.grant ≠ none) : s.eventDone = s := if_neg h

end Sys2Proof.Machine

namespace Sys2Proof.Proofs
open Sys2Proof.Machine Sys2Proof.Claims

/-- A write to a word that absorbs it changes nothing (R9, R10). -/
theorem absorbed {a : Addr} {s : State} (l : Lanes) (d : Word) (op : s.path.op = .running)
    (h : (∃ v, classify s.base a = some (.live v) ∧ v ≠ .shelfTime ∧ v ≠ .status) ∨ ∃ w, classify s.base a = some (.change w)) :
    ∃ t, exec (.passWrite a l d) s = .next t ∧ Regranted s t := by
  have portless : s.needsPort ⟨.addr a, true, l, d⟩ = false := by
    rcases h with ⟨v, touched, -⟩ | ⟨w, touched⟩
    · exact State.needsPort_live op touched
    · exact State.needsPort_change op touched
  have served := exec_served (c := .passWrite a l d) (s := s) rfl fun need => by
    rw [portless] at need
    cases need
  have same : s.processorCycle ⟨.addr a, true, l, d⟩ = s := by
    rw [s.processorCycle_running _ op]
    unfold State.serveRunning
    rcases h with ⟨v, touched, time, status⟩ | ⟨w, touched⟩
    · rw [show s.touched ⟨.addr a, true, l, d⟩ = some (.live v) from touched]
      exact s.writeLive_absorbed l d time status
    · rw [show s.touched ⟨.addr a, true, l, d⟩ = some (.change w) from touched]
      rfl
  rwa [same] at served

/-- Settles O35: a change word is read without a memory cycle, its mask clears the lanes read, and a transition sets a latch. -/
theorem changeWordRead : Obligations.ChangeWordRead := by
  refine ⟨fun w l s op => ?_, fun s pt v changed => ?_, fun w a l d s op h => absorbed l d op (.inr ⟨w, h⟩)⟩
  · have run : exec (.changeWordRead w l) s = .next (s.readChange w l).eventDone := by
      rw [exec_of_cycleOf rfl, State.processor_portless (State.needsPort_change op rfl), s.processorCycle_running _ op]
      rfl
    obtain ⟨g, h⟩ := (s.readChange w l).eventDone_eq
    refine ⟨_, run, ?_⟩
    refine ⟨drivenOnLanes_of_upstream (old := s.path.upstream) (by rw [h]; rfl), fun i hi => ?_, ?_, fun busy => ?_, ?_⟩
    · have latches : ((s.readChange w l).eventDone).alarm.latched = s.alarm.latched &&& ~~~changeMask w l := by
        rw [h]
        rfl
      rw [latches, BitVec.getLsbD_and, BitVec.getLsbD_not, ← changeMask_getLsbD w l hi]
      simp [hi]
    · rw [h]
      exact decide_eq_true_iff
    · have kept : (s.readChange w l).eventDone = s.readChange w l := State.eventDone_busy busy
      rw [kept]
      rfl
    · rw [h]
      exact ⟨_, _, _, _, rfl⟩
  · rw [(s.setPoint_points pt v changed pt).2]
    simp

end Sys2Proof.Proofs

namespace Sys2Proof.Machine

/-- A live word other than IDENTIFICATION is read without effect (R9). -/
theorem State.readLive_eq (s : State) {v : LiveWord} (l : Lanes) (h : v ≠ .identification) :
    s.readLive v l = s.drive l (s.liveWord v) := if_neg h

end Sys2Proof.Machine

namespace Sys2Proof.Claims
open Sys2Proof.Machine

/-! ## The layouts of the live words (R36, R69, R160, R186, R193) -/

theorem identity_shown (s : State) : (s.liveWord .identity).toNat % 4 = s.path.straps.toNat
    ∧ (s.path.op = .standby → (s.liveWord .identity).toNat / 4 % 4 = 1)
    ∧ (s.path.op = .running → (s.liveWord .identity).toNat / 4 % 4 = 3) ∧ (s.liveWord .identity).toNat / 256 = 0x2C := by
  have straps := s.path.straps.isLt
  have op := s.path.op.code_lt
  have revision := Config.revision.isLt
  have word : (s.liveWord .identity).toNat = s.path.straps.toNat + 4 * s.path.op.code + 16 * Config.revision.toNat + 256 * 0x2C :=
    wordOf_toNat (by unfold Config.partCode; omega)
  rw [word]
  refine ⟨by omega, fun h => ?_, fun h => ?_, by omega⟩ <;> rw [h] <;> simp only [OpState.code] <;> omega

theorem condition_shown (s : State) (w b : Fin 16) :
    (s.liveWord (.condition w)).getLsbD b.val = s.alarm.raised.getLsbD (16 * w.val + b.val) := by
  simp only [State.liveWord, Alarm.conditionWord, BitVec.getLsbD_extractLsb', b.isLt, decide_true, Bool.true_and]

theorem port_shown (k : MonitorKind) (r : PortRecord) : PortShown k r (portWord k r) := by
  have kind := k.code_lt
  have presence := r.presence.code_lt
  have grade := r.grade.code_lt
  have trace := r.trace.code_lt
  have caps := bitOf_lt r.caps.isSome
  have power := bitOf_lt (r.caps.any Caps.power)
  have overhead := bitOf_lt (r.caps.any Caps.overhead)
  have reduced := bitOf_lt r.reduced
  have maintenance := bitOf_lt r.maintenance
  have word : (portWord k r).toNat = _ := wordOf_toNat (by omega)
  refine ⟨?_, ?_, getLsbD_wordOf (by decide) (by omega), ?_, ?_, getLsbD_wordOf (b := false) (by decide) ?_, ?_,
    getLsbD_wordOf (by decide) (by omega), ?_, getLsbD_wordOf (by decide) (by omega)⟩
  · rw [word]
    change _ = k.code
    omega
  · rw [word]
    change _ = r.presence.code
    omega
  · rw [portWord, getLsbD_wordOf (b := r.caps.any Caps.power) (by decide) (by omega), Option.any_eq_true]
  · rw [portWord, getLsbD_wordOf (b := r.caps.any Caps.overhead) (by decide) (by omega), Option.any_eq_true]
  · change _ = 0
    omega
  · rw [word]
    change _ = r.grade.code
    omega
  · rw [word]
    change _ = r.trace.code
    omega

theorem smoothed_shown (s : State) (p : Port) :
    (smoothedPower s.sup.record[p].power = none → (s.liveWord (.smoothed p)).toInt = -32768)
    ∧ ∀ v, smoothedPower s.sup.record[p].power = some v → -500 ≤ v → v ≤ 100 → (s.liveWord (.smoothed p)).toInt = v := by
  have word : s.liveWord (.smoothed p) = signedWord ((smoothedPower s.sup.record[p].power).getD (-32768)) := rfl
  rw [word]
  refine ⟨fun h => ?_, fun v h lo hi => ?_⟩ <;> rw [h, Option.getD]
  · exact signedWord_toInt (by decide) (by decide)
  · exact signedWord_toInt (by omega) (by omega)

theorem slot_shown (cfg : Vector Word 3) (r : Slot) : SlotShown (cfg[0].toNat % 8) r (slotWord (slotPriority cfg) r) := by
  have state := r.state.code_lt
  have measured := r.measured.code_lt
  have priority : slotPriority cfg = cfg[0].toNat % 8 := by simp [slotPriority, bits]
  have word : (slotWord (slotPriority cfg) r).toNat = _ := wordOf_toNat (by omega)
  unfold SlotShown
  rw [word]
  refine ⟨?_, ?_, by omega⟩
  · change _ = r.state.code
    omega
  · change _ = r.measured.code
    omega

theorem slotShown_eq (i : Option SlotId) : slotShown i = slotCode i := by
  cases i <;> rfl

theorem generator_shown {t : Timing} (h : t.Sound) : GeneratorShown t t.generatorWord := by
  have gen := t.gen.code_lt
  have selected := slotCode_lt t.selected
  have forced := slotCode_lt t.forced
  have history := h.history.1
  have station : bits t.stationKind 0 2 = t.stationKind.toNat % 4 := by simp [bits]
  have word : t.generatorWord.toNat = _ := wordOf_toNat (by omega)
  unfold GeneratorShown
  rw [word, slotShown_eq, slotShown_eq]
  refine ⟨?_, by omega, by omega, by omega, by omega⟩
  change _ = t.gen.code
  omega

end Sys2Proof.Claims

namespace Sys2Proof.Proofs
open Sys2Proof.Machine Sys2Proof.Claims

/-- Settles O11: the writes are absorbed, the reads show their words, and each word is laid out by its own lemma. -/
theorem absorbedWrites : Obligations.AbsorbedWrites := by
  refine ⟨fun a l d s op h => absorbed l d op h, fun v l s h => ?_, fun s => ⟨identity_shown s, condition_shown s, fun p => ?_,
    fun i => slot_shown _ _, fun sound => ⟨generator_shown sound, ?_, fun i => ?_⟩⟩⟩
  · rw [s.readLive_eq l h]
    exact ⟨drivenOnLanes_of_upstream rfl, rfl⟩
  · obtain ⟨none_, some_⟩ := smoothed_shown s p
    refine ⟨port_shown _ _, none_, some_, fun h => ?_, fun x h => ?_⟩ <;>
      exact congrArg (Option.getD · 0xFFFF) h
  · obtain ⟨lo, hi⟩ := sound.offset
    exact signedWord_toInt (by omega) (by omega)
  · obtain ⟨lo, hi⟩ := sound.slots i
    exact signedWord_toInt (by omega) (by omega)

end Sys2Proof.Proofs

namespace Sys2Proof.Machine

/-! ## What a point handed over leaves (R165, R166) -/

theorem State.putEvent_poster {s t : State} (h : t.poster = s.poster) (o : Nat) (d : Detail) :
    (t.putEvent o d).poster = (s.putEvent o d).poster := by
  unfold State.putEvent
  rw [apply_ite State.poster, apply_ite State.poster, h]

/-- A point handed over puts at most one event. -/
theorem State.setPoint_poster (s : State) (pt : Point) (v : Bool) :
    (s.setPoint pt v).poster = s.poster ∨ ∃ o d, (s.setPoint pt v).poster = (s.putEvent o d).poster := by
  unfold State.setPoint
  split
  · exact .inl rfl
  · rw [(State.judgeRelays_frame _ _).2.2.2.2.2.2.2.2.2]
    unfold State.reportPoint
    split
    · refine .inr ⟨pt.object, .alarm pt.kind v (profileSeverity (State.profileOf (s.latchPoint pt v) pt))
        (State.suppressed (s.latchPoint pt v) pt), State.putEvent_poster (s := s) (t := s.latchPoint pt v) rfl _ _⟩
    · exact .inl rfl

theorem State.judgeRelays_attention (old s : State) : (State.judgeRelays old s).alarm.ringBusy = s.alarm.ringBusy
    ∧ (State.judgeRelays old s).alarm.commandDone = s.alarm.commandDone
    ∧ (State.judgeRelays old s).alarm.eventPosted = s.alarm.eventPosted := by
  unfold State.judgeRelays
  split <;> exact ⟨rfl, rfl, rfl⟩

/-- A point handed over raises no attention cause but ALARM-CHANGE (R172). -/
theorem State.setPoint_attention (s : State) (pt : Point) (v : Bool) : (s.setPoint pt v).alarm.ringBusy = s.alarm.ringBusy
    ∧ (s.setPoint pt v).alarm.commandDone = s.alarm.commandDone
    ∧ (s.setPoint pt v).alarm.eventPosted = s.alarm.eventPosted := by
  unfold State.setPoint
  split
  · exact ⟨rfl, rfl, rfl⟩
  · obtain ⟨busy, done, posted⟩ := State.judgeRelays_attention s ((s.latchPoint pt v).reportPoint pt v)
    have alarm : ((s.latchPoint pt v).reportPoint pt v).alarm = (s.latchPoint pt v).alarm :=
      (State.reportPoint_frame _ _ _).2.2.2.2.2.2.2.2.2
    rw [alarm] at busy done posted
    exact ⟨busy, done, posted⟩

/-! ## The start check (R14, R126) -/

/-- The start check ends, with the mailbox settled and RING FORMAT handed over (R14, R15, R126, R181). -/
theorem State.endStartCheck_eq {s : State} (op : s.path.op = .startCheck) (disabled : s.poster.state = .disabled) :
    s.endStartCheck = if s.memWord (s.imageAddr 1) = 1
      then (State.setPoint { s with mailbox := Claims.startCheckEnds s.mailbox } .ringFormat true).enterLoading
      else (State.setPoint { s with mailbox := Claims.startCheckEnds s.mailbox } .ringFormat true).enterStandby := by
  have settled : (if s.mailbox.state = .executing then { s with mailbox := s.mailbox.restarted } else s)
      = { s with mailbox := Claims.startCheckEnds s.mailbox } := by
    unfold Claims.startCheckEnds Mailbox.restarted
    split <;> rfl
  have format : State.handRingFormat { s with mailbox := Claims.startCheckEnds s.mailbox }
      = State.setPoint { s with mailbox := Claims.startCheckEnds s.mailbox } .ringFormat true := by
    unfold State.handRingFormat
    rw [decide_eq_true disabled, Bool.or_true]
  unfold State.endStartCheck
  rw [if_pos op]
  dsimp only
  rw [settled, format]
  have path := (State.setPoint_frame { s with mailbox := Claims.startCheckEnds s.mailbox } .ringFormat true).2.2.1
  refine if_congr ((State.imageReady_iff _).trans ?_) rfl rfl
  simp only [State.memWord, State.imageAddr, State.base, path]

end Sys2Proof.Machine

namespace Sys2Proof.Claims
open Sys2Proof.Machine

theorem Regranted.pointRaised {u t : State} (h : Regranted u t) (p : Point) : t.pointRaised p = u.pointRaised p := by
  obtain ⟨g, rfl⟩ := h
  rfl

end Sys2Proof.Claims

namespace Sys2Proof.Proofs
open Sys2Proof.Machine Sys2Proof.Claims

/-- Settles O4: the two ends of the start check by IMAGE READY. -/
theorem startCheckEnds : Obligations.StartCheckEnds := by
  refine ⟨rfl, fun s u op disabled hu => ?_⟩
  have run : exec .startCheck s = s.endStartCheck.finishMaster true := by
    change s.endStartCheck.finishMaster (decide (s.path.op = .startCheck)) = _
    rw [decide_eq_true op]
  have path : u.path = s.path := by rw [hu, (State.setPoint_frame _ _ _).2.2.1]
  have format : u.pointRaised (.part 2) = true := hu ▸ State.setPoint_raised _ _ _
  have ended := State.endStartCheck_eq op disabled
  rw [show Point.ringFormat = .part 2 from rfl, ← hu] at ended
  rw [run, ended]
  refine ⟨fun ready => ?_, fun notReady held => ?_⟩
  · rw [if_pos ready]
    obtain ⟨t, done, regranted⟩ := finishMaster_regranted u.enterLoading true fun _ => State.serveHeld_busy _ (.inr rfl)
    refine ⟨t, done, ?_, (regranted.pointRaised _).trans format⟩
    rw [← path]
    exact regranted
  · rw [if_neg notReady]
    obtain ⟨t, done, regranted⟩ := finishMaster_regranted u.enterStandby true fun _ =>
      State.serveHeld_none _ ((congrArg Path.held (State.setPoint_frame _ _ _).2.2.1).trans ((congrArg Path.held path).trans held))
    refine ⟨t, done, ?_, ?_, ?_⟩
    · rw [← path]
      exact regranted
    · exact (regranted.pointRaised _).trans (State.setPoint_raised _ _ _)
    · refine (regranted.pointRaised _).trans ((State.setPoint_raised_other _ _ _ _ ?_).trans format)
      decide

end Sys2Proof.Proofs

namespace Sys2Proof.Machine

/-! ## A posting, cycle by cycle (R180 to R182) -/

/-- A poster's cycle that is due, with no processor cycle held, is that cycle and the grant that follows. -/
theorem finishMaster_posting {s u : State} (held : s.path.held = []) (path : ∃ m, u.path = { s.path with mem := m }) :
    ∃ t, u.finishMaster true = .next t ∧ Claims.Regranted u t := by
  obtain ⟨m, path⟩ := path
  exact Claims.finishMaster_regranted u true fun _ => u.serveHeld_none (by rw [path]; exact held)

theorem State.enterBusy_shown (s : State) : s.poster.queue <+: s.enterBusy.poster.queue ∧ s.enterBusy.poster.state = .busy
    ∧ s.enterBusy.poster.index = s.poster.index ∧ s.enterBusy.poster.ringChange = s.poster.ringChange
    ∧ s.enterBusy.alarm.ringBusy = true ∧ s.enterBusy.pointRaised .ringBusy = true ∧ s.enterBusy.path = s.path := by
  have grows := (State.setPoint_reacts { s with poster := { s.poster with state := .busy }, alarm := { s.alarm with ringBusy := true } }
    .ringBusy true).poster
  exact ⟨grows.queue, grows.state_of_not_idle nofun, grows.index, grows.ringChange, (State.setPoint_attention _ _ _).1,
    State.setPoint_raised _ _ _, (State.setPoint_frame _ _ _).2.2.1⟩

/-- The index of the descriptor after a posting (R181). -/
theorem Poster.advance_index (p : Poster) : (p.wrapKept = true → p.advance.index = 0 ∧ p.advance.wrapFault = p.wrapFault)
    ∧ (p.wrapKept = false → p.index + 1 = p.ringSize.toNat → p.advance.index = 0 ∧ p.advance.wrapFault = true)
    ∧ (p.wrapKept = false → p.index + 1 ≠ p.ringSize.toNat →
        p.advance.index = p.index + 1 ∧ p.advance.wrapFault = p.wrapFault) := by
  unfold Poster.advance
  refine ⟨fun wrap => ?_, fun wrap last => ?_, fun wrap more => ?_⟩
  · rw [if_pos wrap]
    exact ⟨rfl, rfl⟩
  · rw [wrap, if_neg (by decide), if_pos last]
    exact ⟨rfl, rfl⟩
  · rw [wrap, if_neg (by decide), if_neg more]
    exact ⟨rfl, rfl⟩

end Sys2Proof.Machine

namespace Sys2Proof.Machine

/-- A point handed over with room in the queue discards no event, and leaves the poster IDLE or POSTING by the queue (R175, R179). -/
theorem State.setPoint_room {s : State} (room : s.poster.queue.length < 16) (ready : s.poster.state = s.poster.ready) (pt : Point)
    (v : Bool) : (s.setPoint pt v).poster.overflow = s.poster.overflow
      ∧ (s.setPoint pt v).poster.state = (s.setPoint pt v).poster.ready := by
  rcases s.setPoint_poster pt v with e | ⟨o, d, e⟩
  · rw [e]
    exact ⟨rfl, ready⟩
  · rcases s.putEvent_cases o d with ⟨-, k⟩ | ⟨full, -⟩
    · rw [e, k]
      refine ⟨rfl, ?_⟩
      unfold Poster.ready at ready ⊢
      by_cases empty : s.poster.queue = [] <;> simp [ready, empty]
    · omega

theorem State.handRingFormat_enabled {s : State} (h : s.poster.state ≠ .disabled) :
    s.handRingFormat = s.setPoint .ringFormat s.poster.wrapFault := by
  unfold State.handRingFormat
  rw [decide_eq_false h, Bool.or_false]

theorem Poster.posted_ready (p : Poster) (b : Bool) : (p.posted b).state = (p.posted b).ready := rfl

/-- The state after word 0 is written, before RING FORMAT is handed over (R180, R181). -/
def State.word0Written (s : State) (e : Event) (b : Bool) : State :=
  { s.memWrite (s.descriptorAddr 0) .word (e.word0 s.poster.wrapKept b) with
    poster := s.poster.posted b, alarm := { s.alarm with eventPosted := true } }

theorem State.writeWord0_due {s : State} {e : Event} {b : Bool} (due : s.posting .writeWord0 = some e) (grant : s.posterGrant = some b) :
    s.writeWord0 = (s.word0Written e b).setPoint .ringFormat (s.poster.posted b).wrapFault := by
  have enabled : (s.poster.posted b).state ≠ .disabled := by
    rw [(s.poster.posted_eq b).2.2.1]
    split <;> decide
  unfold State.writeWord0
  rw [due, grant]
  exact State.handRingFormat_enabled (s := s.word0Written e b) enabled

/-- The last cycle of a posting leaves the queue, the state of the poster and the attention as R175 and R180 say. -/
theorem State.word0Written_shown (s : State) (e : Event) (b v : Bool) (q : s.poster.QueueSound) (n : s.poster.queue ≠ []) :
    ((s.word0Written e b).setPoint .ringFormat v).poster.overflow = (s.poster.overflow && !b)
    ∧ ((s.word0Written e b).setPoint .ringFormat v).poster.state
      = (if ((s.word0Written e b).setPoint .ringFormat v).poster.queue = [] then .idle else .posting)
    ∧ ((s.word0Written e b).setPoint .ringFormat v).alarm.eventPosted = true := by
  have room : (s.poster.posted b).queue.length < 16 := by
    rw [(s.poster.posted_eq b).1, List.length_tail]
    have := q.1
    have := List.length_pos_iff.mpr n
    omega
  obtain ⟨overflow, state⟩ := State.setPoint_room (s := s.word0Written e b) room (s.poster.posted_ready b) .ringFormat v
  exact ⟨overflow.trans (s.poster.posted_eq b).2.1, state, (State.setPoint_attention _ _ _).2.2⟩

end Sys2Proof.Machine

namespace Sys2Proof.Claims
open Sys2Proof.Machine

/-- A due read of word 0, with no processor cycle held, is that read and the grant that follows. -/
theorem readWord0_runs {s : State} {e : Event} (due : s.posting .readWord0 = some e) (held : s.path.held = []) :
    ∃ t, exec .descriptorWord0Read s = .next t ∧ Regranted s.readWord0 t := by
  change ∃ t, s.readWord0.finishMaster (s.posting .readWord0).isSome = .next t ∧ _
  rw [due]
  exact finishMaster_posting held ⟨s.path.mem, s.readWord0_frame.2.2.1⟩

end Sys2Proof.Claims

namespace Sys2Proof.Proofs
open Sys2Proof.Machine Sys2Proof.Claims

/-- Settles O51: the cycle that is due, step by step of a posting. -/
theorem descriptorCycles : Obligations.DescriptorCycles := by
  intro s e q b at_ op st grant held queue sound haddr
  have due (x : PostStep) (h : s.poster.step = x) : s.posting x = some e := by
    rw [State.posting_granted op st grant, if_pos h, queue]
    rfl
  have idle (x : PostStep) (h : s.poster.step ≠ x) : s.posting x = none := by
    rw [State.posting_granted op st grant, if_neg h]
  have addr (j : Nat) : at_ j = s.descriptorAddr j := haddr j
  refine ⟨fun step own => ?_, fun step own => ?_, fun j w n row => ?_, fun step => ?_⟩
  · have read := readWord0_runs (due _ step) held
    have word : s.readWord0 = { s with poster := { s.poster with
        wrapKept := (s.memWord (at_ 0)).getLsbD 1, step := .writeWord1 } } := by
      unfold State.readWord0
      rw [due _ step, addr]
      rw [addr] at own
      exact if_pos own
    rwa [word] at read
  · obtain ⟨t, run, regranted⟩ := readWord0_runs (due _ step) held
    have word : s.readWord0 = s.enterBusy := by
      unfold State.readWord0
      rw [due _ step]
      rw [addr] at own
      exact if_neg (by rw [flag, own]; decide)
    rw [word] at regranted
    obtain ⟨grown, busy, index, change, cause, point, path⟩ := s.enterBusy_shown
    refine ⟨t, run, ?_⟩
    obtain ⟨g, rfl⟩ := regranted
    refine ⟨busy, grown, index, change, cause, point, ?_⟩
    change s.enterBusy.path.mem = _
    rw [path]
  · have write : exec .descriptorWordWrite s = s.writeWord.finishMaster true
        ∧ s.writeWord = { s.memWrite (at_ j) .word w with poster := { s.poster with step := n } } := by
      change s.writeWord.finishMaster ((s.posting .writeWord1).isSome || (s.posting .writeWord2).isSome
        || (s.posting .writeWord3).isSome) = _ ∧ _
      unfold State.writeWord
      rcases row with ⟨step, rfl, rfl, rfl⟩ | ⟨step, rfl, rfl, rfl⟩ | ⟨step, rfl, rfl, rfl⟩
      · rw [due _ step, addr]
        exact ⟨rfl, rfl⟩
      · rw [idle .writeWord1 (by simp [step]), due _ step, addr]
        exact ⟨rfl, rfl⟩
      · rw [idle .writeWord1 (by simp [step]), idle .writeWord2 (by simp [step]), due _ step, addr]
        exact ⟨rfl, rfl⟩
    rw [write.1, ← write.2]
    exact finishMaster_posting held s.writeWord_path
  · have word := State.writeWord0_due (due _ step) (State.posterGrant_of grant)
    obtain ⟨hq, ho, hs, hstep, hb, hz, hc, hi, hf⟩ := s.poster.posted_eq b
    have run : exec .descriptorWord0Write s = s.writeWord0.finishMaster true := by
      change s.writeWord0.finishMaster (s.posting .writeWord0).isSome = _
      rw [due _ step]
      rfl
    obtain ⟨t, done, regranted⟩ := finishMaster_posting held s.writeWord0_path
    refine ⟨t, run.trans done, ?_⟩
    rw [word] at regranted
    obtain ⟨overflow, state, attention⟩ :=
      s.word0Written_shown e b (s.poster.posted b).wrapFault sound (by rw [queue]; exact List.cons_ne_nil _ _)
    obtain ⟨-, -, path, mailbox, -, sup, group, driver, timing⟩ :=
      State.setPoint_frame (s.word0Written e b) .ringFormat (s.poster.posted b).wrapFault
    have grows : (s.poster.posted b).Grows _ :=
      (State.setPoint_reacts (s.word0Written e b) .ringFormat (s.poster.posted b).wrapFault).poster
    have point := (s.word0Written e b).setPoint_raised .ringFormat (s.poster.posted b).wrapFault
    obtain ⟨wrap, last, more⟩ := s.poster.advance_index
    have index := grows.index.trans hi
    have fault := grows.wrapFault.trans hf
    have memory := congrArg Path.mem path
    have gone := grows.queue
    rw [hq, queue] at gone
    obtain ⟨g, rfl⟩ := regranted
    refine ⟨?_, gone, overflow, attention, grows.step.trans hstep, state, fun h => ?_, fun h k => ?_, fun h k => ?_, ?_, sup,
      group, driver, timing, mailbox⟩
    · rw [addr]
      exact memory
    · exact ⟨index.trans (wrap h).1, fault.trans (wrap h).2⟩
    · exact ⟨index.trans (last h k).1, fault.trans (last h k).2⟩
    · exact ⟨index.trans (more h k).1, fault.trans (more h k).2⟩
    · exact (congrArg (· = true) (point.trans grows.wrapFault.symm)).to_iff

end Sys2Proof.Proofs

namespace Sys2Proof.Claims
open Sys2Proof.Machine

/-! ## Reset values (R14, R18) -/

theorem replicate_get {α : Type} {n : Nat} (x : α) (i : Fin n) : (Vector.replicate n x)[i] = x := Vector.getElem_replicate i.isLt

theorem freshRecord_reset : freshRecord PortRecord.reset := by
  unfold freshRecord
  decide

theorem freshGroup_reset : freshGroup Group.reset := by
  unfold freshGroup
  decide

/-- The configuration every owner holds after a reset. -/
theorem freshConfiguration_of_reset {t : State} (shelf : t.scan.shelfNumber = 0) (sup : t.sup = Supervisor.reset)
    (group : t.group = Vector.replicate 12 Group.reset) (table : t.timing.config = Timing.reset.config)
    (sources : t.timing.sources = Timing.reset.sources) (mask : t.alarm.mask = 0) (profile : t.alarm.profile = Vector.replicate 22 0)
    (base : t.poster.ringBase = 0) (size : t.poster.ringSize = 2) : freshConfiguration t := by
  have config (g : GroupId) : t.group[g].config = GroupConfig.reset := by rw [group, replicate_get]; rfl
  refine ⟨shelf, mask, base, size, fun k => ?_, fun n j => ?_, fun p => ?_, fun g => ?_, fun i => ?_, fun l => ?_⟩
  · rw [profile, replicate_get]
  · rw [sup]
    exact (congrArg (·[j]) (replicate_get (Vector.replicate 4 (0 : Word)) n)).trans (replicate_get 0 j)
  · rw [show t.sup.config[p] = PortConfig.reset by rw [sup]; exact replicate_get PortConfig.reset p]
    decide
  · unfold State.portFieldOf State.elementFieldOf
    rw [config]
    decide
  · rw [show t.timing.config[i] = SlotConfig.reset by rw [table]; exact replicate_get SlotConfig.reset i]
    decide
  · rw [sources]
    exact replicate_get SourceWord.reset l

/-- The blocks that both resets give the same values, whatever they leave in the generator, the relays and shelf time. -/
theorem freshBlocks_of_reset {t : State} (lastPoll : Vector (Option (Word × Word)) 24) (station : Word) (gen : GenState) (offset : Int)
    (history : List Int) (mode : RelayMode) (critical major minor : Relays) (time : Word) (interval : Nat)
    (scan : t.scan = Scan.reset lastPoll) (sup : t.sup = Supervisor.reset) (group : t.group = Vector.replicate 12 Group.reset)
    (timing : t.timing = { Timing.reset with stationKind := station, gen := gen, offset := offset, history := history })
    (alarm : t.alarm = { Alarm.reset with mode := mode, critical := critical, major := major, minor := minor })
    (poster : t.poster = Poster.reset time interval) : freshBlocks t := by
  refine ⟨freshConfiguration_of_reset (by rw [scan]; rfl) sup group (by rw [timing]) (by rw [timing]) (by rw [alarm]; rfl)
    (by rw [alarm]; rfl) (by rw [poster]; rfl) (by rw [poster]; rfl), ?_⟩
  rw [scan, sup, group, timing, alarm, poster]
  refine ⟨fun p => replicate_get 0 p, rfl, rfl, rfl, rfl, fun p => ?_, fun p => replicate_get none p, rfl, fun g => ?_,
    fun i => replicate_get Slot.reset i, ?_⟩
  · rw [show Supervisor.reset.record[p] = PortRecord.reset from replicate_get _ p]
    exact freshRecord_reset
  · rw [replicate_get]
    exact freshGroup_reset
  · exact ⟨rfl, rfl, rfl, rfl, rfl, rfl, rfl, rfl, rfl, rfl, rfl, rfl, rfl, rfl, rfl, rfl⟩

theorem imageBase_is (straps : BitVec 2) : baseIs straps (Config.imageBase straps) := by
  refine ⟨?_, ?_, ?_, ?_⟩ <;> rintro rfl <;> rfl

end Sys2Proof.Claims

namespace Sys2Proof.Proofs
open Sys2Proof.Machine Sys2Proof.Claims

/-- Settles O2: block by block. -/
theorem resetValues : Obligations.ResetValues := by
  refine ⟨freshBlocks_of_reset (Vector.replicate 24 none) 0 .freeRun 0 [] .allAlarm Relays.alarm Relays.alarm Relays.alarm 0
    Config.shelfTimeStep rfl rfl rfl rfl rfl rfl, rfl, rfl, rfl, rfl, rfl, rfl, rfl, rfl, rfl, rfl, rfl, rfl, fun e => ?_,
    rfl, rfl, rfl, rfl, rfl, rfl, rfl, rfl, rfl⟩
  rw [show State.reset.element e = Element.reset (some 0) from replicate_get _ e]
  exact ⟨rfl, rfl, rfl⟩

/-- Settles O3: every block is reset, and what is outside the part stays. -/
theorem powerOnResets : Obligations.PowerOnResets := by
  intro straps s
  have element (e : ElementId) : (s.releaseReset straps).element e = Element.reset (s.element e).sensed :=
    Vector.getElem_map _ e.isLt
  refine ⟨s.releaseReset straps, rfl, ⟨freshBlocks_of_reset s.scan.lastPoll 0 .freeRun 0 [] .allAlarm Relays.alarm Relays.alarm
    Relays.alarm 0 Config.shelfTimeStep rfl rfl rfl rfl rfl rfl, rfl, rfl, rfl, rfl, rfl, rfl, rfl, rfl, rfl, rfl, rfl, rfl,
    fun e => ?_, rfl, rfl, rfl, rfl, rfl, rfl, rfl, rfl, rfl⟩, rfl, ?_, rfl, fun e => ?_, rfl⟩
  · rw [element]
    exact ⟨rfl, rfl, rfl⟩
  · exact imageBase_is straps
  · rw [element]
    rfl

end Sys2Proof.Proofs

namespace Sys2Proof.Machine

/-! ## The laws at reset -/

theorem State.reset_agreement : State.reset.Agreement :=
  .ofStopped rfl (.inl rfl) ⟨by decide, nofun, fun _ => rfl⟩

theorem State.reset_mapSound : State.reset.sup.MapSound := by
  have map (p : Port) : State.reset.sup.farEnd[p] = none := Claims.replicate_get none p
  have record (p : Port) : State.reset.sup.record[p] = PortRecord.reset := Claims.replicate_get _ p
  refine ⟨fun p id h => ?_, fun p h => ?_, fun p q id h => ?_, fun p h => ?_, fun p id h => ?_⟩
  · rw [map] at h
    cases h
  · rw [record] at h
    simp [PortRecord.reset] at h
  · rw [map] at h
    cases h
  · rw [record] at h
    cases h
  · rw [record] at h
    cases h

theorem State.reset_alarmSound : State.reset.AlarmSound :=
  ⟨by decide, nofun, fun _ => ⟨rfl, rfl, rfl⟩, by decide⟩

theorem Timing.reset_sound : Timing.reset.Sound := by
  have slot (i : SlotId) : Timing.reset.slot[i] = Slot.reset := Claims.replicate_get _ i
  have zero : inRange 0 := ⟨by decide, by decide⟩
  refine ⟨nofun, nofun, fun _ => rfl, fun _ => rfl, nofun, zero, fun i => ?_, fun i => ?_, fun i n => ?_, ⟨by decide, nofun⟩,
    by decide, fun _ => rfl⟩ <;> rw [slot]
  · exact zero
  · exact fun h => absurd rfl h
  · nofun

theorem State.reset_portSound : State.reset.PortSound where
  queue := Poster.reset_queueSound _ _
  loading _ := rfl
  standby := nofun
  running := nofun
  overflow := nofun
  granted := nofun
  stopped _ := rfl
  change := nofun
  wrap _ := rfl

end Sys2Proof.Machine

namespace Sys2Proof.Proofs
open Sys2Proof.Machine Sys2Proof.Claims

/-- Settles O60: law by law. -/
theorem soundAtReset : Obligations.SoundAtReset :=
  ⟨State.reset_agreement, State.reset_mapSound, State.reset_alarmSound, Timing.reset_sound, ⟨by decide, by decide, nofun, nofun⟩,
    ⟨by decide, nofun⟩, (table_of_reset rfl).disjoint nofun, Poster.reset_queueSound _ _, State.reset_portSound⟩

end Sys2Proof.Proofs

namespace Sys2Proof.Machine

/-! ## A confirmed RESTART (R18, R140, R161) -/

/-- A generator in FREE-RUN or HOLDOVER stays as it is through a restart (R161). -/
theorem Timing.restart_quiet {t : Timing} (h : t.gen = .freeRun ∨ t.gen = .holdover) :
    t.restart.gen = t.gen ∧ t.restart.offset = t.offset ∧ t.restart.history = t.history := by
  have quiet : ¬ ((t.gen.tracking || decide (t.gen = .bridging)) = true) := by
    rcases h with h | h <;> rw [h] <;> decide
  unfold Timing.restart
  rw [if_neg quiet]
  exact ⟨rfl, rfl, rfl⟩

/-- One that tracks or bridges takes the loss rule (R157, R161). -/
theorem Timing.restart_loss {t : Timing} (h : t.gen ≠ .freeRun ∧ t.gen ≠ .holdover) :
    t.restart.history = t.history.tail ∧ (t.history.tail = [] → t.restart.gen = .freeRun ∧ t.restart.offset = 0)
    ∧ (t.history.tail ≠ [] → t.restart.gen = .holdover ∧ t.restart.offset = meanToZero t.history.tail) := by
  have lost : (t.gen.tracking || decide (t.gen = .bridging)) = true := by
    obtain ⟨free, hold⟩ := h
    cases e : t.gen with
    | freeRun => exact absurd e free
    | holdover => exact absurd e hold
    | acquiring | locked | lockedFine | bridging => rfl
  unfold Timing.restart Timing.loss
  rw [if_pos lost]
  refine ⟨?_, fun rest => ?_, fun rest => ?_⟩
  · dsimp only
    split <;> rfl
  · rw [if_pos rest]
    exact ⟨rfl, rfl⟩
  · rw [if_neg rest]
    exact ⟨rfl, rfl⟩

/-- A confirm of RESTART, told to the mailbox, begins the restart (R129, R140). -/
theorem State.confirmCycle_restart {s : State} (awaits : s.mailbox.state = .awaitConfirm) (pending : s.mailbox.pending = some 11) :
    s.confirmCycle 11 = State.beginRestart { s with mailbox := { s.mailbox with state := .executing, window := none } } := by
  have confirmed : s.confirmWrite 11 = { s with mailbox := { s.mailbox with state := .executing, window := none } } := by
    unfold State.confirmWrite
    rw [awaits, pending]
    rfl
  unfold State.confirmCycle
  rw [confirmed]
  exact if_pos ⟨awaits, rfl⟩

end Sys2Proof.Machine

namespace Sys2Proof.Proofs
open Sys2Proof.Machine Sys2Proof.Claims

/-- Settles O29: the confirming write passes, and `beginRestart` resets block by block. -/
theorem confirmRestarts : Obligations.ConfirmRestarts := by
  intro s op free awaits pending
  obtain ⟨t, run, served⟩ := exec_served (c := .confirm 11) (s := s) rfl fun _ => free
  have restarts : s.processorCycle (writeCycle (.trigger (.mailbox .confirm)) .word 11)
      = State.beginRestart { wrote s 0x21 .word 11 with mailbox := { s.mailbox with state := .executing, window := none } } := by
    rw [s.processorCycle_running _ op]
    exact State.confirmCycle_restart (s := wrote s 0x21 .word 11) awaits pending
  rw [restarts] at served
  have element (e : ElementId) : s.driver.off.element[e] = { s.element e with travel := none } := Vector.getElem_map _ e.isLt
  have off : s.driver.off.on = false := rfl
  refine ⟨t, run, ?_⟩
  obtain ⟨g, rfl⟩ := served
  refine ⟨rfl, freshBlocks_of_reset s.scan.lastPoll s.timing.stationKind s.timing.restart.gen s.timing.restart.offset
    s.timing.restart.history .hold s.alarm.critical s.alarm.major s.alarm.minor s.poster.shelfTime s.poster.intervalEnd
    rfl rfl rfl rfl rfl rfl, rfl, rfl, rfl, rfl, rfl, rfl, rfl, fun e => ⟨element e, State.driveOutput_off off e⟩,
    rfl, rfl, rfl, rfl, rfl, rfl, rfl, fun h => Timing.restart_quiet h, fun h => Timing.restart_loss h⟩

end Sys2Proof.Proofs

namespace Sys2Proof.Machine

/-! ## The part's own points stand while the blocks hand over theirs (R165) -/

theorem State.setPoint_part (s : State) {pt : Point} {k : Fin 4} (v : Bool) (h : pt ≠ .part k) :
    (s.setPoint pt v).pointRaised (.part k) = s.pointRaised (.part k) := s.setPoint_raised_other pt _ v h.symm

theorem State.pointRaised_congr {s t : State} (h : t.alarm = s.alarm) (p : Point) : t.pointRaised p = s.pointRaised p := by
  unfold State.pointRaised
  rw [h]

/-- Points of other kinds handed over one after another. -/
theorem State.setPoints_part {α : Type} (pt : α → Point) (v : State → α → Bool) {k : Fin 4} (h : ∀ a, pt a ≠ .part k) (l : List α)
    (s : State) : (l.foldl (fun s a => s.setPoint (pt a) (v s a)) s).pointRaised (.part k) = s.pointRaised (.part k) :=
  foldl_keeps (fun s : State => s.pointRaised (.part k)) (fun s a => s.setPoint (pt a) (v s a)) (fun s a => s.setPoint_part _ (h a)) l s

theorem State.handConditions_part (s : State) (heard : Driver) (g : GroupId) (k : Fin 4) :
    (s.handConditions heard g).pointRaised (.part k) = s.pointRaised (.part k) := by
  unfold State.handConditions
  dsimp only
  rw [State.setPoints_part (Point.group g) (fun _ j => (s.group[g].conditionsFor heard).get j) fun _ => Point.noConfusion]
  exact State.pointRaised_congr (s.setGroup_frame _ _).2.2.2.2.2.2.2.2.1 _

theorem State.adoptGroup_part (s : State) (g : GroupId) (k : Fin 4) :
    (s.adoptGroup g).pointRaised (.part k) = s.pointRaised (.part k) := by
  unfold State.adoptGroup
  rw [State.pointRaised_congr (State.formTransmit_frame _ _ _).2.2.2.2.2.2.2.2.1, State.handConditions_part]
  rfl

theorem State.timingAlarms_part (s : State) (k : Fin 4) : s.timingAlarms.pointRaised (.part k) = s.pointRaised (.part k) := by
  have slots (i : SlotId) (s : State) :
      ((List.finRange 2).foldl (fun s j => s.setPoint (.slot i j) (s.slotCondition i j)) s).pointRaised (.part k)
        = s.pointRaised (.part k) :=
    State.setPoints_part (Point.slot i) (fun s j => s.slotCondition i j) (fun _ => Point.noConfusion) _ s
  unfold State.timingAlarms
  dsimp only
  rw [State.setPoints_part Point.generator (fun s j => s.generatorCondition j) fun _ => Point.noConfusion]
  exact foldl_keeps (fun s : State => s.pointRaised (.part k))
    (fun s i => (List.finRange 2).foldl (fun s j => s.setPoint (.slot i j) (s.slotCondition i j)) s) (fun s i => slots i s) _ s

theorem State.timingStart_part (s : State) (k : Fin 4) : s.timingStart.pointRaised (.part k) = s.pointRaised (.part k) := by
  unfold State.timingStart State.retimeFrom
  rw [State.timingAlarms_part]
  refine State.pointRaised_congr ?_ _
  simp only [State.timingEvent_frame, State.reselect_frame, State.decideSlots_frame]
  exact foldl_keeps State.alarm _ (fun s l => (s.startLine_frame l).2.2.2.2.2.2.2.2.1) _ _

theorem State.startRing_part (s : State) {k : Fin 4} (h : k ≠ 2) : s.startRing.pointRaised (.part k) = s.pointRaised (.part k) := by
  unfold State.startRing State.handRingFormat
  refine (State.setPoint_part _ (pt := .ringFormat) _ fun e => h (Point.part.inj e).symm).trans ?_
  exact State.pointRaised_congr (State.takeRing_frame _ _).2.2.2.2.2.2.2.2.2 _

theorem State.completeRestart_part (s : State) (p : Point) : s.completeRestart.pointRaised p = s.pointRaised p := by
  unfold State.completeRestart
  split
  · unfold State.pointRaised State.putEvent
    dsimp only
    split <;> rfl
  · rfl

/-! ## Adoption (R95, R100, R123) -/

/-- The driver after the elements are adopted: a sensed element is SETTLED where it is sensed, and any other TRAVELLING. -/
theorem State.adoptElements_element (s : State) (e : ElementId) :
    s.adoptElements.element e = (s.element e).adopt (s.after Config.travelTime) := Vector.getElem_map _ e.isLt

theorem State.adoptElements_report (s : State) (e : ElementId) : s.adoptElements.report e =
    match (s.element e).sensed with
    | some p => .settled p
    | none => .travelling := by
  have element : s.adoptElements.driver.element[e] = (s.element e).adopt (s.after Config.travelTime) := s.adoptElements_element e
  unfold State.report Driver.report
  rw [if_pos (show s.adoptElements.driver.on = true from rfl), element]
  unfold Element.adopt
  cases (s.element e).sensed <;> rfl

/-- The record a group takes at adoption, before its conditions are brought up to date (R95). -/
def State.adoption (s : State) (g : GroupId) : Group :=
  s.takeSelector { s.group[g] with
    entry := s.adoptedEntry s.group[g].config
    winner := ((s.adoptedEntry s.group[g].config).map Entry.request).getD Request.clear
    top := ((s.adoptedEntry s.group[g].config).map Entry.request).getD Request.clear
    source := .local }

theorem State.adoptGroup_eq (s : State) (g : GroupId) :
    s.adoptGroup g = ((s.setGroup g (s.adoption g)).handConditions s.driver g).formTransmit s.driver g := rfl

/-- Adoption depends on the group's configuration and record and on the driver alone. -/
theorem State.adoption_congr {s t : State} {g : GroupId} (hd : t.driver = s.driver) (hg : t.group[g] = s.group[g]) :
    t.adoption g = s.adoption g := by
  have report : t.report = s.report := by
    funext e
    unfold State.report
    rw [hd]
  unfold State.adoption State.takeSelector State.adoptedEntry
  rw [hg, report]

/-- A group is adopted once, and no other group with it. -/
theorem State.adoptGroup_group (s : State) (g : GroupId) :
    (s.adoptGroup g).group[g] = { s.adoption g with conditions := (s.adoption g).conditionsFor s.driver } := by
  rw [s.adoptGroup_eq, State.handed_group, State.setGroup_group]

theorem State.adoptGroup_other (s : State) {g h : GroupId} (n : g ≠ h) : (s.adoptGroup g).group[h] = s.group[h] := by
  rw [s.adoptGroup_eq]
  unfold State.handConditions
  dsimp only
  rw [(State.formTransmit_frame _ _ _).2.2.2.2.2.1, State.setPoint_fold_frame]
  exact (put_other _ _ _ _ n).trans (put_other _ _ _ _ n)

/-- A SHARED group's formed word is its protect port's transmit word (R100). -/
theorem State.formTransmit_shared {s : State} {g : GroupId} {p : Port} (heard : Driver)
    (shared : GroupConfig.kind s.group[g].config = .shared) (protect : GroupConfig.protect s.group[g].config = some p) :
    (s.formTransmit heard g).scan.transmit[p] = bridgeWord s.group[g].top (heard.bridgedChannel s.group[g].config) := by
  unfold State.formTransmit
  dsimp only
  rw [shared, protect]
  exact put_same _ _ _

theorem State.formTransmit_other {s : State} {g : GroupId} {p : Port} (heard : Driver)
    (other : ¬ (GroupConfig.kind s.group[g].config = .shared ∧ GroupConfig.protect s.group[g].config = some p)) :
    (s.formTransmit heard g).scan.transmit[p] = s.scan.transmit[p] := by
  unfold State.formTransmit
  dsimp only
  split
  next q shared protect => exact put_other _ _ _ _ fun e => other ⟨shared, e ▸ protect⟩
  · rfl

theorem State.handConditions_group (s : State) (heard : Driver) (g : GroupId) :
    (s.handConditions heard g).group[g] = { s.group[g] with conditions := s.group[g].conditionsFor heard } := by
  have h := s.handed_group heard g
  rwa [(State.formTransmit_frame _ _ _).2.2.2.2.2.1] at h

/-- What a group's record and configuration are when its word is formed at adoption. -/
theorem State.adoption_handed (s : State) (g : GroupId) :
    ((s.setGroup g (s.adoption g)).handConditions s.driver g).group[g]
      = { s.adoption g with conditions := (s.adoption g).conditionsFor s.driver } := by
  rw [State.handConditions_group, State.setGroup_group]

theorem State.adoptGroup_transmit {s : State} {g : GroupId} {p : Port} (shared : GroupConfig.kind s.group[g].config = .shared)
    (protect : GroupConfig.protect s.group[g].config = some p) :
    (s.adoptGroup g).scan.transmit[p] = bridgeWord (s.adoption g).top (s.driver.bridgedChannel s.group[g].config) := by
  have handed := s.adoption_handed g
  rw [s.adoptGroup_eq, State.formTransmit_shared (p := p) s.driver (by rw [handed]; exact shared) (by rw [handed]; exact protect),
    handed]
  rfl

theorem State.adoptGroup_transmit_other {s : State} {g : GroupId} {p : Port}
    (other : ¬ (GroupConfig.kind s.group[g].config = .shared ∧ GroupConfig.protect s.group[g].config = some p)) :
    (s.adoptGroup g).scan.transmit[p] = s.scan.transmit[p] := by
  have handed := s.adoption_handed g
  rw [s.adoptGroup_eq, State.formTransmit_other (p := p) s.driver (by rw [handed]; exact other),
    (State.handConditions_frame _ _ _).2.2.2.2.1]
  rfl

/-- Groups adopted one after another leave the driver, and what is not theirs. -/
theorem State.adoptGroups_driver (s : State) (l : List GroupId) : (l.foldl State.adoptGroup s).driver = s.driver :=
  foldl_keeps State.driver State.adoptGroup (fun s g => (s.adoptGroup_frame g).2.2.2.2.2.1) l s

theorem State.adoptGroups_other (l : List GroupId) {h : GroupId} (n : h ∉ l) (s : State) :
    (l.foldl State.adoptGroup s).group[h] = s.group[h] := by
  induction l generalizing s with
  | nil => rfl
  | cons g l ih =>
    rw [List.mem_cons, not_or] at n
    exact (ih n.2 _).trans (s.adoptGroup_other (Ne.symm n.1))

/-- Adoption leaves every configuration. -/
theorem State.adoptGroup_config (s : State) (g h : GroupId) : (s.adoptGroup g).group[h].config = s.group[h].config := by
  by_cases e : g = h
  · rw [← e, State.adoptGroup_group]
    rfl
  · rw [s.adoptGroup_other e]

theorem State.adoptGroups_config (s : State) (l : List GroupId) (h : GroupId) :
    (l.foldl State.adoptGroup s).group[h].config = s.group[h].config :=
  foldl_keeps (fun s : State => s.group[h].config) State.adoptGroup (fun s g => s.adoptGroup_config g h) l s

/-- Only a SHARED group sets the word of its own protect port. -/
theorem State.adoptGroups_transmit_other (l : List GroupId) {p : Port} (s : State)
    (other : ∀ g ∈ l, ¬ (GroupConfig.kind s.group[g].config = .shared ∧ GroupConfig.protect s.group[g].config = some p)) :
    (l.foldl State.adoptGroup s).scan.transmit[p] = s.scan.transmit[p] := by
  induction l generalizing s with
  | nil => rfl
  | cons g l ih =>
    refine (ih _ fun h mem => ?_).trans (State.adoptGroup_transmit_other (other g List.mem_cons_self))
    rw [s.adoptGroup_config]
    exact other h (List.mem_cons_of_mem _ mem)

/-- What the adoption of all twelve groups gives one of them (R95). -/
theorem State.adoptGroups_group (s : State) (g : GroupId) : ((List.finRange 12).foldl State.adoptGroup s).group[g]
    = { s.adoption g with conditions := (s.adoption g).conditionsFor s.driver } := by
  obtain ⟨before, after, e⟩ := List.append_of_mem (List.mem_finRange g)
  have nodup := List.nodup_finRange 12
  rw [e] at nodup
  have apart := List.nodup_append.mp nodup
  have notBefore : g ∉ before := fun h => apart.2.2 g h g (List.mem_cons_self ..) rfl
  rw [e, List.foldl_append, List.foldl_cons, State.adoptGroups_other after (List.nodup_cons.mp apart.2.1).1, State.adoptGroup_group,
    State.adoptGroups_driver, State.adoption_congr (s.adoptGroups_driver before) (State.adoptGroups_other before notBefore s)]

/-- What it gives the protect port of a SHARED group that no other group names as its own (R100). -/
theorem State.adoptGroups_transmit {s : State} {g : GroupId} {p : Port} (shared : GroupConfig.kind s.group[g].config = .shared)
    (protect : GroupConfig.protect s.group[g].config = some p)
    (only : ∀ h : GroupId, GroupConfig.protect s.group[h].config = some p → h = g) :
    ((List.finRange 12).foldl State.adoptGroup s).scan.transmit[p]
      = bridgeWord (s.adoption g).top (s.driver.bridgedChannel s.group[g].config) := by
  obtain ⟨before, after, e⟩ := List.append_of_mem (List.mem_finRange g)
  have nodup := List.nodup_finRange 12
  rw [e] at nodup
  have apart := List.nodup_append.mp nodup
  have notBefore : g ∉ before := fun h => apart.2.2 g h g (List.mem_cons_self ..) rfl
  have notAfter := (List.nodup_cons.mp apart.2.1).1
  have same := State.adoptGroups_other before notBefore s
  rw [e, List.foldl_append, List.foldl_cons, State.adoptGroups_transmit_other after, State.adoptGroup_transmit (p := p)
    (by rw [same]; exact shared) (by rw [same]; exact protect), State.adoption_congr (s.adoptGroups_driver before) same,
    State.adoptGroups_driver, same]
  intro h mem own
  rw [State.adoptGroup_config, State.adoptGroups_config] at own
  exact notAfter (only h own.2 ▸ mem)

end Sys2Proof.Machine

namespace Sys2Proof.Machine

theorem channelIx_eq_some {p : Position} {k : ChannelIx} : channelIx p = some k ↔ p.val = k.val + 1 := by
  revert p k
  decide

end Sys2Proof.Machine

namespace Sys2Proof.Claims
open Sys2Proof.Machine

/-! ## Adoption, by what the elements are sensed at (R95) -/

/-- The report on each element of `a` is the adoption of the element as `s` senses it (R123). -/
def HearsAdoption (s a : State) : Prop := ∀ e : ElementId, a.report e =
  match (s.element e).sensed with
  | some p => .settled p
  | none => .travelling

theorem HearsAdoption.settled {s a : State} (h : HearsAdoption s a) {e : ElementId} {p : Position} :
    a.report e = .settled p ↔ (s.element e).sensed = some p := by
  rw [h e]
  cases (s.element e).sensed <;> simp

/-- A selector heard settled on channel `k` gives the entry of that channel. -/
theorem HearsAdoption.entry {s a : State} (h : HearsAdoption s a) {g : GroupId} {k : ChannelIx} (adopts : AdoptsAt s g k) :
    a.adoptedEntry s.group[g].config = some (if GroupConfig.kind s.group[g].config = .paired
      ∧ GroupConfig.revertive s.group[g].config = false then .stay else .wait k) := by
  obtain ⟨complete, working, ⟨e, p, selector, sensed, at_⟩, kind⟩ := adopts
  unfold State.adoptedEntry
  rw [if_pos complete, selector, Option.map_some, h.settled.mpr sensed]
  dsimp only
  rw [channelIx_eq_some.mpr at_]
  dsimp only
  rw [if_neg working]
  rcases kind with ⟨paired, zero⟩ | ⟨shared, count⟩
  · rw [paired]
    subst zero
    cases GroupConfig.revertive s.group[g].config <;> rfl
  · rw [shared, at_]
    dsimp only
    rw [if_pos count]
    rfl

/-- No channel adopts when no entry is given. -/
theorem HearsAdoption.adopts {s a : State} (h : HearsAdoption s a) {g : GroupId} {x : Entry}
    (some_ : a.adoptedEntry s.group[g].config = some x) : ∃ k, AdoptsAt s g k := by
  unfold State.adoptedEntry at some_
  split at some_
  next complete =>
    split at some_
    next p settled =>
      obtain ⟨e, selector, report⟩ := Option.map_eq_some_iff.mp settled
      have sensed := h.settled.mp report
      split at some_
      next k channel =>
        refine ⟨k, complete, ?_⟩
        split at some_
        · cases some_
        next working =>
          refine ⟨working, ⟨e, p, selector, sensed, channelIx_eq_some.mp channel⟩, ?_⟩
          split at some_
          next paired =>
            split at some_
            next zero => exact .inl ⟨paired, zero⟩
            · cases some_
          next shared =>
            split at some_
            next count => exact .inr ⟨shared, channelIx_eq_some.mp channel ▸ count⟩
            · cases some_
          · cases some_
      · cases some_
    · cases some_
  · cases some_

/-- The bridged channel heard at adoption: where the bridge element is sensed, and 0 above the count or while it travels (R99). -/
theorem HearsAdoption.bridged {s a : State} (h : HearsAdoption s a) (cfg : Vector Word 8) {b : Nat}
    (is : (∃ (e : ElementId) (q : Position), GroupConfig.bridge cfg = some e ∧ (s.element e).sensed = some q
        ∧ q.val ≤ GroupConfig.count cfg ∧ b = q.val)
      ∨ ((∀ (e : ElementId) (q : Position), GroupConfig.bridge cfg = some e → (s.element e).sensed = some q →
          GroupConfig.count cfg < q.val) ∧ b = 0)) : (a.driver.bridgedChannel cfg).val = b := by
  have report (e : ElementId) : a.driver.report e = a.report e := rfl
  unfold Driver.bridgedChannel
  rcases is with ⟨e, q, bridge, sensed, count, rfl⟩ | ⟨above, rfl⟩
  · rw [bridge]
    dsimp only
    rw [report, h.settled.mpr sensed]
    dsimp only
    rw [if_pos count]
  · split
    · rfl
    next e bridge =>
      rw [report, h e]
      cases sensed : (s.element e).sensed with
      | none => rfl
      | some q =>
        dsimp only
        rw [if_neg (Nat.not_le.mpr (above e q bridge sensed))]
        rfl

/-- ON PROTECT at adoption follows the selector where it is sensed (R93). -/
theorem HearsAdoption.onProtect {s a : State} (h : HearsAdoption s a) (cfg : Vector Word 8) :
    (GroupConfig.selector cfg).any (fun e => (a.report e).onProtect false) = true ↔
      ∃ (e : ElementId) (p : Position), GroupConfig.selector cfg = some e ∧ (s.element e).sensed = some p ∧ p ≠ 0 := by
  rw [Option.any_eq_true]
  constructor
  · rintro ⟨e, selector, protect⟩
    rw [h e] at protect
    cases sensed : (s.element e).sensed with
    | none =>
      rw [sensed] at protect
      cases protect
    | some p =>
      rw [sensed] at protect
      exact ⟨e, p, selector, sensed, fun zero => by simp [zero, Report.onProtect] at protect⟩
  · rintro ⟨e, p, selector, sensed, off⟩
    refine ⟨e, selector, ?_⟩
    rw [h.settled.mpr sensed]
    simpa [Report.onProtect] using fun z => off (Fin.ext z)

/-- A group whose record and protect port's word are those of its adoption is adopted as R95 and R100 say. -/
theorem HearsAdoption.adopted {s a t : State} (h : HearsAdoption s a) (group : a.group = s.group) {g : GroupId}
    (record : t.group[g] = { a.adoption g with conditions := (a.adoption g).conditionsFor a.driver })
    (word : ∀ p : Port, s.TableSound → GroupConfig.kind s.group[g].config = .shared →
      GroupConfig.protect s.group[g].config = some p →
      t.scan.transmit[p] = bridgeWord (a.adoption g).top (a.driver.bridgedChannel s.group[g].config)) : Adopted s t g := by
  have old : a.group[g] = s.group[g] := by rw [group]
  have entry : t.group[g].entry = a.adoptedEntry s.group[g].config := by rw [record, ← old]; rfl
  have winner : t.group[g].winner = ((a.adoptedEntry s.group[g].config).map Entry.request).getD Request.clear := by
    rw [record, ← old]
    rfl
  have top : t.group[g].top = t.group[g].winner := by rw [record]; rfl
  refine ⟨fun k adopts => ?_, fun none_ => ?_, top, ?_, ?_, ?_, fun p b table shared protect is => ?_⟩
  · have made := h.entry adopts
    rw [made] at entry winner
    refine ⟨entry, ?_⟩
    rw [winner]
    split
    next stays =>
      obtain ⟨-, zero⟩ | ⟨shared, -⟩ := adopts.2.2.2
      · rw [zero]
        exact ⟨rfl, rfl⟩
      · rw [shared] at stays
        cases stays.1
    · exact ⟨rfl, rfl⟩
  · have none_ : a.adoptedEntry s.group[g].config = none := by
      by_contra n
      obtain ⟨x, made⟩ := Option.ne_none_iff_exists'.mp n
      obtain ⟨k, adopts⟩ := h.adopts made
      exact none_ k adopts
    rw [none_] at entry winner
    exact ⟨entry, winner⟩
  · rw [record, ← old]
    rfl
  · rw [record, ← old]
    rfl
  · rw [← h.onProtect, record, ← old]
    rfl
  · rw [word p table shared protect, record, ← h.bridged _ is]
    rfl

end Sys2Proof.Claims

namespace Sys2Proof.Machine

/-! ## RUNNING begins (R17) -/

/-- RUNNING begins: up to the adoption of the elements, and up to that of the groups. -/
def State.elementsAdopted (s : State) : State :=
  (State.setPoint { s with path := { s.path with op := .running } } .imageNotReady false).adoptElements

def State.groupsAdopted (s : State) : State := (List.finRange 12).foldl State.adoptGroup s.elementsAdopted

theorem State.groupsAdopted_eq (s : State) : s.groupsAdopted = (List.finRange 12).foldl State.adoptGroup s.elementsAdopted := rfl

theorem State.beginRunning_eq (s : State) :
    s.beginRunning = s.groupsAdopted.timingStart.beginRound.startRing.completeRestart := rfl

theorem State.elementsAdopted_frame (s : State) : s.elementsAdopted.group = s.group ∧ s.elementsAdopted.scan = s.scan
    ∧ s.elementsAdopted.driver = ⟨true, s.driver.element.map (·.adopt (s.now + 400))⟩ := by
  obtain ⟨-, now, -, -, scan, -, group, driver, -⟩ :=
    State.setPoint_frame { s with path := { s.path with op := .running } } .imageNotReady false
  refine ⟨group, scan, ?_⟩
  unfold State.elementsAdopted State.adoptElements State.after
  rw [driver, now]
  rfl

theorem State.beginRound_scan (s : State) : s.beginRound.scan.transmit = s.scan.transmit
    ∧ s.beginRound.scan.round = some Round.first := ⟨rfl, rfl⟩

theorem State.beginRunning_parts (s : State) : s.beginRunning.group = s.groupsAdopted.group
    ∧ s.beginRunning.driver = s.elementsAdopted.driver
    ∧ s.beginRunning.scan.transmit = s.groupsAdopted.scan.transmit ∧ s.beginRunning.scan.round = some Round.first := by
  have driver := s.elementsAdopted.adoptGroups_driver (List.finRange 12)
  obtain ⟨transmit, round⟩ := s.groupsAdopted.timingStart.beginRound_scan
  rw [s.groupsAdopted.timingStart_frame.2.2.2.2.1] at transmit
  rw [s.beginRunning_eq]
  simp only [State.completeRestart_frame, State.startRing_frame, State.beginRound_frame, State.timingStart_frame]
  exact ⟨trivial, driver, transmit, round⟩

theorem State.beginRunning_part (s : State) : s.beginRunning.pointRaised (.part 0) = false := by
  rw [s.beginRunning_eq, State.completeRestart_part, State.startRing_part _ (by decide)]
  rw [State.pointRaised_congr (State.beginRound_frame _).2.2.2.2.2.2.2.2.1, State.timingStart_part]
  have adopted := foldl_keeps (fun s : State => s.pointRaised (.part 0)) State.adoptGroup (fun s g => s.adoptGroup_part g 0)
    (List.finRange 12) s.elementsAdopted
  refine adopted.trans ?_
  exact State.setPoint_raised _ .imageNotReady false

theorem State.completeRestart_owed (s : State) : s.completeRestart.mailbox.restartOwed = false := by
  unfold State.completeRestart
  split
  · simp only [State.putEvent_frame]
  next owed => simpa using owed

/-- The path, the held values, the ring-change flag and the owed restart result when RUNNING has begun. -/
theorem State.beginRunning_kept (s : State) : s.beginRunning.path = { s.path with op := .running }
    ∧ (∀ w, s.beginRunning.heldWord w = s.heldWord w) ∧ s.beginRunning.poster.ringChange = false
    ∧ s.beginRunning.mailbox.restartOwed = false := by
  obtain ⟨v, before, after⟩ := s.beginRunning_cases
  refine ⟨?_, fun w => ?_, ?_, ?_⟩
  · rw [after.path, (State.takeRing_frame _ _).2.2.1, before.path]
  · rw [after.held, State.takeRing_heldWord, before.held, s.heldWord_withPath]
  · rw [after.poster.ringChange]
    rcases v.takeRing_cases v.poster.ready with ⟨-, e⟩ | ⟨-, e⟩ <;> rw [e]
  · rw [s.beginRunning_eq]
    exact State.completeRestart_owed _

end Sys2Proof.Machine

namespace Sys2Proof.Claims
open Sys2Proof.Machine

/-- The loader's last word is the station input kind, whose taking touches the timing unit alone (R16). -/
theorem last_word {n : Nat} {w : Watched} (last : n + 1 = loaderOrder.length) (at_ : loaderOrder[n]? = some w) : w = .stationKind := by
  have n_ : n = 360 := by
    rw [loaderOrder_length] at last
    omega
  subst n_
  exact (Option.some.inj (at_.symm.trans (by decide +kernel : loaderOrder[360]? = some .stationKind)))

theorem take_stationKind (s : State) (e : Word) (v : Verdict) : (s.take .stationKind e v).group = s.group
    ∧ (s.take .stationKind e v).driver = s.driver ∧ (s.take .stationKind e v).now = s.now := by
  unfold State.take
  simp only [State.provision_frame, State.takeHeld_frame]
  unfold State.takeHeld
  split <;> exact ⟨rfl, rfl, trivial⟩

/-- No two groups have one protect port (R74). -/
theorem protect_once {s : State} (h : s.TableSound) {f g : GroupId} {p : Port} (hf : GroupConfig.protect s.group[f].config = some p)
    (hg : GroupConfig.protect s.group[g].config = some p) : f = g := by
  have named (g : GroupId) (hg : GroupConfig.protect s.group[g].config = some p) : s.portFieldOf g 0 = p.val := by
    unfold GroupConfig.protect portField at hg
    split at hg
    · exact congrArg Fin.val (Option.some.inj hg)
    · cases hg
  have port := p.isLt
  exact (h.portOnce f 0 g 0 (by rw [named f hf]; omega) ((named f hf).trans (named g hg).symm)).1

/-- What RUNNING begins with does not name the holder of the port. -/
theorem RunningBegun.regranted {s v t : State} {w : Watched} {e : Word} {m : Memory} (b : RunningBegun s v w e m) (h : Regranted v t) :
    RunningBegun s t w e m := by
  obtain ⟨op, mem, point, own, others, on, settled, travelling, adopted, round, change, owed⟩ := b
  have heldWord := h.heldWord
  obtain ⟨g, rfl⟩ := h
  exact ⟨op, mem, point, (heldWord w).trans own, fun x n => (heldWord x).trans (others x n), on, settled, travelling, adopted, round,
    change, owed⟩

theorem elementsAdopted_hears {s u : State} (driver : u.driver = s.driver) : HearsAdoption s u.elementsAdopted := by
  intro x
  have before : State.element (State.setPoint { u with path := { u.path with op := .running } } .imageNotReady false) x
      = s.element x := by
    unfold State.element
    rw [(State.setPoint_frame _ _ _).2.2.2.2.2.2.2.1]
    exact congrArg (·.element[x]) driver
  rw [← before]
  exact State.adoptElements_report _ x

/-- Every group is adopted when RUNNING begins from a state `u` with the groups and elements of `s` (R95, R100). -/
theorem beginRunning_adopted {s u : State} (group : u.group = s.group) (driver : u.driver = s.driver) (g : GroupId) :
    Adopted s u.beginRunning g := by
  obtain ⟨groups, -, transmit, -⟩ := u.beginRunning_parts
  obtain ⟨oldGroup, -, -⟩ := u.elementsAdopted_frame
  have hears := elementsAdopted_hears driver
  have config (f : GroupId) : u.elementsAdopted.group[f].config = s.group[f].config := by rw [oldGroup, group]
  rw [u.groupsAdopted_eq] at groups transmit
  generalize u.elementsAdopted = a at *
  generalize u.beginRunning = v at *
  refine hears.adopted (oldGroup.trans group) ?_ fun p table shared protect => ?_
  · rw [groups]
    exact a.adoptGroups_group g
  · rw [transmit, ← config g]
    refine State.adoptGroups_transmit (by rw [config]; exact shared) (by rw [config]; exact protect) fun f named => ?_
    rw [config] at named
    exact protect_once table named protect

/-- RUNNING begins from a state `u` with the groups and elements of `s` (R17, R95, R100, R123). -/
theorem runningBegun {s u : State} {w : Watched} {e : Word} {m : Memory} (group : u.group = s.group) (driver : u.driver = s.driver)
    (now : u.now = s.now) (mem : u.path.mem = m) (own : u.heldWord w = e) (others : ∀ w', w' ≠ w → u.heldWord w' = s.heldWord w') :
    RunningBegun s u.beginRunning w e m := by
  obtain ⟨path, held, change, owed⟩ := u.beginRunning_kept
  obtain ⟨-, drivers, -, round⟩ := u.beginRunning_parts
  obtain ⟨-, -, elements⟩ := u.elementsAdopted_frame
  have adopted := beginRunning_adopted group driver
  have point := u.beginRunning_part
  have element (x : ElementId) : u.beginRunning.element x = (s.element x).adopt (s.now + 400) := by
    unfold State.element
    rw [drivers, elements, driver, now]
    exact Vector.getElem_map _ x.isLt
  generalize u.beginRunning = v at *
  refine ⟨by rw [path], by rw [path]; exact mem, point, (held w).trans own, fun x n => (held x).trans (others x n),
    by rw [drivers, elements], fun x p sensed => ?_, fun x sensed => ?_, adopted, round, change, owed⟩
  · rw [element, Element.adopt, sensed]
  · rw [element, Element.adopt, sensed]

/-- The last word is taken, and RUNNING begins with the memory path at `p` and no processor cycle held. -/
theorem lastWord_begins {s s' : State} {p : Path} (e : Word) (v : Verdict) (group : s'.group = s.group) (driver : s'.driver = s.driver)
    (now : s'.now = s.now) (heldWord : ∀ w, s'.heldWord w = s.heldWord w) (held : p.held = []) :
    ∃ t, (State.beginRunning { s'.take .stationKind e v with path := p }).finishMaster true = .next t
      ∧ RunningBegun s t .stationKind e p.mem := by
  obtain ⟨group', driver', now'⟩ := take_stationKind s' e v
  have word (x : Watched) := ((s'.take .stationKind e v).heldWord_withPath p x).trans (s'.take_heldWord .stationKind e v x)
  generalize s'.take .stationKind e v = u at *
  have begun : RunningBegun s (State.beginRunning { u with path := p }) .stationKind e p.mem :=
    runningBegun (group'.trans group) (driver'.trans driver) (now'.trans now) rfl ((word _).trans (if_pos rfl))
      fun x n => ((word x).trans (if_neg n)).trans (heldWord x)
  have idle : (State.beginRunning { u with path := p }).path.held = [] := by
    rw [(State.beginRunning_kept _).1]
    exact held
  obtain ⟨t, done, regranted⟩ := finishMaster_regranted _ true fun _ => State.serveHeld_none _ idle
  exact ⟨t, done, begun.regranted regranted⟩

/-- The loader moves on past the last word, with no processor cycle held. -/
theorem loaderNext_last {s s' : State} {w : Watched} {e : Word} {v : Verdict} (group : s'.group = s.group) (driver : s'.driver = s.driver)
    (now : s'.now = s.now) (heldWord : ∀ w, s'.heldWord w = s.heldWord w) (held : s'.path.held = [])
    (last : s'.path.loaderAt + 1 = loaderOrder.length) (at_ : loaderOrder[s'.path.loaderAt]? = some w) :
    ∃ t, (s'.take w e v).loaderNext.finishMaster true = .next t ∧ RunningBegun s t w e s'.path.mem := by
  obtain rfl := last_word last at_
  have path := s'.take_path .stationKind e v
  rcases (s'.take .stationKind e v).loaderNext_cases with ⟨-, next⟩ | ⟨more, -⟩
  · rw [path] at next
    rw [next]
    exact lastWord_begins (p := { s'.path with loaderAt := s'.path.loaderAt + 1, writeBack := none }) e v group driver now heldWord held
  · rw [path] at more
    exact absurd last more

end Sys2Proof.Claims

namespace Sys2Proof.Proofs
open Sys2Proof.Machine Sys2Proof.Claims

/-- Settles O7: the last read or write-back, and the start of RUNNING block by block. -/
theorem runningBegins : Obligations.RunningBegins := by
  intro s w v op last at_ held
  have due : decide (s.path.op = .loading) = true := decide_eq_true op
  refine ⟨fun wb screened => ?_, fun e wb => ?_⟩
  · have read := State.loadWord_due op wb at_
    rw [screened, if_pos rfl] at read
    change ∃ t, s.loadWord.finishMaster (decide (s.path.op = .loading)) = .next t ∧ _
    rw [due, read]
    exact loaderNext_last rfl rfl rfl (fun _ => rfl) held last at_
  · change ∃ t, s.writeBackWord.finishMaster (decide (s.path.op = .loading)) = .next t ∧ _
    rw [due, State.writeBackWord_due op wb]
    exact loaderNext_last (s' := s.memWrite (s.imageAddr w.offset) .word e) rfl rfl rfl (s.memWrite_heldWord _ _ _) held last at_

end Sys2Proof.Proofs

namespace Sys2Proof.Machine

/-! ## Screening of a field the owner only brings into range (R5) -/

theorem State.screen_refused {s : State} {w : Watched} {v : Word} (written : v ≠ s.heldWord w) (refused : (s.answers w v).refused = true) :
    s.screen w v = (.refused, s.heldWord w) := by
  rw [s.screen_written w written]
  exact if_pos refused

theorem State.screen_prohibited {s : State} {w : Watched} {v : Word} (written : v ≠ s.heldWord w)
    (refused : (s.answers w v).refused = false) (prohibited : (s.answers w v).prohibited = true) :
    s.screen w v = (.prohibited, s.heldWord w) := by
  rw [s.screen_written w written]
  exact (if_neg (by rw [refused]; exact nofun)).trans (if_pos prohibited)

/-- A word whose owner neither refuses nor prohibits it is taken, brought into its range (R5). -/
theorem State.screen_taken {s : State} {w : Watched} {v : Word} (written : v ≠ s.heldWord w) (refused : (s.answers w v).refused = false)
    (prohibited : (s.answers w v).prohibited = false) (once : (s.answers w v).onceHeld = false) :
    s.screen w v = Claims.taken (s.answers w v).value v := by
  rw [s.screen_written w written]
  unfold Answers.verdict Claims.taken
  rw [refused, prohibited, once]
  by_cases same : (s.answers w v).value = v <;> simp [same]

/-- A word whose owner only brings it into its range. -/
theorem State.screen_ranged {s : State} {w : Watched} {v e : Word} (written : v ≠ s.heldWord w) (answers : s.answers w v = { value := e }) :
    s.screen w v = Claims.taken e v := by
  rw [State.screen_taken written, answers] <;> rw [answers]

theorem wordOf_toNat_self (v : Word) : wordOf v.toNat = v := BitVec.eq_of_toNat_eq (wordOf_toNat v.isLt)

end Sys2Proof.Machine

namespace Sys2Proof.Claims
open Sys2Proof.Machine

theorem taken_self (v : Word) : taken v v = (.accepted, v) := by simp [taken]

theorem taken_ne {e v : Word} (h : e ≠ v) : taken e v = (.clamped, e) := by simp [taken, h]

/-- An owner that answers the number clamped into its range screens it so. -/
theorem clampsNumber_of_answers {s : State} {w : Watched} {lo hi : Nat} (range : lo ≤ hi) (fits : hi < 65536)
    (answers : ∀ v, s.answers w v = { value := wordOf (clampNat lo hi v.toNat) }) : ClampsNumber s w lo hi := by
  intro v written
  rw [State.screen_ranged written (answers v)]
  have differs {n : Nat} (below : n < 65536) (ne : n ≠ v.toNat) : wordOf n ≠ v := fun e => ne (by rw [← e, wordOf_toNat below])
  refine ⟨fun low => ?_, fun high => ?_, fun inside => ?_⟩
  · rw [show clampNat lo hi v.toNat = lo by unfold clampNat; omega]
    exact taken_ne (differs (by omega) (by omega))
  · rw [show clampNat lo hi v.toNat = hi by unfold clampNat; omega]
    exact taken_ne (differs fits (by omega))
  · rw [show clampNat lo hi v.toNat = v.toNat by unfold clampNat; omega, wordOf_toNat_self]
    exact taken_self v

/-- An owner that answers the power clamped into -500 to +100 screens it so. -/
theorem clampsPower_of_answers {s : State} {w : Watched} (answers : ∀ v, s.answers w v = { value := signedWord (clampPower v) }) :
    ClampsPower s w := by
  intro v written
  rw [State.screen_ranged written (answers v)]
  have differs {i : Int} (lo : -32768 ≤ i) (hi : i < 32768) (ne : i ≠ v.toInt) : signedWord i ≠ v :=
    fun e => ne (by rw [← e, signedWord_toInt lo hi])
  refine ⟨fun low => ?_, fun high => ?_, fun inside => ?_⟩
  · rw [show clampPower v = -500 by unfold clampPower clampInt; omega]
    exact taken_ne (differs (by omega) (by omega) (by omega))
  · rw [show clampPower v = 100 by unfold clampPower clampInt; omega]
    exact taken_ne (differs (by omega) (by omega) (by omega))
  · rw [show clampPower v = v.toInt by unfold clampPower clampInt; omega, show signedWord v.toInt = v from BitVec.ofInt_toInt]
    exact taken_self v

end Sys2Proof.Claims

namespace Sys2Proof.Proofs
open Sys2Proof.Machine Sys2Proof.Claims

/-- Settles O16: the owners of these words only clamp them; where the range begins at 0 they only cut at its end. -/
theorem screenNumbers : Obligations.ScreenNumbers := by
  have cut (hi n : Nat) : min hi n = clampNat 0 hi n := by simp [clampNat]
  refine fun s => ⟨?_, fun n => ⟨?_, ?_, ?_, ?_⟩, fun p => ⟨?_, ?_⟩, fun i => ?_⟩
  · exact clampsNumber_of_answers (by decide) (by decide) fun v => by rw [← cut]; rfl
  · exact clampsNumber_of_answers (by decide) (by decide) fun v => by rw [← cut]; rfl
  · exact clampsPower_of_answers fun v => rfl
  · exact clampsNumber_of_answers (by decide) (by decide) fun v => by rw [← cut]; rfl
  · exact clampsPower_of_answers fun v => rfl
  · exact clampsPower_of_answers fun v => rfl
  · exact clampsNumber_of_answers (by decide) (by decide) fun v => by rw [← cut]; rfl
  · exact clampsNumber_of_answers (by decide) (by decide) fun v => rfl

end Sys2Proof.Proofs

namespace Sys2Proof.Machine

/-! ## Slots of a round (R19 to R22) -/

theorem State.startSlot_none {s : State} {p : Port} {rs : List (Port × Option Answer)} (at_ : s.scan.round = some ⟨p, .waiting, rs⟩)
    (kind : s.sup.kind p = .none) : s.startSlot = s.setRound (some ⟨p, .unscanned, rs⟩) := by
  unfold State.startSlot
  rw [at_]
  exact if_pos kind

theorem State.startSlot_equipped {s : State} {p : Port} {rs : List (Port × Option Answer)}
    (at_ : s.scan.round = some ⟨p, .waiting, rs⟩) (kind : s.sup.kind p ≠ .none) :
    s.startSlot = { s with scan := { s.scan with
      round := some ⟨p, .polled, rs⟩, lastPoll := put s.scan.lastPoll p (some (s.scan.pollWords p)) } } := by
  unfold State.startSlot
  rw [at_]
  exact if_neg kind

theorem State.takeAnswer_polled {s : State} {p : Port} {rs : List (Port × Option Answer)} (at_ : s.scan.round = some ⟨p, .polled, rs⟩)
    (check : Bool) (a : Answer) : s.takeAnswer check a = if check then s.setRound (some ⟨p, .answered a, rs⟩) else s := by
  unfold State.takeAnswer
  rw [at_]

/-- The end of a slot before port 23's goes on to the next port's (R22). -/
theorem State.endSlot_next {s : State} {p q : Port} {ph : SlotPhase} {rs : List (Port × Option Answer)} (next : q.val = p.val + 1)
    (at_ : s.scan.round = some ⟨p, ph, rs⟩) (started : ph ≠ .waiting) :
    s.endSlot = s.setRound (some ⟨q, .waiting, Round.gather ⟨p, ph, rs⟩⟩) := by
  have more : p.val + 1 < 24 := next ▸ q.isLt
  have slot : (⟨p.val + 1, more⟩ : Port) = q := Fin.ext next.symm
  unfold State.endSlot
  rw [at_]
  simp only [if_neg started, dif_pos more, slot]

/-- The end of port 23's slot classifies the round (R23). -/
theorem State.endSlot_last {s : State} {ph : SlotPhase} {rs : List (Port × Option Answer)} (at_ : s.scan.round = some ⟨23, ph, rs⟩)
    (started : ph ≠ .waiting) : s.endSlot = s.classifyRound (Round.gather ⟨23, ph, rs⟩) := by
  unfold State.endSlot
  rw [at_]
  simp only [if_neg started]
  rfl

end Sys2Proof.Machine

namespace Sys2Proof.Claims
open Sys2Proof.Machine

/-- A command that is no memory cycle is its effect with the grant that follows (R11). -/
theorem finish_regranted {u v : State} (effect : u = v) : ∃ t, u.finish = .next t ∧ Regranted v t :=
  ⟨_, rfl, effect ▸ Regranted.eventDone u⟩

end Sys2Proof.Claims

namespace Sys2Proof.Proofs
open Sys2Proof.Machine Sys2Proof.Claims

/-- Settles O37: each row is its block's step, with the grant that ends a command. -/
theorem scanSlots : Obligations.ScanSlots := by
  refine ⟨fun s op idle => ?_, fun s op => ?_, fun s p rs at_ => ⟨fun kind => ?_, fun kind => ?_⟩, fun s p rs a at_ => ⟨?_, ?_⟩,
    fun s p q ph rs next at_ => ⟨?_, ?_, ?_⟩⟩
  · exact finish_regranted (u := s.startRound) (if_pos ⟨op, idle⟩)
  · exact finish_regranted (u := s.startRound) (if_neg fun h => op h.1)
  · exact finish_regranted (State.startSlot_none at_ kind)
  · have started := State.startSlot_equipped at_ kind
    have polls : s.startSlot.eventDone.scan.lastPoll = put s.scan.lastPoll p (some (s.scan.pollWords p)) := by
      rw [(State.eventDone_frame _).2.2.2.1, started]
    refine ⟨_, rfl, ?_, fun q other => ?_, ?_⟩
    · rw [polls, put_same]
      rfl
    · rw [polls, put_other _ _ _ _ other.symm]
    · rw [polls, started]
      exact Regranted.eventDone _
  · exact finish_regranted (State.takeAnswer_polled at_ true a)
  · exact finish_regranted (State.takeAnswer_polled at_ false a)
  · rintro rfl
    exact finish_regranted (State.endSlot_next next at_ nofun)
  · rintro rfl
    exact finish_regranted (State.endSlot_next next at_ nofun)
  · rintro a rfl
    exact finish_regranted (State.endSlot_next next at_ nofun)

end Sys2Proof.Proofs

namespace Sys2Proof.Machine

/-! ## Points handed over one after another (R165) -/

/-- Points handed over leave every other point. -/
theorem State.setPoints_other {α : Type} (pt : α → Point) (v : State → α → Bool) {q : Point} (l : List α) (other : ∀ a ∈ l, q ≠ pt a)
    (s : State) : (l.foldl (fun s a => s.setPoint (pt a) (v s a)) s).pointRaised q = s.pointRaised q := by
  induction l generalizing s with
  | nil => rfl
  | cons a l ih =>
    exact (ih (fun b mem => other b (List.mem_cons_of_mem _ mem)) _).trans
      (s.setPoint_raised_other _ _ _ (other a List.mem_cons_self))

/-- Each of the points handed over holds its value, when no point's value depends on the points. -/
theorem State.setPoints_raised {α : Type} [DecidableEq α] (pt : α → Point) (apart : pt.Injective) (v : State → α → Bool)
    (stands : ∀ s q b a, v (s.setPoint q b) a = v s a) (l : List α) (s : State) {a : α} (mem : a ∈ l) :
    (l.foldl (fun s a => s.setPoint (pt a) (v s a)) s).pointRaised (pt a) = v s a := by
  induction l generalizing s with
  | nil => cases mem
  | cons b l ih =>
    by_cases later : a ∈ l
    · exact (ih _ later).trans (stands _ _ _ _)
    · obtain rfl : a = b := (List.mem_cons.mp mem).resolve_right later
      exact (State.setPoints_other pt v l (fun c mem e => by rw [apart e] at later; exact later mem) _).trans (s.setPoint_raised _ _)

/-- The slot points in the order they are handed over (R159). -/
def slotPoints : List (SlotId × Fin 2) := (List.finRange 4).flatMap fun i => (List.finRange 2).map (Prod.mk i)

theorem State.timingAlarms_eq (s : State) : s.timingAlarms =
    (List.finRange 3).foldl (fun s k => s.setPoint (.generator k) (s.generatorCondition k))
      (slotPoints.foldl (fun s a => s.setPoint (.slot a.1 a.2) (s.slotCondition a.1 a.2)) s) := by
  unfold slotPoints
  simp only [List.foldl_flatMap, List.foldl_map]
  rfl

theorem State.timingAlarms_other (s : State) {q : Point} (slot : ∀ i k, q ≠ .slot i k) (generator : ∀ k, q ≠ .generator k) :
    s.timingAlarms.pointRaised q = s.pointRaised q := by
  rw [s.timingAlarms_eq]
  exact (State.setPoints_other Point.generator _ _ (fun k _ => generator k) _).trans
    (State.setPoints_other (fun a : SlotId × Fin 2 => Point.slot a.1 a.2) (fun s a => s.slotCondition a.1 a.2) _
      (fun a _ => slot a.1 a.2) s)

theorem State.slotCondition_congr {s t : State} (h : t.timing = s.timing) : t.slotCondition = s.slotCondition := by
  cases s
  cases h
  rfl

theorem State.generatorCondition_congr {s t : State} (h : t.timing = s.timing) : t.generatorCondition = s.generatorCondition := by
  cases s
  cases h
  rfl

theorem State.timingAlarms_slot (s : State) (i : SlotId) (k : Fin 2) :
    s.timingAlarms.pointRaised (.slot i k) = s.slotCondition i k := by
  have mem : (i, k) ∈ slotPoints := by simp [slotPoints]
  rw [s.timingAlarms_eq, State.setPoints_other Point.generator _ _ (fun _ _ => Point.noConfusion)]
  exact State.setPoints_raised (fun a : SlotId × Fin 2 => Point.slot a.1 a.2) (fun a b e => by injection e with e f; exact Prod.ext e f)
    (fun s a => s.slotCondition a.1 a.2)
    (fun s q b a => by rw [State.slotCondition_congr (State.setPoint_frame _ _ _).2.2.2.2.2.2.2.2]) _ s mem

theorem State.timingAlarms_generator (s : State) (k : Fin 3) :
    s.timingAlarms.pointRaised (.generator k) = s.generatorCondition k := by
  rw [s.timingAlarms_eq]
  refine (State.setPoints_raised Point.generator (fun a b e => by injection e) (fun s k => s.generatorCondition k)
    (fun s q b a => by rw [State.generatorCondition_congr (State.setPoint_frame _ _ _).2.2.2.2.2.2.2.2]) _ _ (List.mem_finRange k)).trans ?_
  rw [State.generatorCondition_congr]
  exact foldl_keeps State.timing _ (fun _ _ => (State.setPoint_frame _ _ _).2.2.2.2.2.2.2.2) _ _

end Sys2Proof.Machine

namespace Sys2Proof.Claims
open Sys2Proof.Machine

theorem timingPoints_of_conditions {t : State} (slot : ∀ i k, t.pointRaised (.slot i k) = t.slotCondition i k)
    (generator : ∀ k, t.pointRaised (.generator k) = t.generatorCondition k) : TimingPoints t := by
  refine ⟨fun i => ⟨?_, ?_⟩, ?_, ?_, ?_⟩
  · simp [slot, State.slotCondition, State.slotDisabled]
    exact fun _ => Iff.rfl
  · simp [slot, State.slotCondition, State.slotDisabled]
    exact fun _ => Iff.rfl
  · simp [generator, State.generatorCondition]
  · simp [generator, State.generatorCondition, State.slotDisabled]
  · simp [generator, State.generatorCondition]

/-- A step of the timing unit leaves its points as its state asks (R159). -/
theorem timingPoints_timingAlarms (s : State) : TimingPoints s.timingAlarms := by
  have timing : s.timingAlarms.timing = s.timing := s.timingAlarms_frame.2.2.2.2.2.2.2.2
  refine timingPoints_of_conditions (fun i k => ?_) fun k => ?_
  · rw [s.timingAlarms_slot, State.slotCondition_congr timing]
  · rw [s.timingAlarms_generator, State.generatorCondition_congr timing]

theorem TimingPoints.congr {s t : State} (h : TimingPoints s) (timing : t.timing = s.timing)
    (slot : ∀ i k, t.pointRaised (.slot i k) = s.pointRaised (.slot i k))
    (generator : ∀ k, t.pointRaised (.generator k) = s.pointRaised (.generator k)) : TimingPoints t := by
  unfold TimingPoints at h ⊢
  simpa only [timing, slot, generator] using h

theorem GroupPoints.congr {s t : State} {g : GroupId} (h : GroupPoints s g) (conditions : t.group[g].conditions = s.group[g].conditions)
    (points : ∀ k, t.pointRaised (.group g k) = s.pointRaised (.group g k)) : GroupPoints t g := by
  unfold GroupPoints at h ⊢
  simpa only [conditions, points] using h

/-! ## What a group's update leaves as it was (R90) -/

/-- `t` follows `s` by updates of groups that meet `G` and by what these bring: the port supervisor keeps all but its rounds and the
scan controller all but its transmit words, the points of the ports, of the part and of the other groups stand, and the timing points
follow the timing unit if they did. -/
structure Works (G : GroupId → Prop) (s t : State) : Prop where
  sup    : ∃ l, t.sup = { s.sup with rounds := l }
  scan   : ∃ w, t.scan = { s.scan with transmit := w }
  port   : ∀ p k, t.pointRaised (.port p k) = s.pointRaised (.port p k)
  part   : ∀ k, t.pointRaised (.part k) = s.pointRaised (.part k)
  timing : TimingPoints s → TimingPoints t
  others : ∀ g, ¬ G g → t.group[g] = s.group[g] ∧ ∀ k, t.pointRaised (.group g k) = s.pointRaised (.group g k)

namespace Works

theorem refl (G : GroupId → Prop) (s : State) : Works G s s :=
  ⟨⟨_, rfl⟩, ⟨_, rfl⟩, fun _ _ => rfl, fun _ => rfl, id, fun _ _ => ⟨rfl, fun _ => rfl⟩⟩

theorem trans {G : GroupId → Prop} {s t u : State} (h : Works G s t) (k : Works G t u) : Works G s u where
  sup := by
    obtain ⟨_, h⟩ := h.sup
    obtain ⟨l, k⟩ := k.sup
    exact ⟨l, by rw [k, h]⟩
  scan := by
    obtain ⟨_, h⟩ := h.scan
    obtain ⟨w, k⟩ := k.scan
    exact ⟨w, by rw [k, h]⟩
  port := fun p j => (k.port p j).trans (h.port p j)
  part := fun j => (k.part j).trans (h.part j)
  timing := k.timing ∘ h.timing
  others := fun g n => ⟨(k.others g n).1.trans (h.others g n).1, fun j => ((k.others g n).2 j).trans ((h.others g n).2 j)⟩

theorem ite {G : GroupId → Prop} {s t u : State} {c : Prop} [Decidable c] (h : Works G s t) (k : Works G s u) :
    Works G s (if c then t else u) := by
  split <;> assumption

theorem iteSelf {G : GroupId → Prop} {s t : State} {c : Prop} [Decidable c] (h : Works G s t) : Works G s (if c then t else s) :=
  h.ite (refl G s)

theorem foldl {G : GroupId → Prop} {α : Type} {f : State → α → State} (h : ∀ s a, Works G s (f s a)) (l : List α) (s : State) :
    Works G s (l.foldl f s) := by
  induction l generalizing s with
  | nil => exact refl G s
  | cons a l ih => exact (h s a).trans (ih _)

theorem mono {G H : GroupId → Prop} {s t : State} (h : Works G s t) (wider : ∀ g, G g → H g) : Works H s t :=
  { h with others := fun g n => h.others g fun y => n (wider g y) }

/-- An effect that leaves the points and the timing unit. -/
theorem of_blocks {G : GroupId → Prop} {s t : State} (sup : ∃ l, t.sup = { s.sup with rounds := l })
    (scan : ∃ w, t.scan = { s.scan with transmit := w }) (timing : t.timing = s.timing)
    (raised : ∀ q, t.pointRaised q = s.pointRaised q) (others : ∀ g, ¬ G g → t.group[g] = s.group[g]) : Works G s t where
  sup := sup
  scan := scan
  port := fun _ _ => raised _
  part := fun _ => raised _
  timing := fun h => h.congr timing (fun _ _ => raised _) fun _ => raised _
  others := fun g n => ⟨others g n, fun _ => raised _⟩

/-- A step of the timing unit: its points follow it, and no other block's. -/
theorem of_timingAlarms {G : GroupId → Prop} {s u : State} (sup : u.sup = s.sup) (scan : u.scan = s.scan) (alarm : u.alarm = s.alarm)
    (group : u.group = s.group) : Works G s u.timingAlarms where
  sup := ⟨_, (u.timingAlarms_frame.2.2.2.2.2.1).trans sup⟩
  scan := ⟨_, (u.timingAlarms_frame.2.2.2.2.1).trans scan⟩
  port := fun _ _ => (u.timingAlarms_other (fun _ _ => Point.noConfusion) fun _ => Point.noConfusion).trans (State.pointRaised_congr alarm _)
  part := fun _ => (u.timingAlarms_other (fun _ _ => Point.noConfusion) fun _ => Point.noConfusion).trans (State.pointRaised_congr alarm _)
  timing := fun _ => timingPoints_timingAlarms u
  others := fun g _ => ⟨by rw [u.timingAlarms_frame.2.2.2.2.2.2.1, group], fun _ =>
    (u.timingAlarms_other (fun _ _ => Point.noConfusion) fun _ => Point.noConfusion).trans (State.pointRaised_congr alarm _)⟩

end Works

/-! ### The timing unit -/

theorem retimeFrom_works {G : GroupId → Prop} (began s u : State) (sup : u.sup = s.sup) (scan : u.scan = s.scan)
    (alarm : u.alarm = s.alarm) (group : u.group = s.group) : Works G s (State.retimeFrom began u) := by
  unfold State.retimeFrom
  refine .of_timingAlarms ?_ ?_ ?_ ?_ <;> simp only [State.timingEvent_frame, State.reselect_frame, State.decideSlots_frame] <;> assumption

theorem timingPoints_retime (s : State) : TimingPoints s.retime := by
  unfold State.retime State.retimeFrom
  exact timingPoints_timingAlarms _

theorem retime_works {G : GroupId → Prop} (s : State) : Works G s s.retime := retimeFrom_works s s s rfl rfl rfl rfl

theorem timingReport_works {G : GroupId → Prop} (s : State) (e : ElementId) : Works G s (s.timingReport e) := by
  unfold State.timingReport
  dsimp only
  refine retimeFrom_works s s _ (foldl_keeps State.sup _ ?_ _ _) (foldl_keeps State.scan _ ?_ _ _) (foldl_keeps State.alarm _ ?_ _ _)
    (foldl_keeps State.group _ ?_ _ _) <;>
  · intro s l
    split
    · simp only [State.lineReport_frame]
    · rfl

/-! ### The protection controller -/

theorem setGroup_works (s : State) (g : GroupId) (r : Group) : Works (· = g) s (s.setGroup g r) :=
  .of_blocks ⟨_, rfl⟩ ⟨_, rfl⟩ rfl (fun _ => rfl) fun _ n => put_other _ _ _ _ (Ne.symm n)

theorem putEvent_works {G : GroupId → Prop} (s : State) (o : Nat) (d : Detail) : Works G s (s.putEvent o d) := by
  rcases s.putEvent_cases o d with ⟨-, h⟩ | ⟨-, h⟩ <;> rw [h] <;>
    exact .of_blocks ⟨_, rfl⟩ ⟨_, rfl⟩ rfl (fun _ => rfl) fun _ _ => rfl

theorem setPoint_works (s : State) (g : GroupId) (k : Fin 6) (v : Bool) : Works (· = g) s (s.setPoint (.group g k) v) where
  sup := ⟨_, (State.setPoint_frame _ _ _).2.2.2.2.2.1⟩
  scan := ⟨_, (State.setPoint_frame _ _ _).2.2.2.2.1⟩
  port := fun _ _ => s.setPoint_raised_other _ _ _ Point.noConfusion
  part := fun _ => s.setPoint_raised_other _ _ _ Point.noConfusion
  timing := fun h => h.congr (State.setPoint_frame _ _ _).2.2.2.2.2.2.2.2 (fun _ _ => s.setPoint_raised_other _ _ _ Point.noConfusion)
    fun _ => s.setPoint_raised_other _ _ _ Point.noConfusion
  others := fun h n => ⟨by rw [(State.setPoint_frame _ _ _).2.2.2.2.2.2.1],
    fun _ => s.setPoint_raised_other _ _ _ fun e => n (Point.group.inj e).1⟩

theorem cancelManual_works (s : State) (g : GroupId) : Works (· = g) s (s.cancelManual g) := by
  unfold State.cancelManual
  split
  · exact (setGroup_works _ _ _).trans (putEvent_works _ _ _)
  all_goals exact .refl _ s

theorem bringRequests_works (s : State) (g : GroupId) : Works (· = g) s (s.bringRequests g) :=
  ((setGroup_works s g _).trans (.iteSelf (cancelManual_works _ g))).trans (setGroup_works _ g _)

theorem commandGroup_works {G : GroupId → Prop} (s : State) (g : GroupId) : Works G s (s.commandGroup g) := by
  rw [s.commandGroup_eq]
  exact .of_blocks ⟨_, rfl⟩ ⟨_, rfl⟩ rfl (fun _ => rfl) fun _ _ => rfl

theorem evaluate_works (s : State) (first : Bool) (g : GroupId) : Works (· = g) s (s.evaluate first g) :=
  (((setGroup_works s g _).trans (commandGroup_works _ g)).trans (.ite (.refl _ _) (putEvent_works _ _ _))).trans (setGroup_works _ g _)

theorem noteReport_works (s : State) (heard : Driver) (g : GroupId) (e : ElementId) : Works (· = g) s (s.noteReport heard g e) :=
  .iteSelf (setGroup_works s g _)

theorem handConditions_works (s : State) (heard : Driver) (g : GroupId) : Works (· = g) s (s.handConditions heard g) :=
  (setGroup_works s g _).trans (.foldl (fun s k => setPoint_works s g k _) _ _)

theorem formTransmit_works {G : GroupId → Prop} (s : State) (heard : Driver) (g : GroupId) : Works G s (s.formTransmit heard g) := by
  unfold State.formTransmit
  dsimp only
  split
  · exact .of_blocks ⟨_, rfl⟩ ⟨_, rfl⟩ rfl (fun _ => rfl) fun _ _ => rfl
  · exact .refl _ s

theorem takeUpdate_works (s : State) (heard : Driver) (first : Bool) (g : GroupId) : Works (· = g) s (s.takeUpdate heard first g) :=
  (((bringRequests_works s g).trans (.iteSelf (evaluate_works _ _ g))).trans (handConditions_works _ heard g)).trans
    (formTransmit_works _ heard g)

theorem takeOwnReport_works (s : State) (old heard : Driver) (g : GroupId) (e : Option ElementId) :
    Works (· = g) s (s.takeOwnReport old heard g e) := by
  cases e with
  | none => exact .refl _ s
  | some e => exact .iteSelf ((noteReport_works s heard g e).trans (takeUpdate_works _ heard false g))

theorem reportSelector_works {G : GroupId → Prop} (before s : State) (g : GroupId) : Works G s (State.reportSelector before s g) := by
  unfold State.reportSelector
  split
  · exact .iteSelf (timingReport_works s _)
  · exact .refl _ s

theorem groupUpdate_works (s : State) (first : Bool) (g : GroupId) : Works (· = g) s (s.groupUpdate first g) :=
  (((takeUpdate_works s _ first g).trans (takeOwnReport_works _ _ _ g _)).trans (takeOwnReport_works _ _ _ g _)).trans
    (reportSelector_works s _ g)

/-! ## The points of a group follow its conditions (R93) -/

/-- Handing the conditions over leaves the points of the group as its record's conditions are (R93). -/
theorem groupPoints_handConditions (s : State) (heard : Driver) (g : GroupId) : GroupPoints (s.handConditions heard g) g := by
  have raised (k : Fin 6) : (s.handConditions heard g).pointRaised (.group g k) = (s.group[g].conditionsFor heard).get k := by
    unfold State.handConditions
    exact State.setPoints_raised (Point.group g) (fun a b e => (Point.group.inj e).2)
      (fun _ k => (s.group[g].conditionsFor heard).get k) (fun _ _ _ _ => rfl) (List.finRange 6) _ (List.mem_finRange k)
  unfold GroupPoints
  simp only [raised, s.handConditions_group heard g]
  exact ⟨rfl, rfl, rfl, rfl, rfl, rfl⟩

theorem groupPoints_takeUpdate (s : State) (heard : Driver) (first : Bool) (g : GroupId) :
    GroupPoints (s.takeUpdate heard first g) g := by
  unfold State.takeUpdate
  have frame := fun u : State => u.formTransmit_frame heard g
  exact (groupPoints_handConditions _ heard g).congr (by rw [(frame _).2.2.2.2.2.1])
    fun _ => State.pointRaised_congr (frame _).2.2.2.2.2.2.2.2.1 _

theorem GroupPoints.takeOwnReport {s : State} {g : GroupId} (h : GroupPoints s g) (old heard : Driver) (e : Option ElementId) :
    GroupPoints (s.takeOwnReport old heard g e) g := by
  cases e with
  | none =>
    rw [show s.takeOwnReport old heard g none = s from rfl]
    exact h
  | some e =>
    by_cases made : Driver.reported old heard e = true
    · rw [show s.takeOwnReport old heard g (some e) = _ from if_pos made]
      exact groupPoints_takeUpdate _ heard false g
    · rw [show s.takeOwnReport old heard g (some e) = _ from if_neg made]
      exact h

/-- A group's update leaves its points as its conditions are (R90, R93). -/
theorem groupPoints_groupUpdate (s : State) (first : Bool) (g : GroupId) : GroupPoints (s.groupUpdate first g) g := by
  unfold State.groupUpdate
  dsimp only
  have points := ((groupPoints_takeUpdate s s.driver first g).takeOwnReport s.driver
    (s.driver.hearing (s.takeUpdate s.driver first g).driver (GroupConfig.bridge s.group[g].config))
    (GroupConfig.bridge s.group[g].config)).takeOwnReport
    (s.driver.hearing (s.takeUpdate s.driver first g).driver (GroupConfig.bridge s.group[g].config))
    (s.takeUpdate s.driver first g).driver (GroupConfig.selector s.group[g].config)
  obtain ⟨group, raised⟩ := (reportSelector_works (G := fun _ => False) s _ g).others g id
  exact points.congr (by rw [group]) raised

end Sys2Proof.Claims

namespace Sys2Proof.Machine

/-! ## What a group's update makes of its flags and of its received word (R90, R96, R103) -/

/-- The received word is dropped while the protocol is unusable or the protect port is FAILED, and stands otherwise (R103). -/
theorem State.refreshGroup_received {s : State} {r : Group} (usable : s.sup.unusable r.config = false)
    (protect : s.sup.protectFailed r.config = false) :
    (s.refreshGroup r).candidate = r.candidate ∧ (s.refreshGroup r).run = r.run := by
  unfold State.refreshGroup
  simp [usable, protect]

theorem State.refreshGroup_evaluated (s : State) (r : Group) : (s.refreshGroup r).evaluated = r.evaluated := by
  unfold State.refreshGroup Group.dropFarEnd
  dsimp only
  split <;> rfl

/-- An update leaves a group evaluated that was, or that it evaluates, and works on the received word as R103 says. -/
theorem State.takeUpdate_kept (s : State) (heard : Driver) (first : Bool) (g : GroupId) :
    (s.takeUpdate heard first g).group[g].evaluated = (first || s.group[g].evaluated)
    ∧ (s.takeUpdate heard first g).group[g].candidate = (s.refreshGroup s.group[g]).candidate
    ∧ (s.takeUpdate heard first g).group[g].run = (s.refreshGroup s.group[g]).run := by
  obtain ⟨st, en, w, r, hr, brought, -⟩ := s.bringRequests_group g
  have evaluated : (s.bringRequests g).group[g].evaluated = s.group[g].evaluated := by
    rw [brought, hr]
    exact s.refreshGroup_evaluated _
  have received : (s.bringRequests g).group[g].candidate = (s.refreshGroup s.group[g]).candidate
      ∧ (s.bringRequests g).group[g].run = (s.refreshGroup s.group[g]).run := by
    rw [brought, hr]
    exact ⟨rfl, rfl⟩
  unfold State.takeUpdate
  dsimp only
  rw [State.handed_group, evaluated]
  by_cases due : (first || s.group[g].evaluated) = true
  · obtain ⟨c, cf, to_, w', hc, result, -⟩ := (s.bringRequests g).evaluate_group first g
    rw [if_pos due, result, hc, due]
    exact ⟨rfl, received⟩
  · rw [if_neg due]
    exact ⟨evaluated.trans ((Bool.or_eq_false_iff.mp (eq_false_of_ne_true due)).2.trans (eq_false_of_ne_true due).symm), received⟩

theorem State.groupUpdate_kept (s : State) (first : Bool) (g : GroupId) :
    (s.groupUpdate first g).group[g].evaluated = (first || s.group[g].evaluated)
    ∧ (s.groupUpdate first g).group[g].candidate = (s.refreshGroup s.group[g]).candidate
    ∧ (s.groupUpdate first g).group[g].run = (s.refreshGroup s.group[g]).run := by
  obtain ⟨-, on, sf, same⟩ := s.groupUpdate_group first g
  rw [same]
  exact s.takeUpdate_kept s.driver first g

end Sys2Proof.Machine

namespace Sys2Proof.Claims
open Sys2Proof.Machine

/-! ## What the blocks make of a change handed on (R25, R90, R102) -/

/-- `t` follows `s` by whole updates of groups and steps of the timing unit, so that the points of every group still follow it. -/
def Settles (s t : State) : Prop := Works (fun _ => True) s t ∧ ∀ g, GroupPoints s g → GroupPoints t g

namespace Settles

theorem refl (s : State) : Settles s s := ⟨.refl _ s, fun _ => id⟩

theorem trans {s t u : State} (h : Settles s t) (k : Settles t u) : Settles s u := ⟨h.1.trans k.1, fun g => k.2 g ∘ h.2 g⟩

theorem ite {s t u : State} {c : Prop} [Decidable c] (h : Settles s t) (k : Settles s u) : Settles s (if c then t else u) := by
  split <;> assumption

theorem iteSelf {s t : State} {c : Prop} [Decidable c] (h : Settles s t) : Settles s (if c then t else s) := h.ite (refl s)

theorem foldl {α : Type} {f : State → α → State} (h : ∀ s a, Settles s (f s a)) (l : List α) (s : State) :
    Settles s (l.foldl f s) := by
  induction l generalizing s with
  | nil => exact refl s
  | cons a l ih => exact (h s a).trans (ih _)

/-- Work on one group that leaves its points as its conditions are. -/
theorem of_works {s t : State} {g : GroupId} (h : Works (· = g) s t) (own : GroupPoints s g → GroupPoints t g) : Settles s t := by
  refine ⟨h.mono fun _ _ => trivial, fun f points => ?_⟩
  by_cases e : f = g
  · subst e
    exact own points
  · obtain ⟨group, raised⟩ := h.others f e
    exact points.congr (by rw [group]) raised

/-- Work on no group. -/
theorem of_none {s t : State} (h : Works (fun _ => False) s t) : Settles s t :=
  ⟨h.mono fun _ => False.elim, fun g points => points.congr (by rw [(h.others g id).1]) (h.others g id).2⟩

end Settles

theorem groupUpdate_settles (s : State) (first : Bool) (g : GroupId) : Settles s (s.groupUpdate first g) :=
  .of_works (groupUpdate_works s first g) fun _ => groupPoints_groupUpdate s first g

theorem setGroup_settles (s : State) (g : GroupId) {r : Group} (conditions : r.conditions = s.group[g].conditions) :
    Settles s (s.setGroup g r) :=
  .of_works (setGroup_works s g r) fun h => h.congr (by rw [State.setGroup_group, conditions]) fun _ => rfl

theorem putEvent_settles (s : State) (o : Nat) (d : Detail) : Settles s (s.putEvent o d) := .of_none (putEvent_works s o d)

theorem cancelManual_settles (s : State) (g : GroupId) : Settles s (s.cancelManual g) := by
  unfold State.cancelManual
  split
  · exact (setGroup_settles s g (by rfl)).trans (putEvent_settles _ _ _)
  all_goals exact .refl s

theorem judgeCandidate_settles (s : State) (g : GroupId) (w : Word) : Settles s (s.judgeCandidate g w) := by
  have set {r : Group} (h : r.conditions = s.group[g].conditions) : Settles s ((s.setGroup g r).updateGroup g) :=
    (setGroup_settles s g h).trans (groupUpdate_settles _ false g)
  unfold State.judgeCandidate
  dsimp only
  split
  · split
    · exact .iteSelf (set (by rfl))
    · exact ((setGroup_settles s g (by rfl)).trans (.iteSelf (cancelManual_settles _ g))).trans (groupUpdate_settles _ false g)
  · exact .ite (.refl s) (set (by rfl))

theorem takeWord_settles (s : State) (g : GroupId) (w : Word) : Settles s (s.takeWord g w) :=
  (setGroup_settles s g (by rfl)).trans (.iteSelf (judgeCandidate_settles _ g w))

theorem takeBridgeWord_settles (s : State) (p : Port) (w : Word) : Settles s (s.takeBridgeWord p w) := by
  unfold State.takeBridgeWord
  split
  · exact .refl s
  · exact .ite (.refl s) (takeWord_settles s _ w)

theorem firstEvaluations_settles (s : State) (n : Nat) : Settles s (s.firstEvaluations n) :=
  .foldl (fun s g => .iteSelf (groupUpdate_settles s true g)) _ s

theorem enterFollow_settles (s : State) : Settles s s.enterFollow :=
  .of_none (.of_blocks ⟨_, rfl⟩ ⟨_, rfl⟩ rfl (fun _ => rfl) fun _ _ => rfl)

theorem roundEnd_settles (s : State) (n : Nat) : Settles s (s.roundEnd n) :=
  .ite ((firstEvaluations_settles s n).trans (enterFollow_settles _)) (firstEvaluations_settles s n)

/-- The rounds that wait, replaced. -/
theorem withRounds_settles (s : State) (l : List ProcessedRound) : Settles s { s with sup := { s.sup with rounds := l } } :=
  .of_none (.of_blocks ⟨l, rfl⟩ ⟨_, rfl⟩ rfl (fun _ => rfl) fun _ _ => rfl)

theorem drain_settles (s : State) (l : List ProcessedRound) : Settles s (s.drain l) := by
  induction l generalizing s with
  | nil => exact withRounds_settles s []
  | cons r rest ih => exact .ite ((roundEnd_settles s r.number).trans (ih _)) (withRounds_settles s (r :: rest))

end Sys2Proof.Claims

namespace Sys2Proof.Machine

/-! ## Rounds that wait (R25; log entry 19) -/

/-- A round with results left waits, and those after it (R25). -/
theorem State.drain_waiting (s : State) {l : List ProcessedRound} (head : ∀ r ∈ l.head?, r.results ≠ []) :
    s.drain l = { s with sup := { s.sup with rounds := l } } := by
  cases l with
  | nil => rfl
  | cons r rest => exact if_neg (head r rfl)

/-- The last round ends with no result left (R25). -/
theorem State.drain_last (s : State) (n : Nat) :
    s.drain [⟨n, []⟩] = { s.roundEnd n with sup := { (s.roundEnd n).sup with rounds := [] } } := rfl

/-- FOLLOW is entered at the end of the first processed round (R170). -/
theorem State.roundEnd_first (s : State) {n : Nat} (first : n = 1) : (s.roundEnd n).alarm.mode = .follow := by
  subst first
  rfl

theorem faulted_iff (results : List (Port × Option Answer)) :
    faulted results = true ↔ 2 ≤ results.length ∧ ∀ r ∈ results, r.2 = none := by
  simp [faulted]

/-- The state a round leaves that is classified: the counters of the scan controller, and SCAN FAULT (R23, R24). -/
def State.classified (s : State) (fault : Bool) (run : Nat) : State :=
  State.setPoint { s with scan := { s.scan with round := none, faultedRun := run, scanFault := fault } } Point.scanFault fault

theorem State.classified_frame (s : State) (fault : Bool) (run : Nat) : (s.classified fault run).sup = s.sup
    ∧ (s.classified fault run).group = s.group ∧ (s.classified fault run).driver = s.driver
    ∧ (s.classified fault run).timing = s.timing
    ∧ (s.classified fault run).scan = { s.scan with round := none, faultedRun := run, scanFault := fault } := by
  simp only [State.classified, State.setPoint_frame, and_self]

theorem State.classifyRound_held {s : State} {results : List (Port × Option Answer)} {fault : Bool} {run : Nat}
    (hf : fault = faulted results) (hr : run = nextRun fault s.scan.faultedRun) (held : fault = true ∧ run ≤ 25) :
    s.classifyRound results = s.classified fault run := by
  subst hf hr
  exact if_pos held

theorem State.classifyRound_processed {s : State} {results : List (Port × Option Answer)} {fault : Bool} {run : Nat}
    (hf : fault = faulted results) (hr : run = nextRun fault s.scan.faultedRun) (processed : ¬ (fault = true ∧ run ≤ 25)) :
    s.classifyRound results = State.drain { s.classified fault run with
        scan := { (s.classified fault run).scan with processed := min 65535 (s.scan.processed + 1) } }
      (s.sup.rounds ++ [⟨min 65535 (s.scan.processed + 1), results⟩]) := by
  subst hf hr
  refine (if_neg processed).trans ?_
  unfold State.deliverRound State.classified
  simp only [State.setPoint_frame]

end Sys2Proof.Machine

namespace Sys2Proof.Claims
open Sys2Proof.Machine

/-- The rounds that wait leave the counters and the fault of a round just classified, and the port supervisor's records. -/
theorem classified_shown {s u v : State} {fault : Bool} {run n : Nat} (works : Works (fun _ => True) u v)
    (scan : u.scan = { s.scan with round := none, faultedRun := run, scanFault := fault, processed := n }) (sup : u.sup = s.sup)
    (point : u.pointRaised (.part 3) = fault) :
    v.scan.round = none ∧ v.scan.faultedRun = run ∧ (v.scan.scanFault = true ↔ fault = true)
    ∧ (v.pointRaised (.part 3) = true ↔ fault = true)
    ∧ v.sup.record = s.sup.record ∧ v.sup.config = s.sup.config ∧ v.sup.farEnd = s.sup.farEnd := by
  obtain ⟨w, transmit⟩ := works.scan
  obtain ⟨l, rounds⟩ := works.sup
  rw [works.part, point, transmit, rounds, scan, sup]
  exact ⟨rfl, rfl, Iff.rfl, Iff.rfl, rfl, rfl, rfl⟩

end Sys2Proof.Claims

namespace Sys2Proof.Proofs
open Sys2Proof.Machine Sys2Proof.Claims

/-- Settles O38: a held round leaves the classified state, and a processed one what the rounds then waiting make of it. -/
theorem roundClassified : Obligations.RoundClassified := by
  intro s ph rs results fault run at_ gathered hfault hrun hrun'
  have ended : s.endSlot = s.classifyRound results := by
    rcases gathered with ⟨rfl, rfl⟩ | ⟨rfl, rfl⟩ | ⟨a, rfl, rfl⟩
    · exact State.endSlot_last at_ nofun
    · exact State.endSlot_last at_ nofun
    · exact State.endSlot_last at_ nofun
  rw [← faulted_iff] at hfault
  have counted : run = nextRun (faulted results) s.scan.faultedRun := by
    unfold nextRun
    split
    next h => exact hrun (hfault.mpr h)
    next h => exact hrun' fun f => h (hfault.mp f)
  rw [hfault]
  obtain ⟨sup, group, driver, timing, scan⟩ := s.classified_frame (faulted results) run
  have point : (s.classified (faulted results) run).pointRaised (.part 3) = faulted results := State.setPoint_raised _ _ _
  generalize hv : s.classified (faulted results) run = v at sup group driver timing scan point
  obtain ⟨t, runs, grant, rfl⟩ := finish_regranted ended
  have mem : (s.classifyRound results).path.mem = s.path.mem := by rw [(s.classifyRound_frame results).2.2.1]
  refine ⟨_, runs, ?_⟩
  by_cases held : faulted results = true ∧ run ≤ 25
  · rw [State.classifyRound_held rfl counted held, hv] at mem ⊢
    obtain ⟨round, faultedRun, scanFault, raised, record, config, farEnd⟩ := classified_shown (.refl (fun _ => True) v) scan sup point
    exact ⟨round, faultedRun, scanFault, raised, record, config, farEnd, mem,
      fun _ => ⟨(congrArg Scan.processed scan :), sup, group, driver, timing⟩, fun h => absurd held h⟩
  · rw [State.classifyRound_processed rfl counted held, hv] at mem ⊢
    obtain ⟨works, -⟩ := drain_settles { v with scan := { v.scan with processed := min 65535 (s.scan.processed + 1) } }
      (s.sup.rounds ++ [⟨min 65535 (s.scan.processed + 1), results⟩])
    obtain ⟨round, faultedRun, scanFault, raised, record, config, farEnd⟩ :=
      classified_shown works (by rw [scan]) sup point
    refine ⟨round, faultedRun, scanFault, raised, record, config, farEnd, mem, fun h => absurd h held, fun _ =>
      ⟨?_, fun some head => ?_, fun none empty => ?_⟩⟩
    · obtain ⟨w, transmit⟩ := works.scan
      exact congrArg Scan.processed transmit
    · rw [State.drain_waiting]
      cases rounds : s.sup.rounds with
      | nil => simpa using some
      | cons r rest => exact fun x h => head x (by rw [rounds]; exact h)
    · rw [none, empty, List.nil_append, State.drain_last]
      exact ⟨rfl, fun first => State.roundEnd_first _ (by rw [first]; rfl)⟩

end Sys2Proof.Proofs

namespace Sys2Proof.Machine

/-! ## The first that passes a test -/

theorem firstWhere_eq_some {n : Nat} {f : Fin n → Bool} {i : Fin n} :
    firstWhere f = some i ↔ f i = true ∧ ∀ j, f j = true → i.val ≤ j.val := by
  rw [firstWhere, ← Fin.find?_eq_find?_finRange, Fin.find?_eq_some_iff]
  refine and_congr_right fun _ => ⟨fun h j hj => ?_, fun h j lt => ?_⟩
  · by_contra lt
    exact absurd (h j (Fin.lt_def.mpr (Nat.lt_of_not_le lt))) (by rw [hj]; exact nofun)
  · by_contra hj
    exact absurd (h j (eq_true_of_ne_false hj)) (Nat.not_le_of_lt lt)

theorem firstWhere_eq_none {n : Nat} {f : Fin n → Bool} : firstWhere f = none ↔ ∀ i, f i = false := by
  simp [firstWhere]

/-! ## The records and the far-end map, port by port (R58 to R60) -/

theorem Supervisor.setRecord_record (u : Supervisor) (p : Port) (r : PortRecord) : (u.setRecord p r).record[p] = r := put_same _ _ _

theorem Supervisor.setRecord_same (u : Supervisor) (p : Port) : u.setRecord p u.record[p] = u := by simp [Supervisor.setRecord, put]

theorem Supervisor.setRecord_other (u : Supervisor) {p q : Port} (r : PortRecord) (n : q ≠ p) :
    (u.setRecord p r).record[q] = u.record[q] := put_other _ _ _ _ n.symm

theorem Supervisor.setRecord_farEnd (u : Supervisor) (p : Port) (r : PortRecord) : (u.setRecord p r).farEnd = u.farEnd := rfl

theorem Supervisor.setFarEnd_farEnd (u : Supervisor) (p : Port) (id : Option Word) : (u.setFarEnd p id).farEnd[p] = id :=
  put_same _ _ _

theorem Supervisor.setFarEnd_other (u : Supervisor) {p q : Port} (id : Option Word) (n : q ≠ p) :
    (u.setFarEnd p id).farEnd[q] = u.farEnd[q] := put_other _ _ _ _ n.symm

theorem Supervisor.holder_eq_none {u : Supervisor} {id : Word} : u.holder id = none ↔ ∀ q : Port, u.farEnd[q] ≠ some id := by
  simp [Supervisor.holder, firstWhere_eq_none]

/-- The lowest-numbered duplicate of an identity (R60). -/
theorem Supervisor.duplicateOf_eq_some {u : Supervisor} {id : Word} {q : Port} : u.duplicateOf id = some q ↔
    (u.record[q].trace = .duplicate ∧ u.record[q].accepted = some id)
    ∧ ∀ r : Port, u.record[r].trace = .duplicate → u.record[r].accepted = some id → q.val ≤ r.val := by
  simp [Supervisor.duplicateOf, firstWhere_eq_some]

/-! ## Work on one port (R26 to R34, R55 to R62) -/

/-- `v` follows `u` by work on port `p`: no configuration changes, and of the other ports only a DUPLICATE that is promoted
changes its record and its entry in the far-end map (R60). -/
structure Supervisor.Works (p : Port) (u v : Supervisor) : Prop where
  table  : v.table = u.table
  others : ∀ q : Port, q ≠ p → u.record[q].trace ≠ .duplicate → v.record[q] = u.record[q] ∧ v.farEnd[q] = u.farEnd[q]

namespace Supervisor.Works

theorem refl (p : Port) (u : Supervisor) : u.Works p u := ⟨rfl, fun _ _ _ => ⟨rfl, rfl⟩⟩

theorem trans {p : Port} {u v w : Supervisor} (h : u.Works p v) (k : v.Works p w) : u.Works p w where
  table := k.table.trans h.table
  others := fun q n d => by
    obtain ⟨record, farEnd⟩ := h.others q n d
    obtain ⟨record', farEnd'⟩ := k.others q n (by rw [record]; exact d)
    exact ⟨record'.trans record, farEnd'.trans farEnd⟩

theorem setRecord (u : Supervisor) (p : Port) (r : PortRecord) : u.Works p (u.setRecord p r) :=
  ⟨rfl, fun _ n _ => ⟨u.setRecord_other r n, rfl⟩⟩

theorem setFarEnd (u : Supervisor) (p : Port) (id : Option Word) : u.Works p (u.setFarEnd p id) :=
  ⟨rfl, fun _ n _ => ⟨rfl, u.setFarEnd_other id n⟩⟩

end Supervisor.Works

/-- A promotion touches the duplicate it promotes and no other port (R60). -/
theorem Supervisor.promote_other (u : Supervisor) (id : Word) {q : Port} (n : u.duplicateOf id ≠ some q) :
    (u.promote id).record[q] = u.record[q] ∧ (u.promote id).farEnd[q] = u.farEnd[q] := by
  unfold Supervisor.promote
  split
  · exact ⟨rfl, rfl⟩
  next r h =>
    have apart : q ≠ r := fun e => n (e ▸ h)
    exact ⟨Supervisor.setRecord_other _ _ apart, u.setFarEnd_other _ apart⟩

/-- A promotion leaves every port that is no duplicate. -/
theorem Supervisor.promote_undoubled (u : Supervisor) (id : Word) {q : Port} (n : u.record[q].trace ≠ .duplicate) :
    (u.promote id).record[q] = u.record[q] ∧ (u.promote id).farEnd[q] = u.farEnd[q] :=
  u.promote_other id fun h => n (Supervisor.duplicateOf_eq_some.mp h).1.1

theorem Supervisor.promote_promoted {u : Supervisor} {id : Word} {q : Port} (h : u.duplicateOf id = some q) :
    (u.promote id).record[q] = { u.record[q] with trace := heldTraceState (PortConfig.expected u.config[q]) id }
    ∧ (u.promote id).farEnd[q] = some id := by
  unfold Supervisor.promote
  rw [h]
  exact ⟨put_same _ _ _, put_same _ _ _⟩

/-- A port's record replaced, and its entry in the far-end map given up with the promotion that follows (R60): what dropping a
trace and accepting another begin with. -/
def Supervisor.yield (u : Supervisor) (p : Port) (r : PortRecord) : Supervisor := (u.setRecord p r).giveUp p

theorem Supervisor.yield_unheld {u : Supervisor} {p : Port} (r : PortRecord) (h : u.farEnd[p] = none) :
    u.yield p r = u.setRecord p r := by
  unfold Supervisor.yield Supervisor.giveUp
  rw [Supervisor.setRecord_farEnd, h]

theorem Supervisor.yield_held {u : Supervisor} {p : Port} {id : Word} (r : PortRecord) (h : u.farEnd[p] = some id) :
    u.yield p r = ((u.setRecord p r).setFarEnd p none).promote id := by
  unfold Supervisor.yield Supervisor.giveUp
  rw [Supervisor.setRecord_farEnd, h]

theorem Supervisor.yield_table (u : Supervisor) (p : Port) (r : PortRecord) : (u.yield p r).table = u.table :=
  Supervisor.giveUp_table _ _

/-- A port that is no DUPLICATE afterwards takes the record and holds no entry. -/
theorem Supervisor.yield_self (u : Supervisor) (p : Port) {r : PortRecord} (n : r.trace ≠ .duplicate) :
    (u.yield p r).record[p] = r ∧ (u.yield p r).farEnd[p] = none := by
  cases h : u.farEnd[p] with
  | none =>
    rw [Supervisor.yield_unheld r h]
    exact ⟨put_same _ _ _, h⟩
  | some id =>
    rw [Supervisor.yield_held r h]
    have own : ((u.setRecord p r).setFarEnd p none).record[p] = r := u.setRecord_record p r
    obtain ⟨record, farEnd⟩ := ((u.setRecord p r).setFarEnd p none).promote_undoubled id (q := p) (by rw [own]; exact n)
    exact ⟨record.trans own, farEnd.trans (Supervisor.setFarEnd_farEnd _ _ _)⟩

theorem Supervisor.yield_works (u : Supervisor) (p : Port) (r : PortRecord) : u.Works p (u.yield p r) := by
  refine (Works.setRecord u p r).trans ?_
  unfold Supervisor.yield Supervisor.giveUp
  split
  · exact .refl p _
  next id _ =>
    exact (Works.setFarEnd _ p none).trans ⟨Supervisor.promote_table _ _, fun q _ d => Supervisor.promote_undoubled _ id d⟩

/-- An entry of the far-end map after a port gives up its own stood before, or is the one given up (R60). -/
theorem Supervisor.yield_entry {u : Supervisor} {p q : Port} {r : PortRecord} {id : Word} (h : (u.yield p r).farEnd[q] = some id) :
    u.farEnd[q] = some id ∨ u.farEnd[p] = some id := by
  cases old : u.farEnd[p] with
  | none =>
    rw [Supervisor.yield_unheld r old] at h
    exact .inl h
  | some x =>
    rw [Supervisor.yield_held r old] at h
    by_cases promoted : ((u.setRecord p r).setFarEnd p none).duplicateOf x = some q
    · exact .inr ((Supervisor.promote_promoted promoted).2.symm.trans h)
    · rw [(Supervisor.promote_other _ _ promoted).2] at h
      by_cases e : q = p
      · rw [e, Supervisor.setFarEnd_farEnd] at h
        cases h
      · rw [Supervisor.setFarEnd_other _ _ e] at h
        exact .inl h

theorem heldTraceState_ne_duplicate (expected id : Word) : heldTraceState expected id ≠ .duplicate := by
  unfold heldTraceState
  (repeat' split) <;> exact nofun

/-- A port with an entry in the far-end map is no DUPLICATE (R58). -/
theorem Supervisor.MapSound.undoubled {u : Supervisor} (h : u.MapSound) {q : Port} {id : Word} (entry : u.farEnd[q] = some id) :
    u.record[q].trace ≠ .duplicate := by
  rw [(h.entry q id entry).2.2]
  exact heldTraceState_ne_duplicate _ _

/-- The lowest-numbered DUPLICATE of an identity is promoted when the port that holds it gives it up (R60). -/
theorem Supervisor.yield_promotes {u : Supervisor} {p q : Port} {id : Word} {r : PortRecord} (n : r.trace ≠ .duplicate) (apart : q ≠ p)
    (held : u.farEnd[p] = some id) (trace : u.record[q].trace = .duplicate) (accepted : u.record[q].accepted = some id)
    (lowest : ∀ q' : Port, u.record[q'].trace = .duplicate → u.record[q'].accepted = some id → q.val ≤ q'.val) :
    (u.yield p r).farEnd[q] = some id
    ∧ (u.yield p r).record[q] = { u.record[q] with trace := heldTraceState (PortConfig.expected u.config[q]) id } := by
  have same {q' : Port} (e : q' ≠ p) : ((u.setRecord p r).setFarEnd p none).record[q'] = u.record[q'] := u.setRecord_other r e
  have first : ((u.setRecord p r).setFarEnd p none).duplicateOf id = some q := by
    rw [Supervisor.duplicateOf_eq_some, same apart]
    refine ⟨⟨trace, accepted⟩, fun q' d a => ?_⟩
    by_cases e : q' = p
    · rw [e] at d
      exact absurd (d.symm.trans (congrArg PortRecord.trace (u.setRecord_record p r))).symm n
    · rw [same e] at d a
      exact lowest q' d a
  obtain ⟨record, farEnd⟩ := Supervisor.promote_promoted first
  rw [Supervisor.yield_held r held, record, farEnd, same apart]
  exact ⟨rfl, rfl⟩

/-! ### Dropping and accepting a trace (R55, R59 to R61) -/

theorem Supervisor.dropTrace_eq (u : Supervisor) (p : Port) (x : TraceState) (c : Bool) : u.dropTrace p x c = u.yield p
    { u.record[p] with accepted := none, trace := x, candidate := if c then none else u.record[p].candidate
                       run := if c then 0 else u.record[p].run } := by
  cases c <;> rfl

theorem Supervisor.dropTrace_works (u : Supervisor) (p : Port) (x : TraceState) (c : Bool) : u.Works p (u.dropTrace p x c) := by
  rw [u.dropTrace_eq]
  exact u.yield_works p _

/-- What dropping the accepted trace leaves of the port (R27, R34, R55). -/
theorem Supervisor.dropTrace_self (u : Supervisor) (p : Port) {x : TraceState} (n : x ≠ .duplicate) (c : Bool) :
    (u.dropTrace p x c).record[p] = { u.record[p] with accepted := none, trace := x, candidate := if c then none else u.record[p].candidate
                                                       run := if c then 0 else u.record[p].run }
    ∧ (u.dropTrace p x c).farEnd[p] = none := by
  rw [u.dropTrace_eq]
  exact u.yield_self p n

/-- The record and the map entry replaced, and dropping the trace after: the port's record before has no part in the result but its
own. -/
theorem Supervisor.setRecord_dropTrace_self (u : Supervisor) (p : Port) (r : PortRecord) {x : TraceState} (n : x ≠ .duplicate) (c : Bool) :
    ((u.setRecord p r).dropTrace p x c).record[p] = { r with accepted := none, trace := x, candidate := if c then none else r.candidate
                                                             run := if c then 0 else r.run }
    ∧ ((u.setRecord p r).dropTrace p x c).farEnd[p] = none := by
  have h := (u.setRecord p r).dropTrace_self p n c
  rwa [u.setRecord_record] at h

/-- The state in which an accepted trace is looked up: the old entry has been given up (R60, R61). -/
def Supervisor.accepting (u : Supervisor) (p : Port) (id : Word) : Supervisor :=
  u.yield p { u.record[p] with accepted := some id, trace := .silent }

theorem Supervisor.accepting_self (u : Supervisor) (p : Port) (id : Word) :
    (u.accepting p id).record[p] = { u.record[p] with accepted := some id, trace := .silent }
    ∧ (u.accepting p id).farEnd[p] = none := u.yield_self p nofun

theorem Supervisor.acceptTrace_silent (u : Supervisor) (p : Port) : u.acceptTrace p 0 = u.accepting p 0 := rfl

theorem Supervisor.acceptTrace_duplicate {u : Supervisor} {p q : Port} {id : Word} (formed : id ≠ 0)
    (held : (u.accepting p id).holder id = some q) : u.acceptTrace p id
      = (u.accepting p id).setRecord p { (u.accepting p id).record[p] with trace := .duplicate } := by
  unfold Supervisor.acceptTrace
  dsimp only
  rw [if_neg formed]
  split
  · rfl
  next free => exact absurd (free.symm.trans held) nofun

theorem Supervisor.acceptTrace_first {u : Supervisor} {p : Port} {id : Word} (formed : id ≠ 0)
    (free : (u.accepting p id).holder id = none) : u.acceptTrace p id
      = ((u.accepting p id).setFarEnd p (some id)).setRecord p { (u.accepting p id).record[p] with
          trace := heldTraceState (PortConfig.expected (u.accepting p id).config[p]) id } := by
  unfold Supervisor.acceptTrace
  dsimp only
  rw [if_neg formed]
  split
  next held => exact absurd (held.symm.trans free) nofun
  · rfl

/-- Accepting a trace changes, after the old entry is given up, the port's own entry and trace state alone. -/
theorem Supervisor.acceptTrace_cases (u : Supervisor) (p : Port) (id : Word) : ∃ x e, u.acceptTrace p id
    = ((u.accepting p id).setFarEnd p e).setRecord p { u.record[p] with accepted := some id, trace := x } := by
  have own := (u.accepting_self p id).1
  have same : (u.accepting p id).setFarEnd p (u.accepting p id).farEnd[p] = u.accepting p id := by
    simp [Supervisor.setFarEnd, put]
  by_cases formed : id = 0
  · refine ⟨.silent, (u.accepting p id).farEnd[p], ?_⟩
    rw [same, ← own, formed, u.acceptTrace_silent, Supervisor.setRecord_same]
  · cases h : (u.accepting p id).holder id with
    | some q =>
      refine ⟨.duplicate, (u.accepting p id).farEnd[p], ?_⟩
      rw [same, Supervisor.acceptTrace_duplicate formed h, own]
    | none =>
      refine ⟨heldTraceState (PortConfig.expected (u.accepting p id).config[p]) id, some id, ?_⟩
      rw [Supervisor.acceptTrace_first formed h, own]

end Sys2Proof.Machine

namespace Sys2Proof.Machine

theorem Supervisor.acceptTrace_works (u : Supervisor) (p : Port) (id : Word) : u.Works p (u.acceptTrace p id) := by
  obtain ⟨x, e, h⟩ := u.acceptTrace_cases p id
  rw [h]
  exact ((u.yield_works p _).trans (.setFarEnd _ p e)).trans (.setRecord _ p _)

theorem Supervisor.acceptTrace_self (u : Supervisor) (p : Port) (id : Word) : ∃ x,
    (u.acceptTrace p id).record[p] = { u.record[p] with accepted := some id, trace := x } := by
  obtain ⟨x, e, h⟩ := u.acceptTrace_cases p id
  exact ⟨x, by rw [h, Supervisor.setRecord_record]⟩

/-- Accepting a trace touches another port only by the promotion that giving up the old entry brings. -/
theorem Supervisor.acceptTrace_other (u : Supervisor) {p q : Port} (id : Word) (n : q ≠ p) :
    (u.acceptTrace p id).record[q] = (u.accepting p id).record[q] ∧ (u.acceptTrace p id).farEnd[q] = (u.accepting p id).farEnd[q] := by
  obtain ⟨x, e, h⟩ := u.acceptTrace_cases p id
  rw [h, Supervisor.setRecord_other _ _ n]
  exact ⟨rfl, Supervisor.setFarEnd_other _ _ n⟩

/-! ### The traced case (R56 to R58) -/

/-- The run of receptions of a trace, with the one received now (R56). -/
def PortRecord.receivedRun (r : PortRecord) (limit : Nat) (id : Word) : Nat := if r.candidate = some id then min limit (r.run + 1) else 1

/-- A record with a reception of a trace counted. -/
def PortRecord.received (r : PortRecord) (limit : Nat) (id : Word) : PortRecord :=
  { r with candidate := some id, run := r.receivedRun limit id }

/-- A reception completes its run and brings a trace that is not the accepted one (R57). -/
def PortRecord.accepts (r : PortRecord) (limit : Nat) (id : Word) : Prop := r.receivedRun limit id = limit ∧ r.accepted ≠ some id


theorem Supervisor.receiveTrace_accepted {u : Supervisor} {p : Port} {word : Word}
    (accepts : u.record[p].accepts (PortConfig.persistence u.config[p]) (receivedTrace word)) : u.receiveTrace p word
      = (u.setRecord p (u.record[p].received (PortConfig.persistence u.config[p]) (receivedTrace word))).acceptTrace p (receivedTrace word) :=
  if_pos accepts

theorem Supervisor.receiveTrace_waits {u : Supervisor} {p : Port} {word : Word}
    (waits : ¬ u.record[p].accepts (PortConfig.persistence u.config[p]) (receivedTrace word)) : u.receiveTrace p word
      = (u.setRecord p (u.record[p].received (PortConfig.persistence u.config[p]) (receivedTrace word))).awaitTrace p :=
  if_neg waits

theorem Supervisor.awaitTrace_eq (u : Supervisor) (p : Port) : u.awaitTrace p = u.setRecord p
    { u.record[p] with trace := if u.record[p].accepted = none then .awaiting else u.record[p].trace } := by
  unfold Supervisor.awaitTrace
  split
  · rfl
  · exact (u.setRecord_same p).symm

/-- What the traced case leaves of the port: its candidate and run count the reception, and only its accepted trace and trace state
may change beside. -/
theorem Supervisor.receiveTrace_self (u : Supervisor) (p : Port) (word : Word) : ∃ a x, (u.receiveTrace p word).record[p]
    = { u.record[p].received (PortConfig.persistence u.config[p]) (receivedTrace word) with accepted := a, trace := x } := by
  by_cases accepts : u.record[p].accepts (PortConfig.persistence u.config[p]) (receivedTrace word)
  · rw [Supervisor.receiveTrace_accepted accepts]
    obtain ⟨x, h⟩ := Supervisor.acceptTrace_self
      (u.setRecord p (u.record[p].received (PortConfig.persistence u.config[p]) (receivedTrace word))) p (receivedTrace word)
    exact ⟨some (receivedTrace word), x, by rw [h, Supervisor.setRecord_record]⟩
  · rw [Supervisor.receiveTrace_waits accepts, Supervisor.awaitTrace_eq, Supervisor.setRecord_record]
    rw [Supervisor.setRecord_record]
    exact ⟨_, _, rfl⟩

theorem Supervisor.receiveTrace_works (u : Supervisor) (p : Port) (word : Word) : u.Works p (u.receiveTrace p word) := by
  by_cases accepts : u.record[p].accepts (PortConfig.persistence u.config[p]) (receivedTrace word)
  · rw [Supervisor.receiveTrace_accepted accepts]
    exact (Works.setRecord u p _).trans (Supervisor.acceptTrace_works _ p _)
  · rw [Supervisor.receiveTrace_waits accepts, Supervisor.awaitTrace_eq]
    exact (Works.setRecord u p _).trans (.setRecord _ p _)

theorem Supervisor.traceWork_works (u : Supervisor) (p : Port) (a : Answer) : u.Works p (u.traceWork p a) := by
  unfold Supervisor.traceWork
  split
  · split
    · exact u.dropTrace_works p _ _
    · exact u.receiveTrace_works p _
  · exact u.dropTrace_works p _ _
  · exact u.dropTrace_works p _ _
  · exact .refl p u

/-- The trace work of an update touches only the trace part of the port's record (R55). -/
theorem Supervisor.traceWork_self (u : Supervisor) (p : Port) (a : Answer) : ∃ c n d x, (u.traceWork p a).record[p]
    = { u.record[p] with candidate := c, run := n, accepted := d, trace := x } := by
  have drop {x : TraceState} (n : x ≠ .duplicate) : ∃ c n d y, (u.dropTrace p x true).record[p]
      = { u.record[p] with candidate := c, run := n, accepted := d, trace := y } :=
    ⟨_, _, _, _, (u.dropTrace_self p n true).1⟩
  unfold Supervisor.traceWork
  split
  · split
    · exact drop nofun
    next word _ _ _ _ =>
      obtain ⟨d, x, h⟩ := u.receiveTrace_self p word
      exact ⟨_, _, d, x, h⟩
  · exact drop nofun
  · exact drop nofun
  · exact ⟨_, _, _, _, rfl⟩

/-! ### Updates (R26 to R30) -/

theorem Supervisor.goAbsent_works (u : Supervisor) (p : Port) : u.Works p (u.goAbsent p) :=
  (Works.setRecord u p _).trans (Supervisor.dropTrace_works _ p _ _)

theorem Supervisor.missed_works (u : Supervisor) (p : Port) : u.Works p (u.missed p) := by
  unfold Supervisor.missed
  split
  · exact .setRecord u p _
  · exact u.goAbsent_works p
  · exact .refl p u

theorem Supervisor.updated_works (u : Supervisor) (p : Port) (a : Option Answer) : u.Works p (u.updated p a) := by
  cases a with
  | none => exact u.missed_works p
  | some a => exact (Works.setRecord u p _).trans (Supervisor.traceWork_works _ p a)

/-- A module that stays silent takes one step toward ABSENT (R26). -/
theorem Supervisor.missed_present {u : Supervisor} {p : Port} (h : u.record[p].presence = .present) :
    u.missed p = u.setRecord p { u.record[p] with presence := .missedOnce } := by
  unfold Supervisor.missed
  rw [h]

theorem Supervisor.missed_once {u : Supervisor} {p : Port} (h : u.record[p].presence = .missedOnce) : u.missed p = u.goAbsent p := by
  unfold Supervisor.missed
  rw [h]

theorem Supervisor.missed_absent {u : Supervisor} {p : Port} (h : u.record[p].presence = .absent) : u.missed p = u := by
  unfold Supervisor.missed
  rw [h]

/-- A module gone ABSENT (R27): its candidate and run count stand (log entry 20). -/
theorem Supervisor.goAbsent_self (u : Supervisor) (p : Port) : (u.goAbsent p).record[p] = { u.record[p] with
      presence := .absent, grade := .failed, cause := some .absent, power := [], lol := [true, true, true], caps := none
      reduced := false, accepted := none, trace := .silent }
    ∧ (u.goAbsent p).farEnd[p] = none := u.setRecord_dropTrace_self p _ (x := .silent) nofun false

/-! ### Grading at an answer (R28, R30, R40 to R49) -/

/-- The grade decision reads the previous grade, the histories and the presence alone. -/
theorem gradeDecision_congr {cfg : Vector Word 8} {r x : PortRecord} (grade : x.grade = r.grade) (lol : x.lol = r.lol)
    (power : x.power = r.power) (presence : x.presence = r.presence) : gradeDecision cfg x = gradeDecision cfg r := by
  unfold gradeDecision failedNow
  rw [grade, lol, power, presence]

/-- With no power in the history the loss-of-light majority alone decides (R47, R48). -/
theorem gradeDecision_unpowered {cfg : Vector Word 8} {r : PortRecord} (power : r.power = []) (presence : r.presence = .present) :
    gradeDecision cfg r = if lolMajority r.lol then .failed else .good := by
  unfold gradeDecision failedNow
  rw [power, presence]
  cases lolMajority r.lol <;> simp [smoothedPower]

theorem PortRecord.takePower_frame (kind : MonitorKind) (k : Vector Word 4) (a : Answer) (r : PortRecord) : r.takePower kind k a
    = { r with power := (r.takePower kind k a).power, reduced := (r.takePower kind k a).reduced } := by
  unfold PortRecord.takePower
  (repeat' split) <;> rfl

theorem PortRecord.takePower_read {k : Vector Word 4} {a : Answer} {code : BitVec 12} (r : PortRecord) (read : a.power = some code)
    (valid : Calibration.valid k = true) :
    r.takePower .power k a = { r with power := pushPower r.power (Calibration.convert k code.toNat), reduced := false } := by
  simp [PortRecord.takePower, powerReading, read, valid]

theorem PortRecord.takePower_unread {k : Vector Word 4} {a : Answer} (r : PortRecord)
    (unread : a.power = none ∨ Calibration.valid k = false) : r.takePower .power k a = { r with power := [], reduced := true } := by
  have none : powerReading k a = none := by
    unfold powerReading
    rcases unread with h | h
    · rw [h]
    · cases a.power <;> simp [h]
  simp [PortRecord.takePower, none]

/-- The record an answer leaves before its grade is decided. -/
def PortRecord.sampled (kind : MonitorKind) (k : Vector Word 4) (a : Answer) (r : PortRecord) : PortRecord :=
  PortRecord.takePower kind k a { r with
    presence := .present, caps := some ⟨a.power.isSome, a.overhead.isSome⟩, lol := pushLol r.lol a.lol }

theorem PortRecord.answered_eq (kind : MonitorKind) (cfg : Vector Word 8) (k : Vector Word 4) (a : Answer) (r : PortRecord) :
    r.answered kind cfg k a = { r with
      presence := .present, caps := some ⟨a.power.isSome, a.overhead.isSome⟩, lol := pushLol r.lol a.lol
      power := (r.sampled kind k a).power, reduced := (r.sampled kind k a).reduced
      grade := gradeDecision cfg (r.sampled kind k a)
      cause := if gradeDecision cfg (r.sampled kind k a) = .failed then some .light else none } := by
  change ({ r.sampled kind k a with
    grade := gradeDecision cfg (r.sampled kind k a)
    cause := if gradeDecision cfg (r.sampled kind k a) = .failed then some .light else none } : PortRecord) = _
  rw [show r.sampled kind k a = _ from PortRecord.takePower_frame _ _ _ _]

end Sys2Proof.Machine

namespace Sys2Proof.Machine

theorem PortConfig.persistence_eq (cfg : Vector Word 8) : PortConfig.persistence cfg = cfg[7].toNat % 16 := by
  simp [PortConfig.persistence, bits]

/-- A well formed trace word, by its value (R53). -/
theorem traceWellFormed_iff (w : Word) : traceWellFormed w = true ↔
    w = 0 ∨ (w.toNat < 32768 ∧ 1 ≤ w.toNat / 32 ∧ w.toNat % 32 ≤ 23) := by
  have zero : w = 0 ↔ w.toNat = 0 := by rw [← BitVec.toNat_inj]; rfl
  have lt := w.isLt
  simp only [traceWellFormed, flag_top, Bool.or_eq_true, Bool.and_eq_true, decide_eq_true_eq, Bool.not_eq_true',
    decide_eq_false_iff_not, zero]
  simp only [traceShelf, tracePort, bits]
  omega

theorem Supervisor.setRecord_again (u : Supervisor) (p : Port) (r x : PortRecord) :
    (u.setRecord p r).setRecord p x = u.setRecord p x := by
  simp [Supervisor.setRecord, put]

/-- A trace accepted by a port whose record was written before: the record written has no part in what is given up. -/
theorem Supervisor.accepting_setRecord (u : Supervisor) (p : Port) (r : PortRecord) (id : Word) :
    (u.setRecord p r).accepting p id = u.yield p { r with accepted := some id, trace := .silent } := by
  unfold Supervisor.accepting Supervisor.yield
  rw [u.setRecord_again, u.setRecord_record]

/-- An identity another port holds makes the port a DUPLICATE (R59). -/
theorem Supervisor.MapSound.accepts_held {u : Supervisor} (sound : u.MapSound) {p q : Port} {id : Word} (r : PortRecord) (formed : id ≠ 0)
    (other : q ≠ p) (held : u.farEnd[q] = some id) :
    ((u.setRecord p r).acceptTrace p id).record[p].trace = .duplicate ∧ ((u.setRecord p r).acceptTrace p id).farEnd[p] = none := by
  have still : ((u.setRecord p r).accepting p id).farEnd[q] = some id := by
    rw [u.accepting_setRecord, ((u.yield_works p _).others q other (sound.undoubled held)).2, held]
  cases holder : ((u.setRecord p r).accepting p id).holder id with
  | none => exact absurd still (Supervisor.holder_eq_none.mp holder q)
  | some h =>
    rw [Supervisor.acceptTrace_duplicate formed holder, Supervisor.setRecord_record, Supervisor.setRecord_farEnd]
    exact ⟨rfl, (Supervisor.accepting_self _ p id).2⟩

/-- An identity no other port holds enters the far-end map (R59). -/
theorem Supervisor.MapSound.accepts_free {u : Supervisor} (sound : u.MapSound) {p : Port} {id : Word} (r : PortRecord) (formed : id ≠ 0)
    (new : u.record[p].accepted ≠ some id) (free : ∀ q : Port, q ≠ p → u.farEnd[q] ≠ some id) :
    ((u.setRecord p r).acceptTrace p id).record[p].trace = heldTraceState (PortConfig.expected u.config[p]) id
    ∧ ((u.setRecord p r).acceptTrace p id).farEnd[p] = some id := by
  have own : u.farEnd[p] ≠ some id := fun e => new (sound.entry p id e).2.1
  have unheld : ((u.setRecord p r).accepting p id).holder id = none := by
    rw [Supervisor.holder_eq_none, u.accepting_setRecord]
    intro q entry
    rcases Supervisor.yield_entry entry with h | h
    · by_cases e : q = p
      · exact own (e ▸ h)
      · exact free q e h
    · exact own h
  have config : ((u.setRecord p r).accepting p id).config = u.config := by
    rw [u.accepting_setRecord]
    exact congrArg Prod.fst (u.yield_table p _)
  rw [Supervisor.acceptTrace_first formed unheld, Supervisor.setRecord_record, Supervisor.setRecord_farEnd, config]
  exact ⟨rfl, Supervisor.setFarEnd_farEnd _ _ _⟩

/-- The identity given up goes to its lowest-numbered DUPLICATE (R60). -/
theorem Supervisor.MapSound.accepts_promotes {u : Supervisor} (sound : u.MapSound) {p q : Port} {id old : Word} (r : PortRecord)
    (held : u.farEnd[p] = some old) (trace : u.record[q].trace = .duplicate) (accepted : u.record[q].accepted = some old)
    (lowest : ∀ q' : Port, u.record[q'].trace = .duplicate → u.record[q'].accepted = some old → q.val ≤ q'.val) :
    ((u.setRecord p r).acceptTrace p id).farEnd[q] = some old ∧ ((u.setRecord p r).acceptTrace p id).record[q]
      = { u.record[q] with trace := heldTraceState (PortConfig.expected u.config[q]) old } := by
  have apart : q ≠ p := fun e => sound.undoubled held (e ▸ trace)
  obtain ⟨record, farEnd⟩ := (u.setRecord p r).acceptTrace_other id apart
  rw [record, farEnd, u.accepting_setRecord]
  exact Supervisor.yield_promotes nofun apart held trace accepted lowest

end Sys2Proof.Machine

namespace Sys2Proof.Claims
open Sys2Proof.Machine

/-- The traced case of an update (R56 to R61): the record that the rest of the update wrote before has no part in it but its trace
part, which still stands. -/
theorem traceTaken_receiveTrace {u : Supervisor} {p : Port} {r : PortRecord} (candidate : r.candidate = u.record[p].candidate)
    (run : r.run = u.record[p].run) (accepted : r.accepted = u.record[p].accepted) (trace : r.trace = u.record[p].trace) (word : Word) :
    TraceTaken u ((u.setRecord p r).receiveTrace p word) p (receivedTrace word) := by
  have own : (u.setRecord p r).record[p] = r := u.setRecord_record p r
  have counts : r.receivedRun (PortConfig.persistence u.config[p]) (receivedTrace word)
      = if u.record[p].candidate = some (receivedTrace word) then min (u.config[p][7].toNat % 16) (u.record[p].run + 1) else 1 := by
    rw [PortRecord.receivedRun, candidate, run, PortConfig.persistence_eq]
  obtain ⟨a, x, after⟩ := (u.setRecord p r).receiveTrace_self p word
  rw [own] at after
  have due : ((u.setRecord p r).receiveTrace p word).record[p].run = u.config[p][7].toNat % 16
      ∧ u.record[p].accepted ≠ some (receivedTrace word)
      ↔ r.accepts (PortConfig.persistence u.config[p]) (receivedTrace word) := by
    rw [after, ← accepted, ← PortConfig.persistence_eq]
    rfl
  unfold TraceTaken
  dsimp only
  rw [due]
  refine ⟨by rw [after]; rfl, by rw [after, ← counts]; rfl, fun waits => ?_, fun takes => ?_, fun takes formed sound => ?_,
    fun old q takes sound held duplicate same lowest => ?_⟩
  · rw [Supervisor.receiveTrace_waits (by rw [own]; exact waits), Supervisor.awaitTrace_eq, u.setRecord_again, u.setRecord_again,
      own, u.setRecord_record, u.setRecord_record, ← accepted, ← trace]
    exact ⟨rfl, rfl, rfl⟩
  all_goals rw [Supervisor.receiveTrace_accepted (by rw [own]; exact takes), u.setRecord_again]
  · obtain ⟨y, record⟩ := (u.setRecord p ((u.setRecord p r).record[p].received
      (PortConfig.persistence (u.setRecord p r).config[p]) (receivedTrace word))).acceptTrace_self p (receivedTrace word)
    refine ⟨by rw [record], fun silent => ?_⟩
    rw [silent, Supervisor.acceptTrace_silent]
    obtain ⟨record, farEnd⟩ := Supervisor.accepting_self (u.setRecord p ((u.setRecord p r).record[p].received
      (PortConfig.persistence (u.setRecord p r).config[p]) 0)) p 0
    exact ⟨by rw [record], farEnd⟩
  · refine ⟨fun ⟨q, other, held⟩ => sound.accepts_held _ formed other held, fun free => ?_⟩
    exact sound.accepts_free _ formed (by rw [← accepted]; exact takes.2) free
  · exact sound.accepts_promotes _ held duplicate same lowest

end Sys2Proof.Claims

namespace Sys2Proof.Machine

/-! ## Changes of a port's configuration (R31, R33, R34, R62) -/

theorem Supervisor.kindChanged_works (u : Supervisor) (p : Port) (old : MonitorKind) : u.Works p (u.kindChanged p old) := by
  have dropped (r : PortRecord) (x : TraceState) : u.Works p ((u.setRecord p r).dropTrace p x true) :=
    (Works.setRecord u p r).trans (Supervisor.dropTrace_works _ p x true)
  unfold Supervisor.kindChanged
  dsimp only
  split
  case h_6 => exact .refl p u
  case h_7 => exact .refl p u
  all_goals exact dropped _ _

theorem Supervisor.expectedChanged_works (u : Supervisor) (p : Port) : u.Works p (u.expectedChanged p) := by
  unfold Supervisor.expectedChanged
  dsimp only
  split
  case h_4 => exact .refl p u
  all_goals exact .setRecord u p _

theorem Supervisor.portChanged_works (u : Supervisor) (p : Port) (f : Fin 8) (old : Vector Word 8) :
    u.Works p (u.portChanged p f old) := by
  unfold Supervisor.portChanged
  split
  · split
    · exact .refl p u
    · exact u.kindChanged_works p _
  · exact u.expectedChanged_works p
  case h_7 => exact .setRecord u p _
  case h_8 => exact .setRecord u p _
  all_goals exact .refl p u

/-- The three thresholds (R44) and the word after them change no record. -/
theorem Supervisor.portChanged_limits (u : Supervisor) (p : Port) {f : Fin 8} (old : Vector Word 8) (low : 2 ≤ f.val) (high : f.val ≤ 5) :
    u.portChanged p f old = u := by
  have four : f = 2 ∨ f = 3 ∨ f = 4 ∨ f = 5 := by omega
  obtain rfl | rfl | rfl | rfl := four <;> rfl

/-- A trace state that shows an accepted identity against the expected trace is shown anew (R62). -/
theorem Supervisor.expectedChanged_shown {u : Supervisor} {p : Port} {id : Word} (accepted : u.record[p].accepted = some id)
    (shown : u.record[p].trace = .free ∨ u.record[p].trace = .matched ∨ u.record[p].trace = .mismatch) :
    u.expectedChanged p
      = u.setRecord p { u.record[p] with trace := heldTraceState (PortConfig.expected u.config[p]) id } := by
  unfold Supervisor.expectedChanged
  dsimp only
  rw [accepted]
  rcases shown with h | h | h <;> rw [h]

/-- Any other trace state stands. -/
theorem Supervisor.expectedChanged_other {u : Supervisor} {p : Port} (free : u.record[p].trace ≠ .free)
    (matched : u.record[p].trace ≠ .matched) (mismatch : u.record[p].trace ≠ .mismatch) : u.expectedChanged p = u := by
  unfold Supervisor.expectedChanged
  dsimp only
  split
  next h _ => exact absurd h free
  next h _ => exact absurd h matched
  next h _ => exact absurd h mismatch
  · rfl

/-- What a taking of a changed port word leaves of the port supervisor (R25, R31 to R34). -/
theorem State.take_port_sup {s : State} {p : Port} {f : Fin 8} {e : Word} (x : Verdict) (new : e ≠ s.heldWord (.port p f)) :
    (s.take (.port p f) e x).sup = Supervisor.portChanged { s.sup with config := put s.sup.config p (put s.sup.config[p] f e) }
      p f s.sup.config[p] := by
  unfold State.take State.takeHeld
  rw [if_neg new, (State.provision_frame _ _ _).2.2.2.2.2.1]
  unfold State.changed
  rw [(State.handOver_frame _ _ _).2.2.2.2]
  rfl

/-- What a taking of a changed calibration word leaves of it (R43). -/
theorem State.take_calibration_sup {s : State} {n : Fin 8} {j : Fin 4} {e : Word} (x : Verdict) (new : e ≠ s.heldWord (.calibration n j)) :
    (s.take (.calibration n j) e x).sup
      = Supervisor.calibrationChanged { s.sup with calibration := put s.sup.calibration n (put s.sup.calibration[n] j e) } n := by
  unfold State.take State.takeHeld
  rw [if_neg new, (State.provision_frame _ _ _).2.2.2.2.2.1]
  rfl

end Sys2Proof.Machine

namespace Sys2Proof.Claims
open Sys2Proof.Machine

/-- A watched write in RUNNING with the memory port free is a memory write and a taking, with the grant that follows. -/
theorem watchedWrite_runs {c : Instr} {w : Watched} {l : Lanes} {d e : Word} {s : State} (row : cycleOf c = some (writeCycle (.watched w) l d))
    (op : s.path.op = .running) (free : PortFree s) (screened : (s.screen w (mergeLanes l (s.heldWord w) d)).2 = e) :
    ∃ t x, exec c s = .next t ∧ Regranted (State.take (s.memWrite (s.imageAddr w.offset) .word e) w e x) t := by
  obtain ⟨t, run, served⟩ := exec_served row (s := s) fun _ => free
  rw [s.processorCycle_running _ op, s.serveRunning_watched, s.watchedWrite_eq, screened] at served
  exact ⟨t, _, run, served⟩

theorem Regranted.sup {u t : State} (h : Regranted u t) : t.sup = u.sup := by
  obtain ⟨g, rfl⟩ := h
  rfl

/-- A record after a change of its port's kind (R34), by the line of the table. -/
theorem kindChanged_self {u : Supervisor} {p : Port} {old new : MonitorKind} (kind : u.kind p = new) (changed : new ≠ old) :
    KindChanged old new u.config[p] u.record[p] (u.kindChanged p old).record[p] ∧ (u.kindChanged p old).farEnd[p] = none := by
  have unchecked (r : PortRecord) := u.setRecord_dropTrace_self p r (x := .unchecked) nofun true
  have awaiting (r : PortRecord) := u.setRecord_dropTrace_self p r (x := .awaiting) nofun true
  unfold Supervisor.kindChanged
  dsimp only
  rw [kind]
  cases old <;> cases new
  case none.none | lolOnly.lolOnly | power.power => exact absurd rfl changed
  case none.lolOnly | lolOnly.none | power.none =>
    dsimp only
    rw [(unchecked _).1]
    exact ⟨⟨fun _ => rfl, nofun, nofun⟩, (unchecked _).2⟩
  case none.power =>
    dsimp only
    rw [(awaiting _).1]
    exact ⟨⟨fun _ => rfl, nofun, nofun⟩, (awaiting _).2⟩
  case lolOnly.power =>
    dsimp only
    rw [(awaiting _).1]
    exact ⟨⟨nofun, nofun, fun _ _ => rfl⟩, (awaiting _).2⟩
  case power.lolOnly =>
    dsimp only
    rw [(unchecked _).1]
    exact ⟨⟨nofun, fun _ _ => ⟨_, _, rfl, gradeDecision_congr rfl rfl rfl rfl, fun good => if_neg good, fun failed => if_pos failed⟩,
      nofun⟩, (unchecked _).2⟩

/-- The port supervisor with one word of a port's configuration replaced, before its consequences. -/
def rewritten (u : Supervisor) (p : Port) (f : Fin 8) (e : Word) : Supervisor :=
  { u with config := put u.config p (put u.config[p] f e) }

theorem rewritten_word (u : Supervisor) (p : Port) (f : Fin 8) (e : Word) : (rewritten u p f e).config[p][f] = e :=
  (congrArg (·[f]) (put_same u.config p _)).trans (put_same _ _ _)

theorem rewritten_expected (u : Supervisor) (p : Port) (e : Word) : PortConfig.expected (rewritten u p 1 e).config[p] = e :=
  rewritten_word u p 1 e

theorem rewritten_persistence (u : Supervisor) (p : Port) (e : Word) :
    PortConfig.persistence (rewritten u p 7 e).config[p] = e.toNat % 16 :=
  (PortConfig.persistence_eq _).trans (congrArg (BitVec.toNat · % 16) (rewritten_word u p 7 e))

theorem Supervisor.calibrationChanged_record (u : Supervisor) (n : Fin 8) (q : Port) : (u.calibrationChanged n).record[q]
    = if u.kind q = .power ∧ u.config[q][6].toNat % 8 = n.val then { u.record[q] with power := [] } else u.record[q] := by
  have set : PortConfig.calibrationSet u.config[q] = n ↔ u.config[q][6].toNat % 8 = n.val := by
    rw [← Fin.val_inj]
    simp [PortConfig.calibrationSet, bits]
  refine (Vector.getElem_ofFn _).trans ?_
  simp only [set]

/-! ## Screening of a port's words (R31 to R33, R44, R54) -/

theorem portField_eq_some {w : Word} {p : Port} : portField w = some p ↔ bits w 0 6 = p.val := by
  refine ⟨fun h => ?_, bits_portField⟩
  unfold portField at h
  split at h
  · exact congrArg Fin.val (Option.some.inj h)
  · cases h

/-- A port is named by a group as a field of its configuration holds its number (R32). -/
theorem portNamed_iff (s : State) (p : Port) : s.portNamed p = true ↔ Named s p := by
  refine ⟨fun named => ?_, fun ⟨g, j, h⟩ => ?_⟩
  · obtain ⟨g, -, mem⟩ := List.any_eq_true.mp named
    rw [List.contains_iff_mem, GroupConfig.ports, List.mem_append] at mem
    rcases mem with protect | working
    · exact ⟨g, 0, portField_eq_some.mp (Option.mem_toList.mp protect)⟩
    · obtain ⟨k, -, at_⟩ := List.mem_filterMap.mp working
      refine ⟨g, k.succ, Eq.trans ?_ (portField_eq_some.mp at_)⟩
      simp only [State.portFieldOf, Fin.val_succ, Nat.add_comm, Nat.add_left_comm]
  · by_contra unnamed
    exact State.portNamed_false (eq_false_of_ne_true unnamed) g j h

theorem bits_kind (v : Word) : bits v 0 2 = v.toNat % 4 := by simp [bits]

/-- The screening of a monitor kind, by the lines of R32's table. -/
theorem screen_monitorKind {s : State} {p : Port} {v : Word} (written : v ≠ s.heldWord (.port p 0)) :
    (v.toNat % 4 = 3 → s.screen (.port p 0) v = (.refused, s.heldWord (.port p 0)))
    ∧ (v.toNat % 4 = 0 ∧ Named s p → s.screen (.port p 0) v = (.refused, s.heldWord (.port p 0)))
    ∧ (v.toNat % 4 = 0 ∧ ¬ Named s p ∧ s.sup.record[p].maintenance = true →
        s.screen (.port p 0) v = (.prohibited, s.heldWord (.port p 0)))
    ∧ (v.toNat % 4 = 0 ∧ ¬ Named s p ∧ s.sup.record[p].maintenance = false →
        s.screen (.port p 0) v = taken (v &&& 0x0013) v)
    ∧ (v.toNat % 4 = 1 ∨ v.toNat % 4 = 2 → s.screen (.port p 0) v = taken (v &&& 0x0013) v) := by
  have refused : (s.answers (.port p 0) v).refused = true ↔ v.toNat % 4 = 3 ∨ (v.toNat % 4 = 0 ∧ Named s p) := by
    rw [← portNamed_iff, ← bits_kind]
    simp [State.answers, State.answerPort, State.answerMonitorKind]
  have prohibited : (s.answers (.port p 0) v).prohibited = true ↔ v.toNat % 4 = 0 ∧ s.sup.record[p].maintenance = true := by
    rw [← bits_kind]
    simp [State.answers, State.answerPort, State.answerMonitorKind]
  have takes (r : ¬ (v.toNat % 4 = 3 ∨ (v.toNat % 4 = 0 ∧ Named s p))) (q : ¬ (v.toNat % 4 = 0 ∧ s.sup.record[p].maintenance = true)) :
      s.screen (.port p 0) v = taken (v &&& 0x0013) v :=
    State.screen_taken written (eq_false_of_ne_true (refused.not.mpr r)) (eq_false_of_ne_true (prohibited.not.mpr q)) rfl
  refine ⟨fun h => ?_, fun h => ?_, fun ⟨toNone, unnamed, inside⟩ => ?_, fun ⟨toNone, unnamed, outside⟩ => ?_, fun h => ?_⟩
  · exact State.screen_refused written (refused.mpr (.inl h))
  · exact State.screen_refused written (refused.mpr (.inr h))
  · exact State.screen_prohibited written (eq_false_of_ne_true (refused.not.mpr fun h => h.elim (by omega) (unnamed ·.2)))
      (prohibited.mpr ⟨toNone, inside⟩)
  · exact takes (fun h => h.elim (by omega) (unnamed ·.2)) (by rw [outside]; exact fun h => nomatch h.2)
  · exact takes (by omega) (by omega)

/-- The screening of an expected trace (R54). -/
theorem screen_expectedTrace {s : State} {p : Port} {v : Word} (written : v ≠ s.heldWord (.port p 1)) :
    s.screen (.port p 1) v = if v = 0 ∨ (v.toNat < 32768 ∧ 1 ≤ v.toNat / 32 ∧ v.toNat % 32 ≤ 23) then (.accepted, v)
      else (.refused, s.heldWord (.port p 1)) := by
  have refused : (s.answers (.port p 1) v).refused = !traceWellFormed v := rfl
  split
  next formed =>
    rw [← traceWellFormed_iff] at formed
    rw [State.screen_taken written (by rw [refused, formed]; rfl) rfl rfl]
    exact taken_self v
  next bad =>
    rw [← traceWellFormed_iff] at bad
    exact State.screen_refused written (by rw [refused, eq_false_of_ne_true bad]; rfl)

theorem clampPower_eq (v : Word) : clampPower v = max (-500) (min 100 v.toInt) := by
  unfold clampPower clampInt
  omega

/-- The screening of a persistence (R33). -/
theorem screen_persistence {s : State} {p : Port} {v : Word} (written : v ≠ s.heldWord (.port p 7)) :
    s.screen (.port p 7) v = taken (wordOf (max 3 (min 7 (v.toNat % 16)))) v := by
  have range : clampNat 3 7 (bits v 0 4) = max 3 (min 7 (v.toNat % 16)) := by
    simp only [clampNat, bits]
    omega
  exact State.screen_ranged written (by rw [← range]; rfl)

end Sys2Proof.Claims

namespace Sys2Proof.Proofs
open Sys2Proof.Machine Sys2Proof.Claims

/-- Settles O17: the lines of each word's table, and the port supervisor after the taking of a changed word. -/
theorem screenPorts : Obligations.ScreenPorts := by
  refine fun s p v => ⟨screen_monitorKind, screen_expectedTrace, fun c clamped => ⟨fun written => ?_, fun written => ?_⟩,
    fun written => State.screen_ranged written rfl, screen_persistence, fun c f l d e row op free screened new => ?_,
    fun n j l d e op free screened new => ?_⟩
  · rw [clamped, ← clampPower_eq]
    exact State.screen_ranged written rfl
  · rw [clamped, ← clampPower_eq]
    exact State.screen_ranged written rfl
  · obtain ⟨t, x, run, regranted⟩ := watchedWrite_runs (cycleOf_watchedWrite row) op free screened
    have sup : t.sup = (rewritten s.sup p f e).portChanged p f s.sup.config[p] :=
      regranted.sup.trans (State.take_port_sup (s := s.memWrite _ .word e) x new)
    have works := (rewritten s.sup p f e).portChanged_works p f s.sup.config[p]
    have config : t.sup.config = (rewritten s.sup p f e).config := sup ▸ congrArg Prod.fst works.table
    have kind : (rewritten s.sup p f e).kind p = t.sup.kind p := congrArg (fun c => PortConfig.kind (getElem c p.val p.isLt)) config.symm
    refine ⟨t, run, fun q other undoubled => ?_, fun zero differs => ?_, fun zero same => ?_, fun id one accepted shown => ?_,
      fun one notFree notMatched notMismatch => ?_, fun low high => ?_, fun six => ?_, fun seven => ?_⟩
    · rw [sup]
      exact (works.others q other undoubled).1
    · subst zero
      rw [← kind, config, sup.trans (if_neg (kind ▸ differs))]
      exact kindChanged_self rfl (kind ▸ differs)
    · subst zero
      rw [sup.trans (if_pos (kind ▸ same))]
      rfl
    · subst one
      rw [sup.trans (Supervisor.expectedChanged_shown (u := rewritten s.sup p 1 e) accepted shown), Supervisor.setRecord_record,
        rewritten_expected]
      rfl
    · subst one
      rw [sup.trans (Supervisor.expectedChanged_other (u := rewritten s.sup p 1 e) notFree notMatched notMismatch)]
      rfl
    · rw [sup, Supervisor.portChanged_limits _ p _ low high]
      rfl
    · subst six
      rw [sup]
      exact Supervisor.setRecord_record _ _ _
    · subst seven
      rw [sup.trans (congrArg (Supervisor.setRecord _ p) (by rw [rewritten_persistence])), Supervisor.setRecord_record]
      rfl
  · obtain ⟨t, x, run, regranted⟩ := watchedWrite_runs (c := .calibrationWrite n j l d) rfl op free screened
    refine ⟨t, run, fun q => ?_⟩
    rw [regranted.sup.trans (State.take_calibration_sup (s := s.memWrite _ .word e) x new), Supervisor.calibrationChanged_record]
    rfl

end Sys2Proof.Proofs

namespace Sys2Proof.Machine

theorem State.Reacts.config {s t : State} (h : s.Reacts t) (g : GroupId) : t.group[g].config = s.group[g].config :=
  Vector.ext fun j lt => h.held (.group g ⟨j, lt⟩)

end Sys2Proof.Machine

namespace Sys2Proof.Claims
open Sys2Proof.Machine

/-! ## What a hand-over keeps of the groups (R25, R96, R101 to R103) -/

/-- A group's received word stands as long as its protocol is usable and its protect port not FAILED (R101, R103). -/
def Hears (s : State) (g : GroupId) : Prop :=
  s.sup.unusable s.group[g].config = false ∧ s.sup.protectFailed s.group[g].config = false

/-- A group's record `x` keeps of `r` the configuration, whether it was evaluated and, where the group hears, the received word. -/
structure RecordKept (heard : Prop) (r x : Group) : Prop where
  config    : x.config = r.config
  evaluated : x.evaluated = r.evaluated
  received  : heard → x.candidate = r.candidate ∧ x.run = r.run

/-- The judgement of a word touches the accepted word and its cause alone. -/
theorem RecordKept.judged {heard : Prop} {r : Group} (accepted : Option Word) (invalid : Bool) :
    RecordKept heard r { r with accepted := accepted, invalidWord := invalid } := ⟨rfl, rfl, fun _ => ⟨rfl, rfl⟩⟩

/-- `t` follows `s` by whole updates of groups and what stands beside them: the port supervisor stands, and so do these parts of
every group. -/
structure Keeps (s t : State) : Prop where
  sup   : t.sup = s.sup
  group : ∀ g : GroupId, RecordKept (Hears s g) s.group[g] t.group[g]

namespace Keeps

theorem of_group {s t : State} (sup : t.sup = s.sup) (group : t.group = s.group) : Keeps s t :=
  ⟨sup, fun g => by rw [group]; exact ⟨rfl, rfl, fun _ => ⟨rfl, rfl⟩⟩⟩

theorem refl (s : State) : Keeps s s := .of_group rfl rfl

theorem hears {s t : State} (h : Keeps s t) {g : GroupId} (hears : Hears s g) : Hears t g := by
  unfold Hears
  rw [h.sup, (h.group g).config]
  exact hears

theorem trans {s t u : State} (h : Keeps s t) (k : Keeps t u) : Keeps s u where
  sup := k.sup.trans h.sup
  group := fun g => {
    config := (k.group g).config.trans (h.group g).config
    evaluated := (k.group g).evaluated.trans (h.group g).evaluated
    received := fun heard =>
      have ⟨candidate, run⟩ := (h.group g).received heard
      have ⟨candidate', run'⟩ := (k.group g).received (h.hears heard)
      ⟨candidate'.trans candidate, run'.trans run⟩ }

theorem ite {s t u : State} {c : Prop} [Decidable c] (h : Keeps s t) (k : Keeps s u) : Keeps s (if c then t else u) := by
  split <;> assumption

theorem iteSelf {s t : State} {c : Prop} [Decidable c] (h : Keeps s t) : Keeps s (if c then t else s) := h.ite (refl s)

theorem foldl {α : Type} {f : State → α → State} (h : ∀ s a, Keeps s (f s a)) (l : List α) (s : State) : Keeps s (l.foldl f s) := by
  induction l generalizing s with
  | nil => exact refl s
  | cons a l ih => exact (h s a).trans (ih _)

/-- Work on one group. -/
theorem of_one {s t : State} {g : GroupId} (sup : t.sup = s.sup) (others : OtherGroups s t g)
    (own : RecordKept (Hears s g) s.group[g] t.group[g]) : Keeps s t := by
  refine ⟨sup, fun f => ?_⟩
  by_cases e : f = g
  · subst e
    exact own
  · rw [others f e]
    exact ⟨rfl, rfl, fun _ => ⟨rfl, rfl⟩⟩

end Keeps

theorem setGroup_others (s : State) (g : GroupId) (r : Group) : OtherGroups s (s.setGroup g r) g :=
  fun _ n => put_other _ _ _ _ n.symm

theorem setGroup_keeps {s : State} {g : GroupId} {r : Group} (kept : RecordKept (Hears s g) s.group[g] r) : Keeps s (s.setGroup g r) :=
  .of_one rfl (setGroup_others s g r) (by rw [State.setGroup_group]; exact kept)

theorem groupUpdate_config (s : State) (first : Bool) (g f : GroupId) : (s.groupUpdate first g).group[f].config = s.group[f].config :=
  (s.groupUpdate_reacts first g).config f

theorem updateGroup_keeps (s : State) (g : GroupId) : Keeps s (s.updateGroup g) := by
  refine .of_one (s.groupUpdate_frame false g).2.2.2.2 (fun f n => ((groupUpdate_works s false g).others f n).1)
    ⟨groupUpdate_config s false g g, (s.groupUpdate_kept false g).1, fun ⟨usable, protect⟩ => ?_⟩
  obtain ⟨candidate, run⟩ := State.refreshGroup_received usable protect
  exact ⟨(s.groupUpdate_kept false g).2.1.trans candidate, (s.groupUpdate_kept false g).2.2.trans run⟩

theorem cancelManual_keeps (s : State) (g : GroupId) : Keeps s (s.cancelManual g) := by
  obtain ⟨st, record, -⟩ := s.cancelManual_group g
  refine .of_one (by rw [s.cancelManual_frame g |>.2.2.2.2.2.1]) (fun f n => ((cancelManual_works s g).others f n).1) ?_
  rw [record]
  exact ⟨rfl, rfl, fun _ => ⟨rfl, rfl⟩⟩

theorem judgeCandidate_keeps (s : State) (g : GroupId) (w : Word) : Keeps s (s.judgeCandidate g w) := by
  have set {r : Group} (h : RecordKept (Hears s g) s.group[g] r) : Keeps s ((s.setGroup g r).updateGroup g) :=
    (setGroup_keeps h).trans (updateGroup_keeps _ g)
  unfold State.judgeCandidate
  dsimp only
  split
  · split
    · exact .iteSelf (set (.judged s.group[g].accepted false))
    · exact ((setGroup_keeps (.judged (some w) false)).trans (.iteSelf (cancelManual_keeps _ g))).trans (updateGroup_keeps _ g)
  · exact .ite (.refl s) (set (.judged s.group[g].accepted true))

/-- A received word is the group's candidate after, and counted (R102). -/
theorem takeWord_keeps (s : State) (g : GroupId) (w : Word) :
    Keeps (s.setGroup g { s.group[g] with
      candidate := some w, run := if s.group[g].candidate = some w then min 3 (s.group[g].run + 1) else 1 }) (s.takeWord g w) :=
  .iteSelf (judgeCandidate_keeps _ g w)

/-- A received word is handed to no group but the one whose protect port it came to, and evaluates none (R96, R101). -/
theorem takeBridgeWord_evaluated (s : State) (p : Port) (w : Word) (g : GroupId) :
    (s.takeBridgeWord p w).group[g].evaluated = s.group[g].evaluated := by
  unfold State.takeBridgeWord
  split
  · rfl
  next f _ =>
    split
    · rfl
    · refine ((takeWord_keeps s f w).group g).evaluated.trans ?_
      by_cases e : g = f
      · subst e
        rw [State.setGroup_group]
      · rw [setGroup_others s f _ g e]

theorem retime_keeps (s : State) : Keeps s s.retime :=
  .of_group (by rw [s.retime_frame.2.2.2.2.2.1]) (by rw [s.retime_frame.2.2.2.2.2.2.1])

theorem portPoints_keeps (s : State) (p : Port) : Keeps s (s.portPoints p) :=
  .of_group (s.portPoints_frame p).2.2.2.2.2.1 (s.portPoints_frame p).2.2.2.2.2.2.1

/-! ### The hand-over as a whole (R25) -/

/-- The groups of the changed ports are updated. -/
def membersUpdated (old s : State) : State :=
  (List.finRange 12).foldl (fun t g => if State.memberChanged old s g then t.updateGroup g else t) s

theorem membersUpdated_keeps (old s : State) : Keeps s (membersUpdated old s) :=
  .foldl (fun t g => .iteSelf (updateGroup_keeps t g)) _ s

theorem membersUpdated_settles (old s : State) : Settles s (membersUpdated old s) :=
  .foldl (fun t g => .iteSelf (groupUpdate_settles t false g)) _ s

/-- The received bridge word, if there is one, is handed to its group (R101). -/
def wordTaken (s : State) (word : Option (Port × Word)) : State := word.elim s fun (p, w) => s.takeBridgeWord p w

theorem wordTaken_settles (s : State) (word : Option (Port × Word)) : Settles s (wordTaken s word) := by
  cases word with
  | none => exact .refl s
  | some w => exact takeBridgeWord_settles s w.1 w.2

/-- The points of the changed ports are handed to the alarm unit (R50). -/
def pointsTaken (old s t : State) : State :=
  (List.finRange 24).foldl (fun t p => if State.portChanged old s p then t.portPoints p else t) t

theorem pointsTaken_keeps (old s t : State) : Keeps t (pointsTaken old s t) :=
  .foldl (fun t p => .iteSelf (portPoints_keeps t p)) _ t

theorem handOver_eq (old s : State) (word : Option (Port × Word)) :
    State.handOver old s word = pointsTaken old s (wordTaken (membersUpdated old s) word).retime := by
  cases word <;> rfl

theorem handOver_evaluated (old s : State) (word : Option (Port × Word)) (g : GroupId) :
    (State.handOver old s word).group[g].evaluated = s.group[g].evaluated := by
  rw [handOver_eq]
  have word : (wordTaken (membersUpdated old s) word).group[g].evaluated = (membersUpdated old s).group[g].evaluated := by
    cases word with
    | none => rfl
    | some w => exact takeBridgeWord_evaluated _ w.1 w.2 g
  calc (pointsTaken old s (wordTaken (membersUpdated old s) _).retime).group[g].evaluated
    _ = (wordTaken (membersUpdated old s) _).group[g].evaluated := (((retime_keeps _).trans (pointsTaken_keeps old s _)).group g).evaluated
    _ = (membersUpdated old s).group[g].evaluated := word
    _ = s.group[g].evaluated := ((membersUpdated_keeps old s).group g).evaluated

/-- A bridge word on the protect port of one SHARED group that hears is handed to it (R101). -/
theorem takeBridgeWord_hears {s : State} {p : Port} {g : GroupId} (w : Word) (shared : GroupConfig.kind s.group[g].config = .shared)
    (protect : GroupConfig.protect s.group[g].config = some p)
    (once : ∀ f : GroupId, GroupConfig.protect s.group[f].config = some p → f = g) (heard : Hears s g) :
    s.takeBridgeWord p w = s.takeWord g w := by
  have holder : s.sharedGroupOf p = some g := by
    refine firstWhere_eq_some.mpr ⟨Bool.and_eq_true_iff.mpr ⟨decide_eq_true shared, decide_eq_true protect⟩, fun f named => ?_⟩
    exact (congrArg Fin.val (once f (of_decide_eq_true (Bool.and_eq_true_iff.mp named).2))).ge
  have good : s.sup.record[p].grade ≠ .failed := by
    have failed := heard.2
    unfold Supervisor.protectFailed at failed
    rw [protect] at failed
    simpa using failed
  unfold State.takeBridgeWord
  rw [holder]
  exact if_neg (by rw [heard.1]; simpa using good)

/-- A bridge word received on the protect port of a SHARED group that hears is the group's candidate after (R101, R102). -/
theorem handOver_received {old s : State} {p : Port} {g : GroupId} (w : Word) (sound : s.TableSound)
    (shared : GroupConfig.kind s.group[g].config = .shared) (protect : GroupConfig.protect s.group[g].config = some p) (heard : Hears s g) :
    (State.handOver old s (some (p, w))).group[g].candidate = some w
    ∧ (State.handOver old s (some (p, w))).group[g].run
      = if s.group[g].candidate = some w then min 3 (s.group[g].run + 1) else 1 := by
  have kept := membersUpdated_keeps old s
  have config (f : GroupId) := (kept.group f).config
  have hears := kept.hears heard
  have hands : wordTaken (membersUpdated old s) (some (p, w)) = (membersUpdated old s).takeWord g w :=
    takeBridgeWord_hears w (by rw [config]; exact shared) (by rw [config]; exact protect)
      (fun f named => protect_once sound (by rw [← config]; exact named) protect) hears
  obtain ⟨candidate, run⟩ := (kept.group g).received heard
  rw [handOver_eq, hands, ← candidate, ← run]
  have counted := takeWord_keeps (membersUpdated old s) g w
  have after := (counted.trans (retime_keeps _)).trans (pointsTaken_keeps old s _)
  have received := (after.group g).received (by
    unfold Hears
    rw [State.setGroup_group]
    exact hears)
  rwa [State.setGroup_group] at received

/-! ### First evaluations (R96) -/

theorem firstDue_iff {r : Group} {n : Nat} : r.firstDue n = true
    ↔ ¬ r.evaluated = true ∧ if GroupConfig.kind r.config = .shared then 3 ≤ n else 1 ≤ n := by
  unfold Group.firstDue
  split <;> simp

theorem firstEvaluation_evaluated (n : Nat) (a : GroupId) (s : State) (g : GroupId) :
    (if s.group[a].firstDue n then s.groupUpdate true a else s).group[g].config = s.group[g].config
    ∧ ((if s.group[a].firstDue n then s.groupUpdate true a else s).group[g].evaluated = true
      ↔ s.group[g].evaluated = true ∨ (g = a ∧ if GroupConfig.kind s.group[g].config = .shared then 3 ≤ n else 1 ≤ n)) := by
  split
  next due =>
    refine ⟨groupUpdate_config s true a g, ?_⟩
    by_cases e : g = a
    · subst e
      exact iff_of_true (s.groupUpdate_kept true g).1 (.inr ⟨rfl, (firstDue_iff.mp due).2⟩)
    · rw [((groupUpdate_works s true a).others g e).1]
      simp [e]
  next notDue =>
    rw [firstDue_iff] at notDue
    refine ⟨rfl, ⟨.inl, fun h => h.elim id fun ⟨e, due⟩ => ?_⟩⟩
    subst e
    by_contra h
    exact notDue ⟨h, due⟩

/-- The first evaluations evaluate the groups due and leave every other group's first evaluation (R96; log entry 18). -/
theorem firstEvaluations_evaluated (n : Nat) (l : List GroupId) (s : State) (g : GroupId) :
    (l.foldl (fun s g => if s.group[g].firstDue n then s.groupUpdate true g else s) s).group[g].evaluated = true
      ↔ s.group[g].evaluated = true ∨ (g ∈ l ∧ if GroupConfig.kind s.group[g].config = .shared then 3 ≤ n else 1 ≤ n) := by
  induction l generalizing s with
  | nil => simp
  | cons a l ih =>
    obtain ⟨config, evaluated⟩ := firstEvaluation_evaluated n a s g
    rw [List.foldl_cons, ih, config, evaluated, List.mem_cons]
    tauto

end Sys2Proof.Claims

namespace Sys2Proof.Claims
open Sys2Proof.Machine

/-! ## The alarm points at a hand-over (R50, R69, R93, R159) -/

theorem forall_fin_seven {P : Fin 7 → Prop} : (∀ k, P k) ↔ P 0 ∧ P 1 ∧ P 2 ∧ P 3 ∧ P 4 ∧ P 5 ∧ P 6 := by
  simp [Fin.forall_fin_succ]

theorem portPoints_iff (s : State) (p : Port) :
    PortPoints s p ↔ ∀ k, s.pointRaised (.port p k) = s.sup.record[p].condition k := by
  unfold PortPoints
  rw [forall_congr' fun _ => Bool.eq_iff_iff, forall_fin_seven]
  simp only [PortRecord.condition, Bool.and_eq_true, decide_eq_true_eq]

/-- A port's conditions are read from what its record hands on. -/
theorem condition_congr {r x : PortRecord} (h : x.handedOn = r.handedOn) (k : Fin 7) : x.condition k = r.condition k := by
  obtain ⟨presence, -, grade, cause, reduced, -, trace, -⟩ := HandedOn.mk.inj h
  unfold PortRecord.condition
  rw [presence, grade, cause, reduced, trace]

theorem portPoints_raised (s : State) (p : Port) (k : Fin 7) : (s.portPoints p).pointRaised (.port p k) = s.sup.record[p].condition k :=
  State.setPoints_raised (Point.port p) (fun _ _ e => (Point.port.inj e).2) (fun s k => s.sup.record[p].condition k)
    (fun s q b a => by rw [(State.setPoint_frame s q b).2.2.2.2.2.1]) _ s (List.mem_finRange k)

theorem portPoints_other (s : State) (p : Port) {q : Point} (other : ∀ k, q ≠ .port p k) :
    (s.portPoints p).pointRaised q = s.pointRaised q :=
  State.setPoints_other (Point.port p) (fun s k => s.sup.record[p].condition k) _ (fun k _ => other k) s

theorem pointsTaken_other (old s t : State) {q : Point} (other : ∀ p k, q ≠ .port p k) :
    (pointsTaken old s t).pointRaised q = t.pointRaised q :=
  foldl_keeps (State.pointRaised · q) _ (fun t p => by
    split
    · exact portPoints_other t p (other p)
    · rfl) _ t

/-- Whatever of a list of ports changed holds its conditions, and the points of every other port stand. -/
theorem pointsTaken_port (changed : Port → Bool) (l : List Port) (t : State) (q : Port) (k : Fin 7) :
    (l.foldl (fun t p => if changed p then t.portPoints p else t) t).pointRaised (.port q k)
      = if q ∈ l ∧ changed q = true then t.sup.record[q].condition k else t.pointRaised (.port q k) := by
  induction l generalizing t with
  | nil => simp
  | cons p l ih =>
    rw [List.foldl_cons, ih]
    by_cases e : q = p
    · subst e
      by_cases c : changed q = true
      · rw [if_pos c, portPoints_raised, (t.portPoints_frame q).2.2.2.2.2.1, ite_self]
        exact (if_pos ⟨List.mem_cons_self, c⟩).symm
      · rw [if_neg c, if_neg fun h => c h.2, if_neg fun h => c h.2]
    · have same : (if changed p then t.portPoints p else t).pointRaised (.port q k) = t.pointRaised (.port q k)
          ∧ (if changed p then t.portPoints p else t).sup = t.sup := by
        split
        · exact ⟨portPoints_other t p fun j h => e (Point.port.inj h).1, (t.portPoints_frame p).2.2.2.2.2.1⟩
        · exact ⟨rfl, rfl⟩
      rw [same.1, same.2]
      simp [e]

theorem pointsTaken_frame (old s t : State) : (pointsTaken old s t).group = t.group ∧ (pointsTaken old s t).timing = t.timing := by
  refine ⟨foldl_keeps State.group _ (fun t p => ?_) _ t, foldl_keeps State.timing _ (fun t p => ?_) _ t⟩ <;> split <;>
    simp only [State.portPoints_frame]

/-- The state that a hand-over takes the points of. -/
theorem handOver_before (old s : State) (word : Option (Port × Word)) :
    Settles s (wordTaken (membersUpdated old s) word).retime :=
  ((membersUpdated_settles old s).trans (wordTaken_settles _ word)).trans (.of_none (retime_works _))

/-- The points of a port that followed its record follow it after a hand-over: either they are handed over, or what they are read from
has not changed (R25, R50). -/
theorem handOver_portPoints {old s : State} (word : Option (Port × Word)) (alarm : s.alarm = old.alarm) {q : Port}
    (points : PortPoints old q) : PortPoints (State.handOver old s word) q := by
  have before := (handOver_before old s word).1
  rw [portPoints_iff] at points ⊢
  intro k
  rw [(State.handOver_frame old s word).2.2.2.2, handOver_eq]
  obtain ⟨l, sup⟩ := before.sup
  refine (pointsTaken_port (State.portChanged old s) _ _ q k).trans ?_
  rw [before.port, sup]
  by_cases changed : State.portChanged old s q = true
  · exact if_pos ⟨List.mem_finRange q, changed⟩
  · rw [if_neg fun h => changed h.2, State.pointRaised_congr alarm, points k]
    refine (condition_congr ?_ k).symm
    by_contra differs
    exact changed (by rw [State.portChanged, decide_eq_true differs, Bool.true_or, Bool.true_or])

theorem handOver_groupPoints {s : State} (old : State) (word : Option (Port × Word)) {g : GroupId} (points : GroupPoints s g) :
    GroupPoints (State.handOver old s word) g := by
  rw [handOver_eq]
  exact ((handOver_before old s word).2 g points).congr (by rw [(pointsTaken_frame old s _).1])
    fun k => pointsTaken_other old s _ fun _ _ => Point.noConfusion

theorem handOver_timingPoints (old s : State) (word : Option (Port × Word)) : TimingPoints (State.handOver old s word) := by
  rw [handOver_eq]
  exact (timingPoints_retime _).congr (pointsTaken_frame old s _).2 (fun i k => pointsTaken_other old s _ fun _ _ => Point.noConfusion)
    fun k => pointsTaken_other old s _ fun _ _ => Point.noConfusion

end Sys2Proof.Claims

namespace Sys2Proof.Machine

/-! ## What an answer leaves of a port (R28, R30, R38 to R42, R55) -/

theorem PortRecord.sampled_frame (kind : MonitorKind) (k : Vector Word 4) (a : Answer) (r : PortRecord) :
    (r.sampled kind k a).presence = .present ∧ (r.sampled kind k a).lol = pushLol r.lol a.lol
    ∧ (r.sampled kind k a).grade = r.grade := by
  rw [show r.sampled kind k a = _ from PortRecord.takePower_frame _ _ _ _]
  exact ⟨rfl, rfl, rfl⟩

section
variable {u : Supervisor} {p : Port} {x : Answer}

theorem Supervisor.traceWork_lolOnly (kind : u.kind p = .lolOnly) : u.traceWork p x = u.dropTrace p .unchecked true := by
  unfold Supervisor.traceWork
  rw [kind]

theorem Supervisor.traceWork_plain (kind : u.kind p = .power) (plain : x.overhead = none) :
    u.traceWork p x = u.dropTrace p .unchecked true := by
  unfold Supervisor.traceWork
  rw [kind, plain]

theorem Supervisor.traceWork_failed (kind : u.kind p = .power) (overhead : x.overhead ≠ none) (failed : u.record[p].grade = .failed) :
    u.traceWork p x = u.dropTrace p .silent true := by
  obtain ⟨o, some⟩ := Option.ne_none_iff_exists'.mp overhead
  unfold Supervisor.traceWork
  rw [kind, some]
  exact if_pos failed

theorem Supervisor.traceWork_received {word bridge : Word} (kind : u.kind p = .power) (overhead : x.overhead = some (word, bridge))
    (good : u.record[p].grade ≠ .failed) : u.traceWork p x = u.receiveTrace p word := by
  unfold Supervisor.traceWork
  rw [kind, overhead]
  exact if_neg good

/-- The record of an answered port before its trace work. -/
def Supervisor.graded (u : Supervisor) (p : Port) (x : Answer) : PortRecord :=
  u.record[p].answered (u.kind p) u.config[p] (u.calibrationOf p) x

theorem Supervisor.tookAnswer_eq (u : Supervisor) (p : Port) (x : Answer) :
    u.tookAnswer p x = (u.setRecord p (u.graded p x)).traceWork p x := rfl

/-- Beside the trace part, an answered port's record is the graded one. -/
theorem Supervisor.tookAnswer_self (u : Supervisor) (p : Port) (x : Answer) : ∃ c n d y, (u.tookAnswer p x).record[p]
    = { u.graded p x with candidate := c, run := n, accepted := d, trace := y } := by
  obtain ⟨c, n, d, y, h⟩ := (u.setRecord p (u.graded p x)).traceWork_self p x
  rw [u.setRecord_record] at h
  exact ⟨c, n, d, y, h⟩

theorem Supervisor.tookAnswer_grade (u : Supervisor) (p : Port) (x : Answer) : (u.tookAnswer p x).record[p].grade = (u.graded p x).grade := by
  obtain ⟨c, n, d, y, h⟩ := u.tookAnswer_self p x
  rw [h]

/-- An answer makes the port PRESENT, pushes its samples and decides its grade from the grade kept and the new histories. -/
theorem Supervisor.tookAnswer_answered (u : Supervisor) (p : Port) (x : Answer) {y : PortRecord} (after : y = (u.tookAnswer p x).record[p]) :
    y.presence = .present ∧ y.caps = some ⟨x.power.isSome, x.overhead.isSome⟩ ∧ y.lol = (x.lol :: u.record[p].lol).take 3
    ∧ y.maintenance = u.record[p].maintenance ∧ (y.cause = if y.grade = .failed then some .light else none)
    ∧ y.grade = gradeDecision u.config[p] { y with grade := u.record[p].grade } := by
  obtain ⟨c, n, d, z, h⟩ := u.tookAnswer_self p x
  obtain ⟨presence, lol, grade⟩ := u.record[p].sampled_frame (u.kind p) (u.calibrationOf p) x
  rw [after, h, Supervisor.graded, PortRecord.answered_eq]
  exact ⟨rfl, rfl, rfl, rfl, rfl, gradeDecision_congr grade lol rfl presence⟩

theorem Supervisor.tookAnswer_power (u : Supervisor) (p : Port) (x : Answer) :
    (u.tookAnswer p x).record[p].power = (u.record[p].sampled (u.kind p) (u.calibrationOf p) x).power
    ∧ (u.tookAnswer p x).record[p].reduced = (u.record[p].sampled (u.kind p) (u.calibrationOf p) x).reduced := by
  obtain ⟨c, n, d, z, h⟩ := u.tookAnswer_self p x
  rw [h, Supervisor.graded, PortRecord.answered_eq]
  exact ⟨rfl, rfl⟩

/-- The power history of a LOL-ONLY port stands (R38). -/
theorem Supervisor.tookAnswer_unpowered (u : Supervisor) {p : Port} (x : Answer) (kind : u.kind p = .lolOnly) :
    (u.tookAnswer p x).record[p].power = u.record[p].power := by
  rw [(u.tookAnswer_power p x).1, kind]
  rfl

theorem Supervisor.tookAnswer_read {code : BitVec 12} (kind : u.kind p = .power) (read : x.power = some code)
    (valid : Calibration.valid (u.calibrationOf p) = true) :
    (u.tookAnswer p x).record[p].power = pushPower u.record[p].power (Calibration.convert (u.calibrationOf p) code.toNat)
    ∧ (u.tookAnswer p x).record[p].reduced = false := by
  rw [(u.tookAnswer_power p x).1, (u.tookAnswer_power p x).2, kind, PortRecord.sampled, PortRecord.takePower_read _ read valid]
  exact ⟨rfl, rfl⟩

theorem Supervisor.tookAnswer_unread (kind : u.kind p = .power) (unread : x.power = none ∨ Calibration.valid (u.calibrationOf p) = false) :
    (u.tookAnswer p x).record[p].power = [] ∧ (u.tookAnswer p x).record[p].reduced = true := by
  rw [(u.tookAnswer_power p x).1, (u.tookAnswer_power p x).2, kind, PortRecord.sampled, PortRecord.takePower_unread _ unread]
  exact ⟨rfl, rfl⟩

/-- An answer that carries no trace, or comes to a FAILED port, drops the trace accepted (R55). -/
theorem Supervisor.tookAnswer_dropped {z : TraceState} (drops : (u.setRecord p (u.graded p x)).traceWork p x
      = (u.setRecord p (u.graded p x)).dropTrace p z true) (single : z ≠ .duplicate) :
    (u.tookAnswer p x).record[p].trace = z ∧ (u.tookAnswer p x).record[p].accepted = none := by
  rw [u.tookAnswer_eq, drops, (u.setRecord_dropTrace_self p _ single true).1]
  exact ⟨rfl, rfl⟩

end

theorem Supervisor.updated_none (u : Supervisor) (p : Port) : u.updated p none = u.missed p := rfl

/-- A silent module moves one step toward ABSENT (R26, R27). -/
theorem Supervisor.missed_shown (u : Supervisor) (p : Port) :
    (u.record[p].presence = .present →
      (u.missed p).record[p] = { u.record[p] with presence := .missedOnce } ∧ (u.missed p).farEnd = u.farEnd)
    ∧ (u.record[p].presence = .missedOnce →
      (u.missed p).record[p] = { u.record[p] with
        presence := .absent, grade := .failed, cause := some .absent, power := [], lol := [true, true, true], caps := none
        reduced := false, accepted := none, trace := .silent } ∧ (u.missed p).farEnd[p] = none)
    ∧ (u.record[p].presence = .absent → (u.missed p).record = u.record ∧ (u.missed p).farEnd = u.farEnd) := by
  refine ⟨fun present => ?_, fun once => ?_, fun absent => ?_⟩
  · rw [Supervisor.missed_present present, Supervisor.setRecord_record]
    exact ⟨rfl, rfl⟩
  · rw [Supervisor.missed_once once]
    exact u.goAbsent_self p
  · rw [Supervisor.missed_absent absent]
    exact ⟨rfl, rfl⟩

theorem Supervisor.updated_some (u : Supervisor) (p : Port) (x : Answer) : u.updated p (some x) = u.tookAnswer p x := rfl

end Sys2Proof.Machine

namespace Sys2Proof.Claims
open Sys2Proof.Machine

theorem receivedTrace_eq (w : Word) : receivedTrace w
    = if w = 0 ∨ (w.toNat < 32768 ∧ 1 ≤ w.toNat / 32 ∧ w.toNat % 32 ≤ 23) then w else 0 := by
  simp only [receivedTrace, traceWellFormed_iff]

/-- A trace received with an answer enters the traced case (R56 to R61). -/
theorem traceTaken_tookAnswer {u : Supervisor} {p : Port} {x : Answer} {word bridge : Word} (kind : u.kind p = .power)
    (overhead : x.overhead = some (word, bridge)) (good : (u.graded p x).grade ≠ .failed) :
    TraceTaken u (u.tookAnswer p x) p (receivedTrace word) := by
  rw [u.tookAnswer_eq, Supervisor.traceWork_received (u := u.setRecord p _) kind overhead (by rw [u.setRecord_record]; exact good)]
  have trace : u.graded p x = _ := PortRecord.answered_eq _ _ _ _ _
  refine traceTaken_receiveTrace ?_ ?_ ?_ ?_ word <;> rw [trace]

/-! ## The update of one port, whole (R25) -/

theorem portUpdate_runs {s : State} {n : Nat} {p : Port} {a : Option Answer} {more : List (Port × Option Answer)}
    {rest : List ProcessedRound} (rounds : s.sup.rounds = ⟨n, (p, a) :: more⟩ :: rest) :
    ∃ t, exec .portUpdate s = .next t ∧ Regranted ((s.takeResult p a).drain (⟨n, more⟩ :: rest)) t := by
  refine finish_regranted (u := s.portUpdate) ?_
  unfold State.portUpdate
  rw [rounds]

/-- The last result's round end evaluates the groups due (R96; log entry 18). -/
theorem roundEnd_evaluated (s : State) (n : Nat) (g : GroupId) : (s.roundEnd n).group[g].evaluated = true
    ↔ s.group[g].evaluated = true ∨ (if GroupConfig.kind s.group[g].config = .shared then 3 ≤ n else 1 ≤ n) := by
  have group : (s.roundEnd n).group = (s.firstEvaluations n).group := by
    unfold State.roundEnd
    dsimp only
    split
    · simp only [State.enterFollow_frame]
    · rfl
  rw [group, State.firstEvaluations, firstEvaluations_evaluated, and_iff_right (List.mem_finRange g)]

/-- The result of a port of kind NONE is discarded (R25). -/
theorem takeResult_none {s : State} {p : Port} (kind : s.sup.kind p = .none) (a : Option Answer) : s.takeResult p a = s := if_pos kind

theorem takeResult_some {s : State} {p : Port} (kind : s.sup.kind p ≠ .none) (a : Option Answer) : s.takeResult p a
    = State.handOver s { s with sup := s.sup.updated p a } (a.bind fun a => a.overhead.map fun o => (p, o.2)) := if_neg kind

theorem takeResult_sup {s : State} {p : Port} {a : Option Answer} (kind : s.sup.kind p ≠ .none) :
    (s.takeResult p a).sup = s.sup.updated p a := by
  rw [takeResult_some kind, (State.handOver_frame _ _ _).2.2.2.2]

theorem takeResult_works (s : State) (p : Port) (a : Option Answer) : s.sup.Works p (s.takeResult p a).sup := by
  by_cases kind : s.sup.kind p = .none
  · rw [takeResult_none kind]
    exact .refl p _
  · rw [takeResult_sup kind]
    exact s.sup.updated_works p a

theorem takeResult_portPoints (s : State) (p : Port) (a : Option Answer) {q : Port} (points : PortPoints s q) :
    PortPoints (s.takeResult p a) q := by
  by_cases kind : s.sup.kind p = .none
  · rw [takeResult_none kind]
    exact points
  · rw [takeResult_some kind]
    exact handOver_portPoints (s := { s with sup := s.sup.updated p a }) _ (by rfl) points

theorem takeResult_groupPoints (s : State) (p : Port) (a : Option Answer) {g : GroupId} (points : GroupPoints s g) :
    GroupPoints (s.takeResult p a) g := by
  by_cases kind : s.sup.kind p = .none
  · rw [takeResult_none kind]
    exact points
  · rw [takeResult_some kind]
    have before : GroupPoints { s with sup := s.sup.updated p a } g := points.congr (by rfl) fun _ => by rfl
    refine handOver_groupPoints (s := { s with sup := s.sup.updated p a }) s _ ?_
    exact before

theorem takeResult_evaluated (s : State) (p : Port) (a : Option Answer) (g : GroupId) :
    (s.takeResult p a).group[g].evaluated = s.group[g].evaluated := by
  by_cases kind : s.sup.kind p = .none
  · rw [takeResult_none kind]
  · rw [takeResult_some kind]
    exact handOver_evaluated s _ _ g

theorem drain_portPoints {v : State} (l : List ProcessedRound) {q : Port} (points : PortPoints v q) : PortPoints (v.drain l) q := by
  have settles := (drain_settles v l).1
  obtain ⟨l', sup⟩ := settles.sup
  rw [portPoints_iff] at points ⊢
  intro k
  rw [settles.port, points, sup]

/-- A bridge word that comes with an answer to the protect port of a SHARED group reaches the group where the port is not FAILED
after it (R101): the answer says that the module has overhead. -/
theorem takeResult_received {s : State} {p : Port} {g : GroupId} {x : Answer} {word bridge : Word} (sound : s.TableSound)
    (monitored : s.sup.kind p ≠ .none) (overhead : x.overhead = some (word, bridge))
    (shared : GroupConfig.kind s.group[g].config = .shared) (protect : GroupConfig.protect s.group[g].config = some p)
    (good : (s.sup.tookAnswer p x).record[p].grade ≠ .failed) :
    (s.takeResult p (some x)).group[g].candidate = some bridge ∧ (s.takeResult p (some x)).group[g].run
      = if s.group[g].candidate = some bridge then min 3 (s.group[g].run + 1) else 1 := by
  have hears : Hears { s with sup := s.sup.tookAnswer p x } g := by
    have caps := (s.sup.tookAnswer_answered p x rfl).2.1
    rw [overhead] at caps
    unfold Hears Supervisor.unusable Supervisor.protectFailed
    dsimp only
    rw [protect, Option.any_some, Option.any_some, caps, decide_eq_false good, Bool.and_eq_false_iff]
    exact ⟨.inr rfl, rfl⟩
  rw [takeResult_some monitored]
  simp only [Option.bind_some, overhead, Option.map_some]
  exact handOver_received bridge (sound.congr (State.Reacts.of_sup s _ (s.sup.updated_table p (some x))).held) shared protect hears

/-- The last result of the last round ends it (R25, R96, R170). -/
theorem drained_last (s : State) (p : Port) (a : Option Answer) (n : Nat) {v : State} (drained : v = (s.takeResult p a).drain [⟨n, []⟩]) :
    v.sup.rounds = [] ∧ (n = 1 → v.alarm.mode = .follow) ∧ ∀ g : GroupId, v.group[g].evaluated = true
      ↔ s.group[g].evaluated = true ∨ (if GroupConfig.kind s.group[g].config = .shared then 3 ≤ n else 1 ≤ n) := by
  rw [drained, State.drain_last]
  refine ⟨rfl, State.roundEnd_first _, fun g => ?_⟩
  rw [← takeResult_evaluated s p a g, ← (s.takeResult_reacts p a).config g]
  exact roundEnd_evaluated (s.takeResult p a) n g

end Sys2Proof.Claims

namespace Sys2Proof.Proofs
open Sys2Proof.Machine Sys2Proof.Claims

/-- Settles O39: the result is taken with its hand-over, and the round is drained. -/
theorem portUpdates : Obligations.PortUpdates := by
  intro s n p a more rest rounds
  obtain ⟨t, run, regranted⟩ := portUpdate_runs rounds
  have works := takeResult_works s p a
  have settles := drain_settles (s.takeResult p a) (⟨n, more⟩ :: rest)
  have path := (State.drain_frame (s.takeResult p a) (⟨n, more⟩ :: rest)).2.2.1.trans (s.takeResult_frame p a).2.2.1
  have waiting : more ≠ [] → (s.takeResult p a).drain (⟨n, more⟩ :: rest)
      = { s.takeResult p a with sup := { (s.takeResult p a).sup with rounds := ⟨n, more⟩ :: rest } } := fun left =>
    State.drain_waiting _ fun r head => by
      obtain rfl : (⟨n, more⟩ : ProcessedRound) = r := Option.some.inj head
      exact left
  have portPoints (q : Port) (points : PortPoints s q) := drain_portPoints (⟨n, more⟩ :: rest) (takeResult_portPoints s p a points)
  generalize hv : (s.takeResult p a).drain (⟨n, more⟩ :: rest) = v at *
  obtain ⟨grant, rfl⟩ := regranted
  obtain ⟨l, sup⟩ := settles.1.sup
  refine ⟨_, run, fun left => ?_, fun last alone => ?_, ?_, ?_, ?_, fun q other undoubled => ?_, fun q other undoubled => ?_,
    portPoints, fun g points => ?_, fun monitored => ?_, fun none => ?_, fun monitored silent => ?_, fun x monitored answered => ?_⟩
  · rw [waiting left]
  · subst last alone
    exact (drained_last s p a n hv.symm :)
  · exact (congrArg Supervisor.config sup).trans (congrArg Prod.fst works.table)
  · exact (congrArg Supervisor.calibration sup).trans (congrArg Prod.snd works.table)
  · exact (congrArg Path.mem path :)
  · exact (congrArg (·.record[q]) sup).trans (works.others q other undoubled).1
  · exact (congrArg (·.farEnd[q]) sup).trans (works.others q other undoubled).2
  · exact settles.2 g (takeResult_groupPoints s p a points)
  · exact settles.1.timing (by rw [takeResult_some monitored]; exact handOver_timingPoints _ _ _)
  · rw [takeResult_none none] at sup
    exact ⟨(congrArg Supervisor.record sup :), (congrArg Supervisor.farEnd sup :)⟩
  · subst silent
    rw [takeResult_sup monitored, s.sup.updated_none] at sup
    rw [show ({ v with path := { v.path with grant := grant } } : State).sup = _ from sup]
    exact s.sup.missed_shown p
  · subst answered
    rw [takeResult_sup monitored, s.sup.updated_some] at sup
    have record : v.sup.record[p] = (s.sup.tookAnswer p x).record[p] := congrArg (·.record[p]) sup
    obtain ⟨presence, caps, lol, maintenance, cause, grade⟩ := s.sup.tookAnswer_answered p x record
    have graded : v.sup.record[p].grade = (s.sup.graded p x).grade := by rw [record, s.sup.tookAnswer_grade]
    refine ⟨presence, caps, lol, maintenance, cause, grade, fun lolOnly => ?_, fun code k power read set valid => ?_,
      fun power unread => ?_, fun power plain => ?_, fun power overhead failed => ?_, fun word bridge power overhead good => ?_,
      fun word bridge g sound overhead left shared protect good => ?_⟩
    · obtain ⟨trace, accepted⟩ := Supervisor.tookAnswer_dropped (x := x) (Supervisor.traceWork_lolOnly lolOnly) nofun
      have power := s.sup.tookAnswer_unpowered x lolOnly
      rw [← record] at trace accepted power
      exact ⟨power, trace, accepted, fun empty => grade.trans (gradeDecision_unpowered (power.trans empty) presence)⟩
    · subst set
      rw [record]
      exact Supervisor.tookAnswer_read power read valid
    · rw [record]
      exact Supervisor.tookAnswer_unread power unread
    · rw [record]
      exact Supervisor.tookAnswer_dropped (Supervisor.traceWork_plain power plain) nofun
    · rw [record]
      refine Supervisor.tookAnswer_dropped (Supervisor.traceWork_failed power overhead ?_) nofun
      rw [Supervisor.setRecord_record, ← graded]
      exact failed
    · rw [← receivedTrace_eq]
      have taken := traceTaken_tookAnswer (u := s.sup) (p := p) power overhead (by rw [← graded]; exact good)
      rw [show ({ v with path := { v.path with grant := grant } } : State).sup = _ from sup]
      exact taken
    · rw [record] at good
      have received := takeResult_received sound monitored overhead shared protect good
      rw [waiting left]
      exact received

end Sys2Proof.Proofs

namespace Sys2Proof.Machine

/-! ## Rounding and clamping (00_scope, Rounding) -/

/-- A half rounded up lies away from zero where the exact quotient is not negative. -/
theorem ediv_nearest {n d q : Int} (pos : 0 < d) (sign : 0 ≤ n) (near : 2 * |q * d - n| ≤ d)
    (tie : 2 * |q * d - n| = d → |n| < |q * d|) : (2 * n + d) / (2 * d) = q := by
  have low : 2 * (q * d - n) ≤ d := by linarith [le_abs_self (q * d - n)]
  have high : 2 * (n - q * d) < d := by
    by_contra half
    have tied : 2 * |q * d - n| = d := le_antisymm near (by linarith [neg_le_abs (q * d - n)])
    have farther : n < |q * d| := abs_of_nonneg sign ▸ tie tied
    have neg : q < 0 := neg_of_mul_neg_left (by grind : q * d < 0) pos.le
    have whole : q * d ≤ -d := by linarith [mul_le_mul_of_nonneg_right (show q ≤ -1 by omega) pos.le]
    linarith [neg_le_abs (q * d - n)]
  exact (Int.ediv_eq_iff_of_pos (by omega)).mpr ⟨by linarith, by linarith⟩

/-- `roundNearest` is the integer nearest to the exact quotient, and of two as near the one farther from zero. -/
theorem roundNearest_eq {n d q : Int} (pos : 0 < d) (near : 2 * |q * d - n| ≤ d)
    (tie : 2 * |q * d - n| = d → |n| < |q * d|) : roundNearest n d = q := by
  unfold roundNearest
  split
  case isTrue sign => exact ediv_nearest pos sign near tie
  case isFalse sign =>
    have mirror : |-q * d - -n| = |q * d - n| := by rw [← abs_neg]; ring_nf
    have opposite : (2 * -n + d) / (2 * d) = -q :=
      ediv_nearest pos (by omega) (by rwa [mirror]) (by rwa [mirror, abs_neg, neg_mul, abs_neg])
    rw [opposite, neg_neg]

/-- An exact quotient below an integer has no nearest integer above it. -/
theorem nearest_le {n d q m : Int} (pos : 0 < d) (near : 2 * |q * d - n| ≤ d) (below : n < m * d) : q ≤ m := by
  by_contra above
  have whole : (m + 1) * d ≤ q * d := mul_le_mul_of_nonneg_right (by omega) pos.le
  linarith [le_abs_self (q * d - n)]

/-- An exact quotient above an integer has no nearest integer below it. -/
theorem le_nearest {n d q m : Int} (pos : 0 < d) (near : 2 * |q * d - n| ≤ d) (above : m * d < n) : m ≤ q := by
  by_contra below
  have whole : q * d ≤ (m - 1) * d := mul_le_mul_of_nonneg_right (by omega) pos.le
  linarith [neg_le_abs (q * d - n)]

theorem clampInt_below {lo hi i : Int} (range : lo ≤ hi) (below : i < lo) : clampInt lo hi i = lo := by
  unfold clampInt
  omega

theorem clampInt_above {lo hi i : Int} (above : hi < i) : clampInt lo hi i = hi := by
  unfold clampInt
  omega

theorem clampInt_within {lo hi i : Int} (low : lo ≤ i) (high : i ≤ hi) : clampInt lo hi i = i := by
  unfold clampInt
  omega

/-! ## The conversion of a power code (R38, R39) -/

theorem Calibration.valid_iff (k : Vector Word 4) :
    Calibration.valid k = true ↔ k[0].toNat < k[2].toNat ∧ k[1].toInt < k[3].toInt := by
  unfold Calibration.valid Calibration.cLo Calibration.cHi Calibration.pLo Calibration.pHi
  rw [Bool.and_eq_true, decide_eq_true_eq, decide_eq_true_eq, Int.ofNat_lt]

theorem Calibration.convert_eq {k : Vector Word 4} {code n d q : Int} (product : n = (code - k[0].toNat) * (k[3].toInt - k[1].toInt))
    (span : d = k[2].toNat - k[0].toNat) (pos : 0 < d) (near : 2 * |q * d - n| ≤ d) (tie : 2 * |q * d - n| = d → |n| < |q * d|) :
    Calibration.convert k code = clampInt (-500) 100 (k[1].toInt + q) := by
  subst product span
  exact congrArg (fun x => clampInt (-500) 100 (k[1].toInt + x)) (roundNearest_eq pos near tie)

/-- The product of two differences in their ranges stays within the bounds of R39. -/
theorem product_bounds {a b : Int} (codes : |a| ≤ 4095) (pos : 0 < b) (powers : b ≤ 600) : -2457000 ≤ a * b ∧ a * b ≤ 2457000 := by
  rw [← abs_le, abs_mul, abs_of_pos pos]
  exact mul_le_mul codes powers pos.le (by decide)

/-! ## The grade decision, test by test (R46 to R49) -/

section
variable {cfg : Vector Word 8} {r : PortRecord} {v : Int}

theorem smoothedPower_eq_none {l : List Int} : smoothedPower l = none ↔ l = [] := by
  cases l <;> simp [smoothedPower]

/-- The loss-of-light majority enters FAILED, and a FAILED port does not leave it (R47). -/
theorem failedNow_dark (dark : lolMajority r.lol = true) : failedNow cfg r = true := by
  simp [failedNow, dark]

/-- The bound for FAILED is FAIL, and FAIL + H for a port held FAILED (R46, R47). -/
theorem failedNow_iff (present : r.presence = .present) (light : lolMajority r.lol = false) (smoothed : smoothedPower r.power = some v) :
    failedNow cfg r = true ↔ if r.grade = .failed then v < cfg[2].toInt + cfg[5].toNat else v < cfg[2].toInt := by
  unfold failedNow PortConfig.fail PortConfig.hysteresis
  rw [light, smoothed]
  by_cases held : r.grade = .failed <;> simp [held, present]

/-- The bound for OVERLOAD is OVERLOAD, and OVERLOAD - H for a port held there (R46, R49). -/
theorem overloadNow_iff (previous : Grade) : overloadNow cfg previous v = true ↔ cfg[3].toInt < cfg[4].toInt
    ∧ if previous = .overload then cfg[4].toInt - cfg[5].toNat < v else cfg[4].toInt < v := by
  unfold overloadNow PortConfig.degrade PortConfig.overload PortConfig.hysteresis
  split <;> simp

/-- The bound for DEGRADED is DEGRADE, and DEGRADE + H for a port held DEGRADED or just leaving FAILED (R46, R49). -/
theorem degradedNow_iff (previous : Grade) : degradedNow cfg previous v = true
    ↔ if previous = .degraded ∨ previous = .failed then v < cfg[3].toInt + cfg[5].toNat else v < cfg[3].toInt := by
  unfold degradedNow PortConfig.degrade PortConfig.hysteresis
  split <;> simp

theorem gradeDecision_failed (failed : failedNow cfg r = true) : gradeDecision cfg r = .failed := if_pos failed

/-- The tests of R48 and R49 in their order, for a port that is not FAILED. -/
theorem gradeDecision_powered (clear : ¬ failedNow cfg r = true) (smoothed : smoothedPower r.power = some v) : gradeDecision cfg r
    = if overloadNow cfg r.grade v then .overload else if degradedNow cfg r.grade v then .degraded else .good := by
  unfold gradeDecision
  rw [if_neg clear, smoothed]

end

end Sys2Proof.Machine

namespace Sys2Proof.Proofs
open Sys2Proof.Machine

/-- Settles O40: the quotient is `roundNearest`'s, and lies on the side of 0 and of the span that the code lies on. -/
theorem powerConversion : Obligations.PowerConversion := by
  intro k code n d q valid product span near tie
  obtain ⟨codes, powers⟩ := (Calibration.valid_iff k).mp valid
  have pos : 0 < d := by omega
  have rise : 0 < k[3].toInt - k[1].toInt := by omega
  rw [Calibration.convert_eq product span pos near tie]
  refine ⟨clampInt_below (by decide), clampInt_above, fun ⟨low, high⟩ => clampInt_within low high,
    fun ⟨cLo, cHi, pLo, pHi⟩ => ?_, fun under => ?_, fun past => ?_⟩
  · have code_lt := code.isLt
    obtain ⟨low, high⟩ := product_bounds (a := code.toNat - k[0].toNat) (abs_le.mpr ⟨by omega, by omega⟩) rise (by omega)
    exact ⟨product ▸ low, product ▸ high, by omega, by omega⟩
  · have below : n < 0 * d := by
      rw [zero_mul, product]
      exact mul_neg_of_neg_of_pos (by omega) rise
    exact nearest_le pos near below
  · have above : (k[3].toInt - k[1].toInt) * d < n := by
      rw [product, mul_comm]
      exact mul_lt_mul_of_pos_right (by omega) rise
    linarith [le_nearest pos near above]

/-- Settles O41: the three tests in the decision's order, each by its bound. -/
theorem gradeDecision : Obligations.GradeDecision := by
  rintro cfg r fail degrade overload h present rfl rfl rfl rfl
  refine ⟨fun dark => gradeDecision_failed (failedNow_dark dark), fun light unpowered => ?_, fun v ov deg light smoothed isOv isDeg => ?_⟩
  · rw [gradeDecision_unpowered (smoothedPower_eq_none.mp unpowered) present, light]
    rfl
  · have failed := failedNow_iff (cfg := cfg) present light smoothed
    refine ⟨fun low => gradeDecision_failed (failed.mpr low), fun clears => ?_⟩
    have clear : ¬ failedNow cfg r = true := by
      rw [failed]
      split at clears <;> simp [*]
    rw [gradeDecision_powered clear smoothed, isOv, isDeg, ← overloadNow_iff, ← degradedNow_iff]
    refine ⟨fun above => if_pos above, fun ⟨under, low⟩ => ?_, fun ⟨under, fine⟩ => ?_⟩
    · rw [if_neg under, if_pos low]
    · rw [if_neg under, if_neg fine]

end Sys2Proof.Proofs

namespace Sys2Proof.Machine

/-! ## The far-end map through a change of one port (R58 to R61) -/

/-- A trace state that shows no identity of the far-end map and is no DUPLICATE (R58). -/
def TraceState.Quiet (x : TraceState) : Prop := x = .unchecked ∨ x = .silent ∨ x = .awaiting

/-- What a port's trace state, its accepted trace and its entry in the far-end map say of each other, given the port's expected
trace (R58, R59). -/
structure TraceState.Fits (x : TraceState) (expected : Word) (accepted entry : Option Word) : Prop where
  held   : ∀ id, entry = some id → id ≠ 0 ∧ accepted = some id ∧ x = heldTraceState expected id
  shown  : x = .free ∨ x = .matched ∨ x = .mismatch → entry.isSome
  formed : ∀ id, accepted = some id → traceWellFormed id = true

/-- A port fits the map. -/
def Supervisor.Fits (u : Supervisor) (p : Port) : Prop :=
  u.record[p].trace.Fits (PortConfig.expected u.config[p]) u.record[p].accepted u.farEnd[p]

/-- A map that is sound but for one identity, given up and not yet promoted (R60): no port holds it, and its duplicates wait. -/
structure Supervisor.SoundBut (u : Supervisor) (o : Option Word) : Prop where
  fits      : ∀ p : Port, u.Fits p
  once      : ∀ (p q : Port) id, u.farEnd[p] = some id → u.farEnd[q] = some id → p = q
  duplicate : ∀ p : Port, u.record[p].trace = .duplicate →
    ∃ id, id ≠ 0 ∧ u.record[p].accepted = some id ∧ (o = some id ∨ ∃ q, q ≠ p ∧ u.farEnd[q] = some id)
  unheld    : ∀ (q : Port) id, o = some id → u.farEnd[q] ≠ some id

theorem Supervisor.mapSound_iff {u : Supervisor} : u.MapSound ↔ u.SoundBut none := by
  constructor
  · rintro ⟨entry, shown, once, duplicate, formed⟩
    refine ⟨fun p => ⟨entry p, shown p, formed p⟩, once, fun p d => ?_, nofun⟩
    obtain ⟨id, ne, accepted, holder⟩ := duplicate p d
    exact ⟨id, ne, accepted, .inr holder⟩
  · rintro ⟨fits, once, duplicate, -⟩
    refine ⟨fun p => (fits p).held, fun p => (fits p).shown, once, fun p d => ?_, fun p => (fits p).formed⟩
    obtain ⟨id, ne, accepted, h | holder⟩ := duplicate p d
    · cases h
    · exact ⟨id, ne, accepted, holder⟩

theorem TraceState.Fits.of_unheld {x : TraceState} {expected : Word} {accepted : Option Word} (x' : x.Quiet ∨ x = .duplicate)
    (formed : ∀ id, accepted = some id → traceWellFormed id = true) : x.Fits expected accepted none := by
  refine ⟨nofun, fun h => ?_, formed⟩
  rcases x' with (rfl | rfl | rfl) | rfl <;> simp at h

/-- An identity held shows against the expected trace (R58). -/
theorem TraceState.Fits.of_held {expected id : Word} (ne : id ≠ 0) (formed : traceWellFormed id = true) :
    (heldTraceState expected id).Fits expected (some id) (some id) :=
  ⟨fun _ h => Option.some.inj h ▸ ⟨ne, rfl, rfl⟩, fun _ => rfl, fun _ h => Option.some.inj h ▸ formed⟩

/-- Two states of the port supervisor say the same of a port in what the map is about. -/
structure Supervisor.Alike (u v : Supervisor) (q : Port) : Prop where
  accepted : v.record[q].accepted = u.record[q].accepted
  trace    : v.record[q].trace = u.record[q].trace
  farEnd   : v.farEnd[q] = u.farEnd[q]
  expected : PortConfig.expected v.config[q] = PortConfig.expected u.config[q]

theorem Supervisor.Alike.fits {u v : Supervisor} {q : Port} (h : u.Alike v q) (fits : u.Fits q) : v.Fits q := by
  unfold Supervisor.Fits
  rw [h.accepted, h.trace, h.farEnd, h.expected]
  exact fits

/-- What a change of one port leaves sound: the port fits the map afterwards, takes no identity another port holds, and the identity
it gives up, or the one no port held, is taken or is the one no port holds now. -/
theorem Supervisor.SoundBut.change {u v : Supervisor} {o o' : Option Word} {p : Port} (h : u.SoundBut o)
    (alike : ∀ q, q ≠ p → u.Alike v q) (fits : v.Fits p)
    (free : ∀ q id, q ≠ p → v.farEnd[p] = some id → u.farEnd[q] ≠ some id)
    (double : v.record[p].trace = .duplicate →
      ∃ id, id ≠ 0 ∧ v.record[p].accepted = some id ∧ ∃ q, q ≠ p ∧ u.farEnd[q] = some id)
    (left : ∀ id, o = some id ∨ u.farEnd[p] = some id → o' = some id ∨ v.farEnd[p] = some id)
    (unheld : ∀ id, o' = some id → v.farEnd[p] ≠ some id ∧ ∀ q, q ≠ p → u.farEnd[q] ≠ some id) : v.SoundBut o' where
  fits q := by
    by_cases e : q = p
    · exact e ▸ fits
    · exact (alike q e).fits (h.fits q)
  once q r id hq hr := by
    by_cases eq : q = p <;> by_cases er : r = p
    · rw [eq, er]
    · subst eq
      rw [(alike r er).farEnd] at hr
      exact absurd hr (free r id er hq)
    · subst er
      rw [(alike q eq).farEnd] at hq
      exact absurd hq (free q id eq hr)
    · rw [(alike q eq).farEnd] at hq
      rw [(alike r er).farEnd] at hr
      exact h.once q r id hq hr
  duplicate q d := by
    by_cases e : q = p
    · subst e
      obtain ⟨id, ne, accepted, r, apart, held⟩ := double d
      exact ⟨id, ne, accepted, .inr ⟨r, apart, (alike r apart).farEnd.trans held⟩⟩
    · rw [(alike q e).trace] at d
      obtain ⟨id, ne, accepted, holder⟩ := h.duplicate q d
      refine ⟨id, ne, (alike q e).accepted.trans accepted, ?_⟩
      have moved (gone : o = some id ∨ u.farEnd[p] = some id) : o' = some id ∨ ∃ r, r ≠ q ∧ v.farEnd[r] = some id :=
        (left id gone).imp_right fun taken => ⟨p, Ne.symm e, taken⟩
      rcases holder with gone | ⟨r, apart, held⟩
      · exact moved (.inl gone)
      · by_cases er : r = p
        · exact moved (.inr (er ▸ held))
        · exact .inr ⟨r, apart, (alike r er).farEnd.trans held⟩
  unheld q id gone := by
    obtain ⟨own, other⟩ := unheld id gone
    by_cases e : q = p
    · exact e ▸ own
    · rw [(alike q e).farEnd]
      exact other q e

/-- A change that says the same of every port keeps the map sound. -/
theorem Supervisor.MapSound.congr {u v : Supervisor} (h : u.MapSound) (alike : ∀ q, u.Alike v q) : v.MapSound where
  entry q := ((alike q).fits ((mapSound_iff.mp h).fits q)).held
  shown q := ((alike q).fits ((mapSound_iff.mp h).fits q)).shown
  formed q := ((alike q).fits ((mapSound_iff.mp h).fits q)).formed
  once p q id hp hq := by
    rw [(alike p).farEnd] at hp
    rw [(alike q).farEnd] at hq
    exact h.once p q id hp hq
  duplicate p d := by
    rw [(alike p).trace] at d
    obtain ⟨id, ne, accepted, q, apart, held⟩ := h.duplicate p d
    exact ⟨id, ne, (alike p).accepted.trans accepted, q, apart, (alike q).farEnd.trans held⟩

theorem Supervisor.setRecord_alike (u : Supervisor) {p : Port} {r : PortRecord} (accepted : r.accepted = u.record[p].accepted)
    (trace : r.trace = u.record[p].trace) (q : Port) : u.Alike (u.setRecord p r) q := by
  by_cases e : q = p
  · subst e
    exact ⟨by rw [u.setRecord_record, accepted], by rw [u.setRecord_record, trace], rfl, rfl⟩
  · exact ⟨by rw [u.setRecord_other r e], by rw [u.setRecord_other r e], rfl, rfl⟩

/-- A record written with its trace part as it stood. -/
theorem Supervisor.MapSound.setRecord {u : Supervisor} (h : u.MapSound) {p : Port} {r : PortRecord}
    (accepted : r.accepted = u.record[p].accepted) (trace : r.trace = u.record[p].trace) : (u.setRecord p r).MapSound :=
  h.congr (u.setRecord_alike accepted trace)

/-- A port's record and its map entry written together. -/
def Supervisor.place (u : Supervisor) (p : Port) (e : Option Word) (r : PortRecord) : Supervisor := (u.setFarEnd p e).setRecord p r

theorem Supervisor.place_alike (u : Supervisor) {p q : Port} (e : Option Word) (r : PortRecord) (n : q ≠ p) :
    u.Alike (u.place p e r) q := by
  have record : (u.place p e r).record[q] = u.record[q] := Supervisor.setRecord_other _ r n
  exact ⟨by rw [record], by rw [record], u.setFarEnd_other e n, rfl⟩

theorem Supervisor.place_record (u : Supervisor) (p : Port) (e : Option Word) (r : PortRecord) : (u.place p e r).record[p] = r :=
  Supervisor.setRecord_record _ p r

theorem Supervisor.place_farEnd (u : Supervisor) (p : Port) (e : Option Word) (r : PortRecord) : (u.place p e r).farEnd[p] = e :=
  u.setFarEnd_farEnd p e

/-- What a record and a map entry written together leave sound. -/
theorem Supervisor.SoundBut.place {u : Supervisor} {o o' e : Option Word} {p : Port} {r : PortRecord} (h : u.SoundBut o)
    (fits : r.trace.Fits (PortConfig.expected u.config[p]) r.accepted e)
    (free : ∀ q id, q ≠ p → e = some id → u.farEnd[q] ≠ some id)
    (double : r.trace = .duplicate → ∃ id, id ≠ 0 ∧ r.accepted = some id ∧ ∃ q, q ≠ p ∧ u.farEnd[q] = some id)
    (left : ∀ id, o = some id ∨ u.farEnd[p] = some id → o' = some id ∨ e = some id)
    (unheld : ∀ id, o' = some id → e ≠ some id ∧ ∀ q, q ≠ p → u.farEnd[q] ≠ some id) : (u.place p e r).SoundBut o' := by
  have record := u.place_record p e r
  have farEnd := u.place_farEnd p e r
  refine h.change (fun q n => u.place_alike e r n) ?_ ?_ ?_ ?_ ?_
  · unfold Supervisor.Fits
    rw [record, farEnd]
    exact fits
  · rwa [farEnd]
  · rwa [record]
  · rwa [farEnd]
  · rwa [farEnd]

theorem Supervisor.place_unheld {u : Supervisor} {p : Port} (r : PortRecord) (h : u.farEnd[p] = none) :
    u.place p none r = u.setRecord p r := by
  rw [Supervisor.place, ← h]
  simp [Supervisor.setFarEnd, put]

theorem TraceState.Quiet.ne_duplicate {x : TraceState} (h : x.Quiet) : x ≠ .duplicate := by
  rcases h with rfl | rfl | rfl <;> nofun

/-- A port may take a quiet record and give its entry up, which leaves the identity it held to its duplicates (R60). -/
theorem Supervisor.MapSound.place_quiet {u : Supervisor} (h : u.MapSound) (p : Port) {r : PortRecord} (quiet : r.trace.Quiet)
    (formed : ∀ id, r.accepted = some id → traceWellFormed id = true) : (u.place p none r).SoundBut u.farEnd[p] :=
  (mapSound_iff.mp h).place (.of_unheld (.inl quiet) formed) (fun _ _ _ => nofun) (fun d => absurd d quiet.ne_duplicate)
    (fun _ gone => .inl (gone.resolve_left nofun)) fun id held => ⟨nofun, fun q n other => n (h.once q p id other held)⟩

/-- The duplicates that wait for an identity: the lowest is promoted, and the others find it held (R60). -/
theorem Supervisor.SoundBut.promote {u : Supervisor} {id : Word} (h : u.SoundBut (some id)) : (u.promote id).MapSound := by
  unfold Supervisor.promote
  split
  next none_ =>
    refine ⟨fun p => (h.fits p).held, fun p => (h.fits p).shown, h.once, fun p d => ?_, fun p => (h.fits p).formed⟩
    obtain ⟨x, ne, accepted, waits | holder⟩ := h.duplicate p d
    · cases waits
      have found := firstWhere_eq_none.mp none_ p
      simp only [Fin.getElem_fin, Bool.and_eq_false_iff, decide_eq_false_iff_not] at found
      exact absurd accepted (found.resolve_left (not_not.mpr d))
    · exact ⟨x, ne, accepted, holder⟩
  next q found =>
    obtain ⟨⟨d, accepted⟩, -⟩ := Supervisor.duplicateOf_eq_some.mp found
    obtain ⟨x, ne, same, -⟩ := h.duplicate q d
    obtain rfl : id = x := Option.some.inj (accepted.symm.trans same)
    have unentered (y : Word) : u.farEnd[q] ≠ some y := fun e => by
      obtain ⟨-, -, trace⟩ := (h.fits q).held y e
      exact heldTraceState_ne_duplicate _ _ (trace.symm.trans d)
    refine mapSound_iff.mpr (h.place (p := q) ?_ ?_ ?_ ?_ ?_)
    · dsimp only
      rw [accepted]
      exact .of_held ne ((h.fits q).formed id accepted)
    · exact fun r y _ e => h.unheld r y e
    · exact fun d => absurd d (heldTraceState_ne_duplicate _ _)
    · exact fun y gone => .inr (gone.resolve_right (unentered y))
    · exact fun _ => nofun

/-- Giving an entry up for a quiet record keeps the map sound (R60). -/
theorem Supervisor.MapSound.yield {u : Supervisor} (h : u.MapSound) (p : Port) {r : PortRecord} (quiet : r.trace.Quiet)
    (formed : ∀ id, r.accepted = some id → traceWellFormed id = true) : (u.yield p r).MapSound := by
  have placed := h.place_quiet p quiet formed
  cases held : u.farEnd[p] with
  | none =>
    rw [held, Supervisor.place_unheld r held] at placed
    rw [Supervisor.yield_unheld r held]
    exact mapSound_iff.mpr placed
  | some id =>
    rw [held] at placed
    rw [Supervisor.yield_held r held]
    exact placed.promote

/-! ### The operations on one port keep the map -/

/-- Dropping a trace keeps the map sound, whatever the record written before it (R27, R34, R55). -/
theorem Supervisor.MapSound.dropTrace {u : Supervisor} (h : u.MapSound) (p : Port) {x : TraceState} (quiet : x.Quiet) (c : Bool) :
    (u.dropTrace p x c).MapSound := by
  rw [u.dropTrace_eq]
  exact h.yield p quiet fun _ => nofun

/-- Accepting a trace keeps the map sound: the port's old identity goes to a duplicate, and the new one is entered where no port holds
it (R59 to R61). -/
theorem Supervisor.MapSound.acceptTrace {u : Supervisor} (h : u.MapSound) (p : Port) {id : Word} (formed : traceWellFormed id = true) :
    (u.acceptTrace p id).MapSound := by
  have sound : (u.accepting p id).MapSound := h.yield p (.inr (.inl rfl)) fun x e => Option.some.inj e ▸ formed
  obtain ⟨own, unheld⟩ := u.accepting_self p id
  by_cases zero : id = 0
  · rw [zero, u.acceptTrace_silent, ← zero]
    exact sound
  · cases holder : (u.accepting p id).holder id with
    | some q =>
      have held := (firstWhere_eq_some.mp holder).1
      have held : (u.accepting p id).farEnd[q] = some id := by simpa using held
      have apart : q ≠ p := fun e => by simp [e, unheld] at held
      rw [Supervisor.acceptTrace_duplicate zero holder, own, ← Supervisor.place_unheld _ unheld]
      refine mapSound_iff.mpr ((mapSound_iff.mp sound).place (.of_unheld (.inr rfl) ?_) ?_ ?_ ?_ ?_)
      · exact fun x e => Option.some.inj e ▸ formed
      · exact fun _ _ _ => nofun
      · exact fun _ => ⟨id, zero, rfl, q, apart, held⟩
      · simp [unheld]
      · exact fun _ => nofun
    | none =>
      rw [Supervisor.acceptTrace_first zero holder, own]
      refine mapSound_iff.mpr ((mapSound_iff.mp sound).place (.of_held zero formed) ?_ ?_ ?_ ?_)
      · exact fun q x _ e => Option.some.inj e ▸ Supervisor.holder_eq_none.mp holder q
      · exact fun d => absurd d (heldTraceState_ne_duplicate _ _)
      · simp [unheld]
      · exact fun _ => nofun

/-- A port that shows no identity of its own, or has accepted none, holds no entry (R58). -/
theorem Supervisor.MapSound.farEnd_eq_none {u : Supervisor} (h : u.MapSound) {p : Port}
    (n : (u.record[p].trace ≠ .free ∧ u.record[p].trace ≠ .matched ∧ u.record[p].trace ≠ .mismatch) ∨ u.record[p].accepted = none) :
    u.farEnd[p] = none := by
  refine Option.eq_none_iff_forall_ne_some.mpr fun id e => ?_
  obtain ⟨-, accepted, trace⟩ := h.entry p id e
  rcases n with ⟨free, matched, mismatch⟩ | none_
  · unfold heldTraceState at trace
    split at trace
    · exact free trace
    · split at trace
      · exact matched trace
      · exact mismatch trace
  · rw [none_] at accepted
    cases accepted

theorem Supervisor.MapSound.awaitTrace {u : Supervisor} (h : u.MapSound) (p : Port) : (u.awaitTrace p).MapSound := by
  unfold Supervisor.awaitTrace
  split
  next none_ =>
    have unheld : u.farEnd[p] = none := h.farEnd_eq_none (.inr none_)
    have placed := h.place_quiet p (r := { u.record[p] with trace := .awaiting }) (.inr (.inr rfl)) (h.formed p)
    rw [unheld, Supervisor.place_unheld _ unheld] at placed
    exact mapSound_iff.mpr placed
  · exact h

theorem receivedTrace_wellFormed (w : Word) : traceWellFormed (receivedTrace w) = true := by
  unfold receivedTrace
  split
  · assumption
  · rfl

theorem Supervisor.MapSound.receiveTrace {u : Supervisor} (h : u.MapSound) (p : Port) (word : Word) : (u.receiveTrace p word).MapSound := by
  have received := h.setRecord (p := p) (r := u.record[p].received (PortConfig.persistence u.config[p]) (receivedTrace word)) rfl rfl
  by_cases accepts : u.record[p].accepts (PortConfig.persistence u.config[p]) (receivedTrace word)
  · rw [Supervisor.receiveTrace_accepted accepts]
    exact received.acceptTrace p (receivedTrace_wellFormed word)
  · rw [Supervisor.receiveTrace_waits accepts]
    exact received.awaitTrace p

theorem Supervisor.MapSound.traceWork {u : Supervisor} (h : u.MapSound) (p : Port) (a : Answer) : (u.traceWork p a).MapSound := by
  unfold Supervisor.traceWork
  split
  · split
    · exact h.dropTrace p (.inr (.inl rfl)) true
    · exact h.receiveTrace p _
  · exact h.dropTrace p (.inl rfl) true
  · exact h.dropTrace p (.inl rfl) true
  · exact h

theorem Supervisor.MapSound.missed {u : Supervisor} (h : u.MapSound) (p : Port) : (u.missed p).MapSound := by
  unfold Supervisor.missed
  split
  · exact h.setRecord rfl rfl
  · unfold Supervisor.goAbsent
    refine Supervisor.MapSound.dropTrace (h.setRecord ?_ ?_) p (.inr (.inl rfl)) false <;> rfl
  · exact h

/-- One port's update keeps the map sound (R25 to R30, R55 to R61). -/
theorem Supervisor.MapSound.updated {u : Supervisor} (h : u.MapSound) (p : Port) (a : Option Answer) : (u.updated p a).MapSound := by
  cases a with
  | none => exact h.missed p
  | some a =>
    refine (h.setRecord (p := p) ?_ ?_).traceWork p a <;> rw [PortRecord.answered_eq]

theorem Supervisor.MapSound.kindChanged {u : Supervisor} (h : u.MapSound) (p : Port) (old : MonitorKind) :
    (u.kindChanged p old).MapSound := by
  have dropped {r : PortRecord} {x : TraceState} (quiet : x.Quiet) (accepted : r.accepted = u.record[p].accepted)
      (trace : r.trace = u.record[p].trace) : ((u.setRecord p r).dropTrace p x true).MapSound :=
    (h.setRecord accepted trace).dropTrace p quiet true
  unfold Supervisor.kindChanged
  dsimp only
  split
  case h_6 => exact h
  case h_7 => exact h
  case h_3 => exact dropped (.inr (.inr rfl)) rfl rfl
  case h_5 => exact dropped (.inr (.inr rfl)) rfl rfl
  all_goals exact dropped (.inl rfl) rfl rfl

theorem rewritten_alike (u : Supervisor) (p : Port) (f : Fin 8) (e : Word) {q : Port} (n : q ≠ p ∨ f ≠ 1) :
    u.Alike (Claims.rewritten u p f e) q := by
  refine ⟨rfl, rfl, rfl, ?_⟩
  by_cases same : q = p
  · subst same
    exact (congrArg (·[1]) (put_same u.config q _)).trans (put_other _ _ _ _ (n.resolve_left (not_not.mpr rfl)))
  · exact congrArg (·[1]) (put_other u.config p q _ (Ne.symm same))

/-- A changed expected trace leaves of the port a trace state that fits the new one, and no new DUPLICATE (R62). -/
theorem Supervisor.MapSound.expectedChanged_fits {u : Supervisor} (h : u.MapSound) (p : Port) (e : Word) : ∃ x : TraceState,
    (Claims.rewritten u p 1 e).expectedChanged p = (Claims.rewritten u p 1 e).setRecord p { u.record[p] with trace := x }
    ∧ x.Fits e u.record[p].accepted u.farEnd[p] ∧ (x = .duplicate → u.record[p].trace = .duplicate) := by
  by_cases shown : u.record[p].trace = .free ∨ u.record[p].trace = .matched ∨ u.record[p].trace = .mismatch
  · obtain ⟨id, held⟩ := Option.isSome_iff_exists.mp (h.shown p shown)
    obtain ⟨ne, accepted, -⟩ := h.entry p id held
    refine ⟨heldTraceState e id, ?_, ?_, fun d => absurd d (heldTraceState_ne_duplicate e id)⟩
    · rw [Supervisor.expectedChanged_shown (u := Claims.rewritten u p 1 e) accepted shown, Claims.rewritten_expected]
      rfl
    · rw [accepted, held]
      exact .of_held ne (h.formed p id accepted)
  · obtain ⟨free, matched, mismatch⟩ : u.record[p].trace ≠ .free ∧ u.record[p].trace ≠ .matched ∧ u.record[p].trace ≠ .mismatch := by
      simpa only [not_or] using shown
    refine ⟨u.record[p].trace, ?_, ?_, id⟩
    · rw [Supervisor.expectedChanged_other (u := Claims.rewritten u p 1 e) free matched mismatch]
      exact (Supervisor.setRecord_same (Claims.rewritten u p 1 e) p).symm
    · rw [h.farEnd_eq_none (.inl ⟨free, matched, mismatch⟩)]
      exact ⟨nofun, fun x => absurd x shown, h.formed p⟩

/-- The trace states that show an identity are shown anew against a new expected trace (R62). -/
theorem Supervisor.MapSound.expectedChanged {u : Supervisor} (h : u.MapSound) (p : Port) (e : Word) :
    ((Claims.rewritten u p 1 e).expectedChanged p).MapSound := by
  obtain ⟨x, eq, fits, kept⟩ := h.expectedChanged_fits p e
  rw [eq]
  have record := (Claims.rewritten u p 1 e).setRecord_record p { u.record[p] with trace := x }
  refine mapSound_iff.mpr ((mapSound_iff.mp h).change (p := p) (fun q n => ?_) ?_ ?_ ?_ ?_ ?_)
  · have other := (Claims.rewritten u p 1 e).setRecord_other { u.record[p] with trace := x } n
    obtain ⟨accepted, trace, farEnd, expected⟩ := rewritten_alike u p 1 e (.inl n)
    exact ⟨by rw [other, accepted], by rw [other, trace], farEnd, expected⟩
  · unfold Supervisor.Fits
    rw [record]
    exact (Claims.rewritten_expected u p e).symm ▸ fits
  · exact fun q id n own other => n (h.once q p id other own)
  · rw [record]
    exact fun d => h.duplicate p (kept d)
  · exact fun id gone => .inr (gone.resolve_left nofun)
  · exact fun _ => nofun

theorem Supervisor.MapSound.calibrationChanged {u : Supervisor} (h : u.MapSound) (n : Fin 8) : (u.calibrationChanged n).MapSound := by
  have config : (u.calibrationChanged n).config = u.config := by simp only [Supervisor.calibrationChanged]
  have farEnd : (u.calibrationChanged n).farEnd = u.farEnd := by simp only [Supervisor.calibrationChanged]
  refine h.congr fun q => ?_
  have record := Claims.Supervisor.calibrationChanged_record u n q
  split at record <;> exact ⟨by rw [record], by rw [record], by rw [farEnd], by rw [config]⟩

theorem Supervisor.MapSound.portChanged {u : Supervisor} (h : u.MapSound) (p : Port) (f : Fin 8) (e : Word) :
    (Supervisor.portChanged (Claims.rewritten u p f e) p f u.config[p]).MapSound := by
  by_cases expected : f = 1
  · subst expected
    exact h.expectedChanged p e
  · have same : (Claims.rewritten u p f e).MapSound := h.congr fun q => rewritten_alike u p f e (.inr expected)
    unfold Supervisor.portChanged
    split
    · split
      · exact same
      · exact same.kindChanged p _
    · exact absurd rfl expected
    case h_7 => exact same.setRecord rfl rfl
    case h_8 => exact same.setRecord rfl rfl
    all_goals exact same

theorem Supervisor.MapSound.setMaintenance {u : Supervisor} (h : u.MapSound) (p : Port) (v : Bool) : (u.setMaintenance p v).MapSound :=
  h.setRecord rfl rfl

theorem Supervisor.MapSound.withRounds {u : Supervisor} (h : u.MapSound) (l : List ProcessedRound) :
    Supervisor.MapSound { u with rounds := l } := ⟨h.entry, h.shown, h.once, h.duplicate, h.formed⟩

theorem Supervisor.reset_mapSound : Supervisor.reset.MapSound := State.reset_mapSound

end Sys2Proof.Machine

namespace Sys2Proof.Machine

/-! ## Every command keeps the far-end map (R58 to R60) -/

/-- `t` follows `s` without harm to the far-end map. -/
def State.KeepsMap (s t : State) : Prop := s.sup.MapSound → t.sup.MapSound

namespace State.KeepsMap

theorem of_sup {s t : State} (h : t.sup = s.sup) : s.KeepsMap t := fun sound => h ▸ sound

theorem trans {s t u : State} (h : s.KeepsMap t) (k : t.KeepsMap u) : s.KeepsMap u := k ∘ h

/-- What follows on an effect without a change of the port supervisor. -/
theorem then_sup {s t u : State} (h : s.KeepsMap t) (k : u.sup = t.sup) : s.KeepsMap u := h.trans (of_sup k)

end State.KeepsMap

/-! ### The port supervisor -/

theorem State.takeResult_keepsMap (s : State) (p : Port) (a : Option Answer) : s.KeepsMap (s.takeResult p a) := by
  intro h
  by_cases kind : s.sup.kind p = .none
  · rw [Claims.takeResult_none kind]
    exact h
  · rw [Claims.takeResult_sup kind]
    exact h.updated p a

theorem State.drain_keepsMap (s : State) (l : List ProcessedRound) : s.KeepsMap (s.drain l) := by
  intro h
  obtain ⟨l', sup⟩ := (Claims.drain_settles s l).1.sup
  rw [sup]
  exact h.withRounds l'

theorem State.portUpdate_keepsMap (s : State) : s.KeepsMap s.portUpdate := by
  unfold State.portUpdate
  split
  · exact id
  · split
    · exact s.drain_keepsMap _
    · exact (s.takeResult_keepsMap _ _).trans (State.drain_keepsMap _ _)

theorem State.endSlot_keepsMap (s : State) : s.KeepsMap s.endSlot := by
  unfold State.endSlot
  split
  · exact id
  next r _ =>
    split
    · exact id
    · split
      · exact .of_sup (by simp only [State.setRound_frame])
      · have pointed : s.KeepsMap (s.classified (faulted r.gather) (nextRun (faulted r.gather) s.scan.faultedRun)) :=
          .of_sup (s.classified_frame _ _).1
        by_cases held : faulted r.gather = true ∧ nextRun (faulted r.gather) s.scan.faultedRun ≤ 25
        · rw [State.classifyRound_held rfl rfl held]
          exact pointed
        · rw [State.classifyRound_processed rfl rfl held]
          refine State.KeepsMap.trans ?_ (State.drain_keepsMap _ _)
          exact pointed.then_sup rfl

theorem State.changeMaintenance_sup (s : State) (p : Port) (v : Bool) : (s.changeMaintenance p v).sup = s.sup.setMaintenance p v := by
  simp only [State.changeMaintenance, State.handOver_frame, State.judgeRelays_frame]

theorem State.changeMaintenance_keepsMap (s : State) (p : Port) (v : Bool) : s.KeepsMap (s.changeMaintenance p v) := by
  intro h
  rw [s.changeMaintenance_sup]
  exact h.setMaintenance p v

theorem State.maint_keepsMap (s : State) (o : Nat) : s.KeepsMap (s.maint o).1 := by
  unfold State.maint
  dsimp only
  (repeat' split)
  case isTrue.isFalse.isFalse.isFalse => exact s.changeMaintenance_keepsMap _ _
  all_goals exact id

theorem State.release_keepsMap (s : State) (o : Nat) : s.KeepsMap (s.release o).1 := by
  unfold State.release
  dsimp only
  (repeat' split)
  case isTrue.isTrue => exact s.changeMaintenance_keepsMap _ _
  all_goals exact id

/-! ### The owner of a watched word -/

/-- A watched word of another owner than the port supervisor leaves it as it is. -/
theorem State.changed_sup (old s : State) {w : Watched} (port : ∀ p f, w ≠ .port p f) (calibration : ∀ n j, w ≠ .calibration n j) :
    (State.changed old s w).sup = s.sup := by
  cases w with
  | port p f => exact absurd rfl (port p f)
  | calibration n j => exact absurd rfl (calibration n j)
  | source l =>
    simp only [State.changed, State.retimeFrom_frame]
    split <;> simp only [State.takeDecision_frame]
  | _ => simp only [State.changed, State.judgeRelays_frame, State.groupChanged_frame, State.retimeFrom_frame]

theorem State.setHeld_sup (s : State) {w : Watched} (v : Word) (port : ∀ p f, w ≠ .port p f) (calibration : ∀ n j, w ≠ .calibration n j) :
    (s.setHeld w v).sup = s.sup := by
  cases w with
  | port p f => exact absurd rfl (port p f)
  | calibration n j => exact absurd rfl (calibration n j)
  | _ => rfl

theorem State.take_sup {s : State} {w : Watched} {v : Word} (x : Verdict) (port : ∀ p f, w ≠ .port p f)
    (calibration : ∀ n j, w ≠ .calibration n j) : (s.take w v x).sup = s.sup := by
  simp only [State.take, State.takeHeld, State.provision_frame]
  split
  · rfl
  · rw [State.changed_sup _ _ port calibration, s.setHeld_sup v port calibration]

/-- A taking of a watched word keeps the map: a port's word by its own consequences, a calibration by the histories it clears. -/
theorem State.take_keepsMap (s : State) (w : Watched) (v : Word) (x : Verdict) : s.KeepsMap (s.take w v x) := by
  intro h
  by_cases same : v = s.heldWord w
  · unfold State.take
    rw [same, s.takeHeld_same]
    simpa only [State.provision_frame] using h
  cases w with
  | port p f =>
    rw [State.take_port_sup x same]
    exact h.portChanged p f v
  | calibration n j =>
    rw [State.take_calibration_sup x same]
    exact Supervisor.MapSound.calibrationChanged
      (u := { s.sup with calibration := put s.sup.calibration n (put s.sup.calibration[n] j v) })
      ⟨h.entry, h.shown, h.once, h.duplicate, h.formed⟩ n
  | _ =>
    rw [State.take_sup x (fun _ _ => Watched.noConfusion) (fun _ _ => Watched.noConfusion)]
    exact h

theorem State.watchedWrite_keepsMap (s : State) (w : Watched) (l : Lanes) (d : Word) : s.KeepsMap (s.watchedWrite w l d) := by
  rw [s.watchedWrite_eq]
  exact State.take_keepsMap (s.memWrite _ _ _) w _ _

/-! ### The command unit -/

theorem State.handToOwner_keepsMap (s : State) (c : Command) (o n : Nat) : s.KeepsMap (s.handToOwner c o n).1 := by
  cases c with
  | maint => exact s.maint_keepsMap o
  | release => exact s.release_keepsMap o
  | _ =>
    refine .of_sup ?_
    simp only [State.handToOwner, State.storeCommand_frame, State.clearGroup_frame, State.forceRef_frame, State.setForce_frame,
      State.resume_frame, State.cutOff_frame]

theorem State.executeWord_keepsMap (s : State) (c : Command) (w : Word) : s.KeepsMap (s.executeWord c w) :=
  (s.handToOwner_keepsMap c (commandObject w) (commandChannel w)).then_sup (by simp only [State.executeWord, State.recordWord_frame])

theorem State.commandWrite_keepsMap (s : State) (w : Word) : s.KeepsMap (s.commandWrite w) := by
  unfold State.commandWrite State.newCommand
  split
  · split
    · exact .of_sup (by simp only [State.recordResult_frame])
    · split
      · exact .of_sup rfl
      · exact s.executeWord_keepsMap _ w
  · exact .of_sup (by simp only [State.block_frame])
  · exact id
  · exact .of_sup (by simp only [State.recordWord_frame])

theorem State.confirmed_keepsMap (s : State) (w : Word) : s.KeepsMap (s.confirmed w) := by
  unfold State.confirmed
  split
  · exact .of_sup rfl
  · refine .trans (t := s.settleMailbox .ready) (.of_sup ?_) (State.executeWord_keepsMap _ _ w)
    simp only [State.settleMailbox_frame]
  · exact .of_sup (by simp only [State.settleMailbox_frame])

theorem State.confirmWrite_keepsMap (s : State) (w : Word) : s.KeepsMap (s.confirmWrite w) := by
  unfold State.confirmWrite
  split
  · exact .of_sup (by simp only [State.recordWord_frame])
  · split
    · exact s.confirmed_keepsMap w
    · exact .of_sup (by simp only [State.block_frame])
  · exact id
  · exact .of_sup (by simp only [State.recordWord_frame])

/-- A restart resets the port supervisor (R63), and any other confirm is a confirming write. -/
theorem State.confirmCycle_keepsMap (s : State) (w : Word) : s.KeepsMap (s.confirmCycle w) := by
  unfold State.confirmCycle
  dsimp only
  split
  · exact fun _ => Supervisor.reset_mapSound
  · exact s.confirmWrite_keepsMap w

theorem State.triggered_keepsMap (s : State) (t : Trigger) (l : Lanes) (d : Word) : s.KeepsMap (s.triggered t l d) := by
  unfold State.triggered
  split
  · exact id
  · exact s.commandWrite_keepsMap d
  · exact s.confirmCycle_keepsMap d
  · exact .of_sup (by simp only [State.mailboxByte_frame])
  · exact .of_sup (by simp only [State.mailboxByte_frame])

/-! ### The memory path -/

theorem State.serveRunning_keepsMap (s : State) (c : Cycle) : s.KeepsMap (s.serveRunning c) := by
  have passed : s.KeepsMap (s.passCycle c) := .of_sup (by simp only [State.passCycle_frame])
  unfold State.serveRunning
  split
  · exact passed
  · split
    · exact s.watchedWrite_keepsMap _ _ _
    · exact passed
  · split
    · exact passed.trans (State.triggered_keepsMap _ _ _ _)
    · exact passed
  · split
    · exact .of_sup (by simp only [State.writeLive_frame])
    · exact .of_sup (by simp only [State.readLive_frame])
  · split
    · exact id
    · exact .of_sup (by simp only [State.readChange_frame])

theorem State.processorCycle_keepsMap (s : State) (c : Cycle) : s.KeepsMap (s.processorCycle c) := by
  unfold State.processorCycle
  split
  · exact s.serveRunning_keepsMap c
  · exact .of_sup (by simp only [State.serveStandby_frame])
  · exact .of_sup (by simp only [State.holdCycle_frame])
  · exact .of_sup (by simp only [State.holdCycle_frame])

theorem State.serve_keepsMap (s : State) (c : Cycle) : s.KeepsMap (s.serve c) := by
  unfold State.serve
  split
  · exact .of_sup (by simp only [State.holdCycle_frame])
  · exact s.processorCycle_keepsMap c

theorem State.processor_keepsMap (s : State) (c : Cycle) : s.KeepsMap (s.processor c) := by
  have served := s.processorCycle_keepsMap c
  unfold State.processor
  split
  · split
    · exact served.then_sup (by simp only [State.grantAfresh_frame])
    · exact .of_sup (by simp only [State.holdCycle_frame])
  · exact served.then_sup (by simp only [State.eventDone_frame])

/-- A master cycle's command keeps the map if its effect does: the cycles held that meet the free port keep it. -/
theorem State.KeepsMap.finishMaster {s u t : State} {due : Bool} (h : s.KeepsMap u) (e : u.finishMaster due = .next t) : s.KeepsMap t := by
  unfold State.finishMaster at e
  cases e
  split
  · refine (h.trans fun sound => ?_).then_sup (u := u.serveHeld.grantAfresh) (t := u.serveHeld) (by simp only [State.grantAfresh_frame])
    exact State.serveHeld_keeps (I := fun s => s.sup.MapSound) (fun _ _ h => h) State.serve_keepsMap u sound
  · exact h.then_sup (by simp only [State.eventDone_frame])

theorem State.KeepsMap.finish {s u t : State} (h : s.KeepsMap u) (e : u.finish = .next t) : s.KeepsMap t := by
  cases e
  exact h.then_sup (by simp only [State.eventDone_frame])

theorem State.beginRunning_sup (s : State) : s.beginRunning.sup = s.sup := by
  unfold State.beginRunning
  simp only [State.completeRestart_frame, State.startRing_frame, State.beginRound_frame, State.timingStart_frame, foldl_sup,
    State.adoptGroup_frame, State.adoptElements_frame, State.setPoint_frame, implies_true]

theorem State.loaderNext_keepsMap (s : State) : s.KeepsMap s.loaderNext := by
  rcases s.loaderNext_cases with ⟨-, e⟩ | ⟨-, e⟩ <;> rw [e]
  · exact .of_sup (State.beginRunning_sup _)
  · exact .of_sup rfl

theorem State.loadWord_keepsMap (s : State) : s.KeepsMap s.loadWord := by
  by_cases op : s.path.op = .loading
  · rcases s.loadWord_cases op with ⟨e, -⟩ | ⟨w, v, -, -, -, ⟨-, e⟩ | ⟨-, e⟩⟩ <;> rw [e]
    · exact id
    · exact (s.take_keepsMap w v _).trans (State.loaderNext_keepsMap _)
    · exact .of_sup rfl
  · rw [State.loadWord_idle op]
    exact id

theorem State.writeBackWord_keepsMap (s : State) : s.KeepsMap s.writeBackWord := by
  by_cases op : s.path.op = .loading
  · rcases s.writeBackWord_cases op with ⟨-, e⟩ | ⟨b, -, e⟩ <;> rw [e]
    · exact id
    · exact (State.take_keepsMap (s.memWrite _ _ _) _ _ _).trans (State.loaderNext_keepsMap _)
  · rw [State.writeBackWord_idle op]
    exact id

theorem State.endStartCheck_sup (s : State) : s.endStartCheck.sup = s.sup := by
  unfold State.endStartCheck
  dsimp only
  (repeat' split) <;> simp only [State.enterLoading_frame, State.enterStandby, State.setPoint_frame, State.enterAllAlarm_frame,
    State.handRingFormat_frame]

theorem State.readBack_sup (s : State) : s.readBack.sup = s.sup := by
  unfold State.readBack
  dsimp only
  (repeat' split) <;> simp only [State.enterLoading_frame]

/-! ### Every command -/

theorem exec_keepsMap {c : Instr} {s t : State} (h : exec c s = .next t) : s.KeepsMap t := by
  cases hy : cycleOf c with
  | some y =>
    rw [exec_of_cycleOf hy] at h
    cases h
    exact s.processor_keepsMap y
  | none =>
    cases c with
    | powerOn x => cases h; exact fun _ => Supervisor.reset_mapSound
    | startCheck => exact .finishMaster (.of_sup s.endStartCheck_sup) h
    | loaderRead => exact s.loadWord_keepsMap.finishMaster h
    | loaderWriteBack => exact s.writeBackWord_keepsMap.finishMaster h
    | imageReadyReadBack => exact .finishMaster (.of_sup s.readBack_sup) h
    | descriptorWord0Read => exact .finishMaster (.of_sup (by simp only [State.readWord0_frame])) h
    | descriptorWordWrite => exact .finishMaster (.of_sup (by simp only [State.writeWord_frame])) h
    | descriptorWord0Write => exact .finishMaster (.of_sup (by simp only [State.writeWord0_frame])) h
    | portSlotEnd => exact s.endSlot_keepsMap.finish h
    | portUpdate => exact s.portUpdate_keepsMap.finish h
    | confirmWindowExpiry => exact .finish (.of_sup (by simp only [State.windowExpire_frame])) h
    | shelfTimeAdvance => exact .finish (.of_sup (by simp only [State.advanceShelfTime_frame])) h
    | scanRoundStart => exact .finish (.of_sup (by simp only [State.startRound_frame])) h
    | portSlotStart => exact .finish (.of_sup (by simp only [State.startSlot_frame])) h
    | moduleAnswer k a => exact .finish (.of_sup (by simp only [State.takeAnswer_frame])) h
    | holdOffExpiry g k => exact .finish (.of_sup (by simp only [State.holdOffExpire_frame])) h
    | restoreWaitExpiry g => exact .finish (.of_sup (by simp only [State.restoreWaitExpire_frame])) h
    | confirmationTimerExpiry g => exact .finish (.of_sup (by simp only [State.confirmationExpire_frame])) h
    | senseChange e x => exact .finish (.of_sup (by simp only [State.senseChange_frame])) h
    | travelTimerExpiry e => exact .finish (.of_sup (by simp only [State.travelExpire_frame])) h
    | settleTimerExpiry l => exact .finish (.of_sup (by simp only [State.settleExpire_frame])) h
    | slotPulse i => exact .finish (.of_sup (by simp only [State.takePulse_frame])) h
    | lossWindowExpiry i => exact .finish (.of_sup (by simp only [State.lossExpire_frame])) h
    | gateComplete i n => exact .finish (.of_sup (by simp only [State.completeGate_frame])) h
    | gateOverrun i => exact .finish (.of_sup (by simp only [State.abandonGate_frame])) h
    | qualifyTimerExpiry i => exact .finish (.of_sup (by simp only [State.qualifyExpire_frame])) h
    | acoInput => exact .finish (.of_sup (by simp only [State.cutOff_frame])) h
    | _ => cases hy

end Sys2Proof.Machine

namespace Sys2Proof.Proofs
open Sys2Proof.Machine

/-- Settles O53: every command's effect on the port supervisor is traced to the operations on one port, each of which keeps the map. -/
theorem farEndMapKept : Obligations.FarEndMapKept := by
  intro s t sound h
  unfold step at h
  split at h
  · cases h
    exact sound
  next c rest _ => exact exec_keepsMap h sound

end Sys2Proof.Proofs

namespace Sys2Proof.Machine

/-! ## The command word and its form check (R127, R187) -/

theorem commandWord_toNat {code : Nat} (h : code < 16) (o : BitVec 6) (k x : BitVec 3) :
    (commandWord code o k x).toNat = code + 16 * o.toNat + 1024 * k.toNat + 8192 * x.toNat :=
  wordOf_toNat (by omega)

/-- The fields of a command word are the ones it was laid out from. -/
theorem commandWord_fields {code : Nat} (h : code < 16) (o : BitVec 6) (k x : BitVec 3) :
    commandCode (commandWord code o k x) = code ∧ commandObject (commandWord code o k x) = o.toNat
    ∧ commandChannel (commandWord code o k x) = k.toNat ∧ commandSpare (commandWord code o k x) = x.toNat := by
  simp only [commandCode, commandObject, commandChannel, commandSpare, bits, commandWord_toNat h]
  omega

/-- A word that passes the form check carries the code of its command. -/
theorem commandCode_of_formCheck {w : Word} {c : Command} (h : formCheck w = some c) : commandCode w = c.code := by
  unfold formCheck at h
  split at h
  · cases h
  next found =>
    split at h
    · cases h
      unfold commandOf at found
      have named := List.find?_some found
      exact (of_decide_eq_true named).symm
    · cases h

theorem codeField_of_formCheck {w : Word} {c : Command} (h : formCheck w = some c) : w.extractLsb' 0 4 = BitVec.ofNat 4 c.code := by
  rw [← commandCode_of_formCheck h]
  apply BitVec.eq_of_toNat_eq
  simp [commandCode, bits]

/-- RELEASE with its channel and spare fields zero is in its right form. -/
theorem formCheck_release (o : BitVec 6) : formCheck (commandWord 8 o 0 0) = some .release := by
  obtain ⟨code, -, channel, spare⟩ := commandWord_fields (code := 8) (by decide) o 0 0
  unfold formCheck
  rw [code, channel, spare]
  rfl

end Sys2Proof.Machine

namespace Sys2Proof.Claims
open Sys2Proof.Machine

/-! ## A command executed: its owner's effect, and its result recorded (R134, R135) -/

/-- A result recorded, on a state whose completion count is still the one before. -/
theorem recordResult_recorded {s u : State} (count : u.mailbox.count = s.mailbox.count) (c : BitVec 4) (o : Nat) (r : CommandResult) :
    Recorded s (u.recordResult c o r) c o r := by
  obtain ⟨mailbox, alarm, poster⟩ := u.recordResult_mailbox c o r
  unfold Recorded LastEvent
  rw [mailbox, alarm, poster]
  refine ⟨rfl, rfl, congrArg (· + 1) count, ?_, rfl⟩
  rcases u.putEvent_cases o (.command c r) with ⟨-, e⟩ | ⟨-, e⟩ <;> rw [e]
  · exact .inl (by simp)
  · exact .inr rfl

theorem Recorded.regranted {s u t : State} {c : BitVec 4} {o : Nat} {r : CommandResult} (h : Recorded s u c o r) (g : Regranted u t) :
    Recorded s t c o r := by
  obtain ⟨g, rfl⟩ := g
  exact h

/-- Recording a result touches the mailbox, the alarm unit and the poster alone. -/
theorem recordResult_only (u : State) (c : BitVec 4) (o : Nat) (r : CommandResult) :
    ∃ m a p, u.recordResult c o r = { u with mailbox := m, alarm := a, poster := p } := by
  unfold State.recordResult
  dsimp only
  rcases State.putEvent_cases { u with mailbox := { u.mailbox with lastResult := r, lastCode := c, count := u.mailbox.count + 1 } }
    o (.command c r) with ⟨-, e⟩ | ⟨-, e⟩ <;> rw [e] <;> exact ⟨_, _, _, rfl⟩

/-- `t` is `u`, which the owner of a command left, with the command's result recorded and the mailbox READY: but for the mailbox,
the events and COMMAND-DONE, and the grant that follows, nothing else changes (R134). -/
structure Executed (s u t : State) (code : BitVec 4) (object : Nat) (r : CommandResult) : Prop where
  recorded : Recorded s t code object r
  ready    : t.mailbox.state = .ready
  rest     : ∃ g m a p, a.raised = u.alarm.raised
    ∧ t = { u with path := { u.path with grant := g }, mailbox := m, alarm := a, poster := p }

namespace Executed

variable {s u t : State} {code : BitVec 4} {object : Nat} {r : CommandResult}

theorem sup (h : Executed s u t code object r) : t.sup = u.sup := by
  obtain ⟨g, m, a, p, -, rfl⟩ := h.rest
  rfl

theorem blocks (h : Executed s u t code object r) :
    t.scan = u.scan ∧ t.sup = u.sup ∧ t.group = u.group ∧ t.driver = u.driver ∧ t.timing = u.timing := by
  obtain ⟨g, m, a, p, -, rfl⟩ := h.rest
  exact ⟨rfl, rfl, rfl, rfl, rfl⟩

theorem pointRaised (h : Executed s u t code object r) (q : Point) : t.pointRaised q = u.pointRaised q := by
  obtain ⟨g, m, a, p, raised, rfl⟩ := h.rest
  exact congrArg (·.getLsbD q.index) raised

/-- An owner that changed nothing leaves a command's word in memory and its result. -/
theorem mailboxOnly {offset : Nat} {l : Lanes} {d : Word} {m : Mailbox}
    (h : Executed s { wrote s offset l d with mailbox := m } t code object r) : MailboxOnly s t offset l d := by
  obtain ⟨g, m', a, p, -, e⟩ := h.rest
  exact ⟨m', a, p, g, e⟩

end Executed

/-- Executing a command word leaves the state of the mailbox to the exchange. -/
theorem executeWord_state (v : State) (c : Command) (w : Word) : (v.executeWord c w).mailbox.state = v.mailbox.state := by
  unfold State.executeWord State.recordWord
  rw [(State.recordResult_mailbox _ _ _ _).1]
  simp only [State.handToOwner_frame]

/-- The owner's answer to a command word is what its execution records (R134, R135). -/
theorem executeWord_executed {s v u t : State} {c : Command} {w : Word} {r : CommandResult} (form : formCheck w = some c)
    (answer : v.handToOwner c (commandObject w) (commandChannel w) = (u, r)) (ready : v.mailbox.state = .ready)
    (count : v.mailbox.count = s.mailbox.count) (h : Regranted (v.executeWord c w) t) :
    Executed s u t (BitVec.ofNat 4 c.code) (commandObject w) r := by
  have executed : v.executeWord c w = u.recordResult (BitVec.ofNat 4 c.code) (commandObject w) r := by
    unfold State.executeWord State.recordWord
    rw [answer, codeField_of_formCheck form]
  have mailbox : u.mailbox = v.mailbox := by
    obtain ⟨-, -, -, mailbox⟩ := v.handToOwner_frame c (commandObject w) (commandChannel w)
    rwa [answer] at mailbox
  have state := (executeWord_state v c w).trans ready
  obtain ⟨-, alarm, -⟩ := u.recordResult_mailbox (BitVec.ofNat 4 c.code) (commandObject w) r
  have recorded := recordResult_recorded (s := s) (u := u) (by rw [mailbox, count]) (BitVec.ofNat 4 c.code) (commandObject w) r
  rw [executed] at h state
  obtain ⟨m, a, p, only⟩ := recordResult_only u (BitVec.ofNat 4 c.code) (commandObject w) r
  refine ⟨recorded.regranted h, ?_, ?_⟩ <;> obtain ⟨g, rfl⟩ := h
  · exact state
  · rw [only] at alarm ⊢
    exact ⟨g, m, a, p, (congrArg Alarm.raised alarm :), rfl⟩

/-- A direct command in its right form, written in READY with the memory port free, is executed at once (R128). -/
theorem command_executed {s u : State} {i : Instr} {c : Command} {w : Word} {r : CommandResult}
    (row : cycleOf i = some (writeCycle (.trigger (.mailbox .command)) .word w)) (op : s.path.op = .running) (free : PortFree s)
    (ready : s.mailbox.state = .ready) (form : formCheck w = some c) (direct : c.operate = false)
    (answer : (wrote s 0x20 .word w).handToOwner c (commandObject w) (commandChannel w) = (u, r)) :
    ∃ t, exec i s = .next t ∧ Executed s u t (BitVec.ofNat 4 c.code) (commandObject w) r := by
  obtain ⟨t, run, served⟩ := exec_served row (s := s) fun _ => free
  refine ⟨t, run, executeWord_executed form answer ready rfl ?_⟩
  have written : (wrote s 0x20 .word w).commandWrite w = (wrote s 0x20 .word w).executeWord c w := by
    unfold State.commandWrite State.newCommand
    rw [show (wrote s 0x20 .word w).mailbox.state = .ready from ready, form]
    simp only [direct, Bool.false_eq_true, if_false]
  rw [s.processorCycle_running _ op] at served
  exact written ▸ served

/-- A confirm of the pending command, other than RESTART, with the memory port free executes it (R129). -/
theorem confirm_executed {s u : State} {c : Command} {w : Word} {r : CommandResult} (op : s.path.op = .running) (free : PortFree s)
    (awaits : s.mailbox.state = .awaitConfirm) (pending : s.mailbox.pending = some w) (form : formCheck w = some c)
    (other : c ≠ .restart)
    (answer : ((wrote s 0x21 .word w).settleMailbox .ready).handToOwner c (commandObject w) (commandChannel w) = (u, r)) :
    ∃ t, exec (.confirm w) s = .next t ∧ Executed s u t (BitVec.ofNat 4 c.code) (commandObject w) r := by
  obtain ⟨t, run, served⟩ := exec_served (c := .confirm w) rfl (s := s) fun _ => free
  refine ⟨t, run, executeWord_executed form answer rfl rfl ?_⟩
  have confirmed : (wrote s 0x21 .word w).confirmWrite w = ((wrote s 0x21 .word w).settleMailbox .ready).executeWord c w := by
    unfold State.confirmWrite State.confirmed
    rw [show (wrote s 0x21 .word w).mailbox = s.mailbox from rfl, awaits, if_pos pending, form]
    cases c with
    | restart => exact absurd rfl other
    | _ => rfl
  have cycle : (wrote s 0x21 .word w).confirmCycle w = (wrote s 0x21 .word w).confirmWrite w := by
    refine if_neg fun ⟨_, executing⟩ => ?_
    rw [confirmed, executeWord_state] at executing
    cases executing
  rw [s.processorCycle_running _ op] at served
  rw [← confirmed, ← cycle]
  exact served

end Sys2Proof.Claims

namespace Sys2Proof.Machine

/-! ## Maintenance (R70, R71) -/

theorem Supervisor.setMaintenance_record (u : Supervisor) (p : Port) (v : Bool) :
    (u.setMaintenance p v).record[p] = { u.record[p] with maintenance := v } := u.setRecord_record p _

theorem Supervisor.setMaintenance_other (u : Supervisor) {p q : Port} (v : Bool) (n : q ≠ p) :
    (u.setMaintenance p v).record[q] = u.record[q] := u.setRecord_other _ n

/-- Maintenance set to what it is. -/
theorem Supervisor.setMaintenance_same {u : Supervisor} {p : Port} {v : Bool} (h : u.record[p].maintenance = v) :
    u.setMaintenance p v = u := by
  subst h
  exact u.setRecord_same p

theorem State.release_invalid {s : State} {o : Nat} (h : 24 ≤ o) : s.release o = (s, .refusedInvalid) := dif_neg (by omega)

/-- RELEASE of a port clears its maintenance, and does nothing where it is clear (R71). -/
theorem State.release_done (s : State) (p : Port) : ∃ u, s.release p = (u, .done) ∧ u.sup = s.sup.setMaintenance p false
    ∧ (s.sup.record[p].maintenance = false → u = s) := by
  unfold State.release
  rw [dif_pos p.isLt]
  dsimp only
  split
  next held => exact ⟨_, rfl, s.changeMaintenance_sup p false, fun clear => absurd held (by rw [clear]; nofun)⟩
  next clear => exact ⟨s, rfl, (Supervisor.setMaintenance_same (by simpa using clear)).symm, fun _ => rfl⟩

theorem State.protectInUse_iff {s : State} {p : Port} : s.protectInUse p = true ↔ ∃ (g : GroupId) (e : ElementId),
    GroupConfig.protect s.group[g].config = some p ∧ GroupConfig.selector s.group[g].config = some e
    ∧ (s.element e).commanded ≠ 0 := by
  simp [State.protectInUse, Option.any_eq_true]

theorem State.maint_invalid {s : State} {o : Nat} (h : 24 ≤ o) : s.maint o = (s, .refusedInvalid) := dif_neg (by omega)

/-- MAINT is refused for an unmonitored port and for a protect port in use (R70). -/
theorem State.maint_refused {s : State} {p : Port} (h : s.sup.kind p = .none ∨ s.protectInUse p = true) :
    s.maint p = (s, .refusedState) := by
  unfold State.maint
  rw [dif_pos p.isLt]
  dsimp only
  split
  · rfl
  next monitored => exact if_pos (h.resolve_left monitored)

/-- MAINT of any other port sets its maintenance, and does nothing where it is set (R70). -/
theorem State.maint_done {s : State} {p : Port} (monitored : s.sup.kind p ≠ .none) (unused : ¬ s.protectInUse p = true) :
    ∃ u, s.maint p = (u, .done) ∧ u.sup = s.sup.setMaintenance p true := by
  unfold State.maint
  rw [dif_pos p.isLt, if_neg monitored, if_neg unused]
  split
  next set => exact ⟨s, rfl, (Supervisor.setMaintenance_same set).symm⟩
  · exact ⟨_, rfl, s.changeMaintenance_sup p true⟩

end Sys2Proof.Machine

namespace Sys2Proof.Proofs
open Sys2Proof.Machine Sys2Proof.Claims

/-- Settles O24: the owner's answer to RELEASE, executed. -/
theorem releaseCommand : Obligations.ReleaseCommand := by
  intro o s op free ready
  obtain ⟨-, object, -, -⟩ := commandWord_fields (code := 8) (by decide) o 0 0
  have executed {u : State} {r : CommandResult} (answer : (wrote s 0x20 .word (commandWord 8 o 0 0)).release o.toNat = (u, r)) :
      ∃ t, exec (.release o 0 0) s = .next t ∧ Executed s u t 8 o.toNat r := by
    have run := command_executed (i := .release o 0 0) (w := commandWord 8 o 0 0) (u := u) (r := r) rfl op free ready
      (formCheck_release o) rfl (by rw [object]; exact answer)
    rwa [object] at run
  refine ⟨fun above => ?_, fun p at_ => ?_⟩
  · obtain ⟨t, run, h⟩ := executed (State.release_invalid above)
    exact ⟨t, run, h.recorded, h.ready, h.mailboxOnly⟩
  · obtain ⟨u, answer, sup, clear⟩ := (wrote s 0x20 .word (commandWord 8 o 0 0)).release_done p
    rw [at_] at answer
    obtain ⟨t, run, h⟩ := executed answer
    refine ⟨t, run, at_ ▸ h.recorded, h.ready, ?_, fun q n => ?_, ?_, ?_, fun same => ?_⟩
    · rw [h.sup, sup]
      exact s.sup.setMaintenance_record p false
    · rw [h.sup, sup]
      exact s.sup.setMaintenance_other false n
    · rw [h.sup, sup]
      rfl
    · rw [h.sup, sup]
      rfl
    · rw [clear same] at h
      exact h.mailboxOnly

end Sys2Proof.Proofs

namespace Sys2Proof.Machine

/-! ## The selector and the generator at a step (R150, R155 to R157) -/

theorem Timing.loss_kept (t : Timing) : t.loss.slot = t.slot ∧ t.loss.forced = t.forced ∧ t.loss.selected = t.selected := by
  unfold Timing.loss
  dsimp only
  split <;> exact ⟨rfl, rfl, rfl⟩

/-- The generator takes the selection it follows, and touches neither the slots nor the force. -/
theorem Timing.follow_kept (t : Timing) (new : Option SlotId) (settling : Bool) : (t.follow new settling).slot = t.slot
    ∧ (t.follow new settling).forced = t.forced ∧ (t.follow new settling).selected = new := by
  unfold Timing.follow
  dsimp only
  (repeat' split)
  case h_1.isTrue => exact Timing.loss_kept _
  all_goals exact ⟨rfl, rfl, rfl⟩

/-- The generator is locking or locked to a slot (R152). -/
theorem GenState.tracking_iff (g : GenState) : g.tracking = true ↔ g = .acquiring ∨ g = .locked ∨ g = .lockedFine := by
  cases g <;> simp [GenState.tracking]

/-- With no slot selected a generator that tracks or bridges takes the loss rule (R157). -/
theorem Timing.follow_lost {t : Timing} (settling : Bool)
    (h : (t.gen = .acquiring ∨ t.gen = .locked ∨ t.gen = .lockedFine) ∨ t.gen = .bridging) :
    t.follow none settling = Timing.loss { t with selected := none } := by
  refine if_pos ?_
  rw [Bool.or_eq_true, GenState.tracking_iff, decide_eq_true_eq]
  exact h

theorem Timing.follow_idle {t : Timing} (settling : Bool) (h : t.gen = .freeRun ∨ t.gen = .holdover) :
    t.follow none settling = { t with selected := none } := by
  refine if_neg ?_
  rcases h with h | h <;> rw [h] <;> decide

/-- A slot newly selected, or selected from FREE-RUN or HOLDOVER, is acquired (R155). -/
theorem Timing.follow_new {t : Timing} (settling : Bool) {i : SlotId}
    (h : (t.gen = .freeRun ∨ t.gen = .holdover) ∨ t.selected ≠ some i) :
    t.follow (some i) settling = Timing.acquire { t with selected := some i } := by
  unfold Timing.follow
  dsimp only
  split
  · rfl
  next busy =>
    have idle : ¬ (t.gen = .freeRun ∨ t.gen = .holdover) := by simpa using busy
    rw [if_pos (Ne.symm (h.resolve_left idle))]

/-- A generator that tracks goes on while its slot is not SETTLING, and else enters BRIDGING (R156). -/
theorem Timing.follow_tracking {t : Timing} (settling : Bool) {i : SlotId} (same : t.selected = some i)
    (h : t.gen = .acquiring ∨ t.gen = .locked ∨ t.gen = .lockedFine) :
    t.follow (some i) settling = if settling then t.bridge else t := by
  have kept : { t with selected := some i } = t := by rw [← same]
  unfold Timing.follow
  dsimp only
  rw [kept, same]
  rcases h with h | h | h <;> simp [h]

/-- BRIDGING lasts while the slot is SETTLING, and then returns to the noted state (R156). -/
theorem Timing.follow_bridging {t : Timing} (settling : Bool) {i : SlotId} (same : t.selected = some i) (h : t.gen = .bridging) :
    t.follow (some i) settling = if settling then t else t.unbridge := by
  have kept : { t with selected := some i } = t := by rw [← same]
  unfold Timing.follow
  dsimp only
  rw [kept, same]
  simp [h]

/-- The loss rule (R157): the newest history entry is dropped, and the rest gives the offset of HOLDOVER. -/
theorem Timing.loss_rule (t : Timing) : (t.loss.partialCount = 0 ∧ t.loss.partialSum = 0) ∧ t.loss.history = t.history.tail
    ∧ (t.history.tail = [] → t.loss.gen = .freeRun ∧ t.loss.offset = 0)
    ∧ (t.history.tail ≠ [] → t.loss.gen = .holdover ∧ t.loss.offset = meanToZero t.history.tail) := by
  unfold Timing.loss
  dsimp only
  split
  next empty => exact ⟨⟨rfl, rfl⟩, rfl, fun _ => ⟨rfl, rfl⟩, fun n => absurd empty n⟩
  next rest => exact ⟨⟨rfl, rfl⟩, rfl, fun e => absurd e rest, fun _ => ⟨rfl, rfl⟩⟩

end Sys2Proof.Machine

namespace Sys2Proof.Claims
open Sys2Proof.Machine

/-- The generator's own rules are the ones a step is to follow (R155 to R157), where it is told rightly whether the selected slot is
SETTLING. -/
theorem follows_follow (t : Timing) (new : Option SlotId) (settling : Bool)
    (told : ∀ i, new = some i → (settling = true ↔ t.slot[i].state = .settling)) : Follows t (t.follow new settling) := by
  obtain ⟨slot, -, selected⟩ := t.follow_kept new settling
  unfold Follows
  dsimp only
  rw [slot, selected]
  refine ⟨fun i e new => ?_, fun i e same tracks => ?_, fun i e same bridging => ?_, fun e lost => ?_, fun e idle => ?_⟩ <;> subst e
  · rw [Timing.follow_new settling new]
    exact ⟨rfl, rfl, ⟨rfl, rfl⟩, rfl, rfl⟩
  · rw [Timing.follow_tracking settling same tracks]
    refine ⟨fun s => ?_, fun n => ?_⟩
    · rw [if_pos ((told i rfl).mpr s)]
      exact ⟨rfl, rfl, ⟨rfl, rfl⟩, rfl, rfl⟩
    · rw [if_neg (n ∘ (told i rfl).mp)]
      exact ⟨rfl, rfl, ⟨rfl, rfl⟩, rfl, rfl⟩
  · rw [Timing.follow_bridging settling same bridging]
    refine ⟨fun s => ?_, fun g n noted => ?_⟩
    · rw [if_pos ((told i rfl).mpr s)]
      exact ⟨bridging, rfl, rfl, rfl⟩
    · rw [if_neg (n ∘ (told i rfl).mp)]
      exact ⟨by simp [Timing.unbridge, noted], rfl, rfl, rfl⟩
  · rw [Timing.follow_lost settling lost]
    exact Timing.loss_rule _
  · rw [Timing.follow_idle settling idle]
    exact ⟨rfl, rfl, rfl⟩

theorem eligible_iff {s : State} {i : SlotId} : s.eligible i = true ↔ Eligible s.timing.selected s.timing i := by
  unfold State.eligible
  rw [Bool.or_eq_true, Bool.and_eq_true]
  exact or_congr decide_eq_true_iff (and_congr decide_eq_true_iff decide_eq_true_iff)

theorem ranksBefore_iff {s : State} {i j : SlotId} : s.ranksBefore i j = true ↔
    slotPriority s.timing.config[i] < slotPriority s.timing.config[j]
    ∨ (slotPriority s.timing.config[i] = slotPriority s.timing.config[j] ∧ i.val < j.val) := by
  simp [State.ranksBefore]

/-- Of two slots one at most ranks before the other. -/
theorem ranksBefore_asymm {s : State} {i j : SlotId} (h : s.ranksBefore i j = true) : ¬ s.ranksBefore j i = true := by
  rw [ranksBefore_iff] at h ⊢
  omega

/-- The best slot is the eligible one that ranks before every other (R150). -/
theorem bestSlot_iff {s : State} {i : SlotId} :
    s.bestSlot = some i ↔ s.eligible i = true ∧ ∀ j, s.eligible j = true → j ≠ i → s.ranksBefore i j = true := by
  have best (i : SlotId) : (s.eligible i && (List.finRange 4).all fun j => j = i || !s.eligible j || s.ranksBefore i j) = true
      ↔ s.eligible i = true ∧ ∀ j, s.eligible j = true → j ≠ i → s.ranksBefore i j = true := by
    simp only [Bool.and_eq_true, List.all_eq_true, List.mem_finRange, true_imp_iff, Bool.or_eq_true, decide_eq_true_eq,
      Bool.not_eq_true', ← Bool.not_eq_true]
    exact and_congr_right fun _ => forall_congr' fun j => by tauto
  unfold State.bestSlot
  rw [firstWhere_eq_some, best]
  refine and_iff_left_of_imp fun ⟨eligible, first⟩ j other => ?_
  obtain ⟨eligible', first'⟩ := (best j).mp other
  by_cases e : j = i
  · exact e ▸ le_rfl
  · exact absurd (first' i eligible (Ne.symm e)) (ranksBefore_asymm (first j eligible' e))

/-- The selection a step leaves is the one R150 gives. -/
theorem selects_reselect (s : State) : Selects s.timing.selected s.reselect.timing := by
  obtain ⟨slot, forced, selected⟩ := s.timing.follow_kept s.selection (s.selection.any fun i => (s.slot i).state = .settling)
  have config : s.reselect.timing.config = s.timing.config := congrArg Prod.fst (Timing.follow_table s.timing _ _)
  have eligible (i : SlotId) : Eligible s.timing.selected s.reselect.timing i ↔ s.eligible i = true := by
    rw [eligible_iff, Eligible, Eligible, show s.reselect.timing.slot = s.timing.slot from slot]
  unfold Selects
  simp only [eligible, config]
  rw [show s.reselect.timing.selected = s.selection from selected, show s.reselect.timing.forced = s.timing.forced from forced]
  unfold State.selection
  refine ⟨fun f force => ?_, fun unforced i => ?_⟩
  · rw [force]
    exact ⟨fun e => if_pos e, fun n => if_neg n⟩
  · rw [unforced]
    exact bestSlot_iff.trans (and_congr_right fun _ => forall_congr' fun _ => forall₂_congr fun _ _ => ranksBefore_iff)

/-- The generator follows the selection, told rightly of a SETTLING slot. -/
theorem follows_reselect (s : State) : Follows s.timing s.reselect.timing :=
  follows_follow s.timing _ _ fun i e => by
    rw [e, Option.any_some]
    exact decide_eq_true_iff

/-! ## A force stored or removed (R137, R151) -/

/-- A force stored or removed is a step of the timing unit: the slots' states, the selection and the generator. -/
theorem setForce_timing (s : State) (f : Option SlotId) :
    (s.setForce f).timing = (State.decideSlots { s with timing := { s.timing with forced := f } }).reselect.timing := by
  unfold State.setForce State.retimeFrom
  simp only [State.timingAlarms_frame, State.timingEvent_frame]

theorem setForce_selects (s : State) (f : Option SlotId) : Selects s.timing.selected (s.setForce f).timing := by
  rw [setForce_timing]
  exact selects_reselect (State.decideSlots { s with timing := { s.timing with forced := f } })

theorem setForce_follows (s : State) (f : Option SlotId) : Follows s.timing (s.setForce f).timing := by
  rw [setForce_timing]
  exact follows_reselect (State.decideSlots { s with timing := { s.timing with forced := f } })

theorem setForce_forced (s : State) (f : Option SlotId) : (s.setForce f).timing.forced = f := by
  obtain ⟨-, forced, -⟩ := Timing.follow_kept (State.decideSlots { s with timing := { s.timing with forced := f } }).timing _ _
  rw [setForce_timing]
  exact forced

theorem setForce_points (s : State) (f : Option SlotId) : TimingPoints (s.setForce f) := by
  unfold State.setForce State.retimeFrom
  exact timingPoints_timingAlarms _

/-- With a force stored the selection is the forced slot or none (R150). -/
theorem Selects.forced {before : Option SlotId} {t : Timing} {i : SlotId} (h : Selects before t) (force : t.forced = some i) :
    t.selected = none ∨ t.selected = some i := by
  obtain ⟨taken, refused⟩ := h.1 i force
  by_cases eligible : Eligible before t i
  · exact .inr (taken eligible)
  · exact .inl (refused eligible)

theorem slotDisabled_iff {s : State} {i : SlotId} : s.slotDisabled i = true ↔ s.timing.config[i][0].toNat % 8 = 0 := by
  simp [State.slotDisabled, slotPriority, bits]

theorem forceRef_invalid {s : State} {o : Nat} (h : 4 ≤ o) : s.forceRef o = (s, .refusedInvalid) := dif_neg (by omega)

theorem forceRef_refused {s : State} {i : SlotId} (h : s.slotDisabled i = true) : s.forceRef i = (s, .refusedState) :=
  (dif_pos i.isLt).trans (if_pos h)

theorem forceRef_stores {s : State} {i : SlotId} (h : ¬ s.slotDisabled i = true) : s.forceRef i = (s.setForce (some i), .done) :=
  (dif_pos i.isLt).trans (if_neg h)

/-- The timing points are what the owner of a command left them. -/
theorem Executed.timingPoints {s u t : State} {code : BitVec 4} {object : Nat} {r : CommandResult} (h : Executed s u t code object r)
    (points : TimingPoints u) : TimingPoints t := by
  obtain ⟨-, -, -, -, timing⟩ := h.blocks
  exact points.congr timing (fun _ _ => h.pointRaised _) fun _ => h.pointRaised _

/-! ## A confirmed MAINT and a confirmed FORCE-REF (R70, R137) -/

/-- A confirmed MAINT, by its tests in their order (R70). -/
theorem confirm_maint {w : Word} {s : State} (op : s.path.op = .running) (free : PortFree s) (awaits : s.mailbox.state = .awaitConfirm)
    (pending : s.mailbox.pending = some w) (form : formCheck w = some .maint) :
    (24 ≤ commandObject w → ∃ t, exec (.confirm w) s = .next t ∧ Recorded s t 7 (commandObject w) .refusedInvalid
      ∧ MailboxOnly s t 0x21 .word w)
    ∧ ∀ p : Port, p.val = commandObject w →
      (s.sup.kind p = .none ∨ s.protectInUse p = true →
        ∃ t, exec (.confirm w) s = .next t ∧ Recorded s t 7 p .refusedState ∧ MailboxOnly s t 0x21 .word w)
      ∧ (s.sup.kind p ≠ .none → ¬ s.protectInUse p = true → ∃ t, exec (.confirm w) s = .next t ∧ Recorded s t 7 p .done
        ∧ t.mailbox.state = .ready ∧ t.sup = s.sup.setMaintenance p true) := by
  have executed {u : State} {r : CommandResult}
      (answer : ((wrote s 0x21 .word w).settleMailbox .ready).maint (commandObject w) = (u, r)) :
      ∃ t, exec (.confirm w) s = .next t ∧ Executed s u t 7 (commandObject w) r :=
    confirm_executed op free awaits pending form nofun answer
  refine ⟨fun above => ?_, fun p at_ => ⟨fun refused => ?_, fun monitored unused => ?_⟩⟩
  · obtain ⟨t, run, h⟩ := executed (State.maint_invalid above)
    exact ⟨t, run, h.recorded, h.mailboxOnly⟩
  · obtain ⟨t, run, h⟩ := executed (at_ ▸ State.maint_refused (s := (wrote s 0x21 .word w).settleMailbox .ready) refused)
    exact ⟨t, run, at_ ▸ h.recorded, h.mailboxOnly⟩
  · obtain ⟨u, answer, sup⟩ := State.maint_done (s := (wrote s 0x21 .word w).settleMailbox .ready) monitored unused
    rw [at_] at answer
    obtain ⟨t, run, h⟩ := executed answer
    exact ⟨t, run, at_ ▸ h.recorded, h.ready, h.sup.trans sup⟩

/-- A confirmed FORCE-REF, by its tests in their order (R137). -/
theorem confirm_forceRef {w : Word} {s : State} (op : s.path.op = .running) (free : PortFree s) (awaits : s.mailbox.state = .awaitConfirm)
    (pending : s.mailbox.pending = some w) (form : formCheck w = some .forceRef) :
    (4 ≤ commandObject w → ∃ t, exec (.confirm w) s = .next t ∧ Recorded s t 5 (commandObject w) .refusedInvalid
      ∧ MailboxOnly s t 0x21 .word w)
    ∧ ∀ i : SlotId, i.val = commandObject w →
      (s.slotDisabled i = true → ∃ t, exec (.confirm w) s = .next t ∧ Recorded s t 5 i .refusedState ∧ MailboxOnly s t 0x21 .word w)
      ∧ (¬ s.slotDisabled i = true → ∃ t, exec (.confirm w) s = .next t
        ∧ Executed s (((wrote s 0x21 .word w).settleMailbox .ready).setForce (some i)) t 5 i .done) := by
  have executed {u : State} {r : CommandResult}
      (answer : ((wrote s 0x21 .word w).settleMailbox .ready).forceRef (commandObject w) = (u, r)) :
      ∃ t, exec (.confirm w) s = .next t ∧ Executed s u t 5 (commandObject w) r :=
    confirm_executed op free awaits pending form nofun answer
  refine ⟨fun above => ?_, fun i at_ => ⟨fun disabled => ?_, fun enabled => ?_⟩⟩
  · obtain ⟨t, run, h⟩ := executed (forceRef_invalid above)
    exact ⟨t, run, h.recorded, h.mailboxOnly⟩
  · obtain ⟨t, run, h⟩ := executed (at_ ▸ forceRef_refused (s := (wrote s 0x21 .word w).settleMailbox .ready) disabled)
    exact ⟨t, run, at_ ▸ h.recorded, h.mailboxOnly⟩
  · obtain ⟨t, run, h⟩ := executed (at_ ▸ forceRef_stores (s := (wrote s 0x21 .word w).settleMailbox .ready) enabled)
    exact ⟨t, run, at_ ▸ h⟩

end Sys2Proof.Claims

namespace Sys2Proof.Proofs
open Sys2Proof.Machine Sys2Proof.Claims

/-- Settles O28: each owner's answer to the confirmed word, executed. -/
theorem confirmMaintAndForceRef : Obligations.ConfirmMaintAndForceRef := by
  intro w s op free awaits pending
  refine ⟨fun form => ?_, fun form => ?_⟩
  · obtain ⟨invalid, port⟩ := confirm_maint op free awaits pending form
    refine ⟨invalid, fun p at_ => ?_⟩
    obtain ⟨refused, done⟩ := port p at_
    rw [State.protectInUse_iff] at refused done
    refine ⟨refused, fun monitored unused => ?_⟩
    obtain ⟨t, run, recorded, ready, sup⟩ := done monitored fun ⟨g, e, protect, selector, away⟩ => away (unused g e protect selector)
    refine ⟨t, run, recorded, ready, ?_, fun q n => ?_, ?_, ?_⟩ <;> rw [sup]
    · exact s.sup.setMaintenance_record p true
    · exact s.sup.setMaintenance_other true n
    · rfl
    · rfl
  · obtain ⟨invalid, slot⟩ := confirm_forceRef op free awaits pending form
    refine ⟨invalid, fun i at_ => ?_⟩
    obtain ⟨refused, stores⟩ := slot i at_
    rw [slotDisabled_iff] at refused stores
    refine ⟨refused, fun enabled => ?_⟩
    obtain ⟨t, run, h⟩ := stores enabled
    obtain ⟨scan, sup, group, driver, timing⟩ := h.blocks
    obtain ⟨-, -, -, -, scan', sup', group', driver'⟩ := ((wrote s 0x21 .word w).settleMailbox .ready).setForce_frame (some i)
    have selects := setForce_selects ((wrote s 0x21 .word w).settleMailbox .ready) (some i)
    have forced := setForce_forced ((wrote s 0x21 .word w).settleMailbox .ready) (some i)
    have follows := setForce_follows ((wrote s 0x21 .word w).settleMailbox .ready) (some i)
    rw [← timing] at selects forced follows
    exact ⟨t, run, h.recorded, forced, selects, selects.forced forced, follows, h.timingPoints (setForce_points _ _),
      scan.trans scan', sup.trans sup', group.trans group', driver.trans driver'⟩

end Sys2Proof.Proofs

namespace Sys2Proof.Machine

/-! ## The highest of a group's requests (R79, R89) -/

theorem Request.beats_iff {a b : Request} : a.beats b = true
    ↔ b.level.val < a.level.val ∨ (a.level = b.level ∧ a.channel.val < b.channel.val) := by
  simp [Request.beats]

/-- A request that another does not beat stands at least as high. -/
theorem Request.not_beats_iff {a b : Request} : ¬ a.beats b = true
    ↔ a.level.val < b.level.val ∨ (a.level = b.level ∧ b.channel.val ≤ a.channel.val) := by
  rw [Request.beats_iff, Fin.ext_iff]
  omega

theorem Request.not_beats_trans {a b c : Request} (h : ¬ a.beats b = true) (k : ¬ b.beats c = true) : ¬ a.beats c = true := by
  rw [Request.not_beats_iff, Fin.ext_iff] at h k ⊢
  omega

/-- No request of the list beats the one the walk ends with, nor does the one it began with. -/
theorem topRequest_foldl_greatest (l : List Request) (b : Request) :
    ∀ x ∈ b :: l, ¬ x.beats (l.foldl (fun best x => if x.beats best then x else best) b) = true := by
  induction l generalizing b with
  | nil =>
    intro x mem
    rw [List.mem_singleton] at mem
    rw [List.foldl_nil, mem, Request.not_beats_iff]
    exact .inr ⟨rfl, le_rfl⟩
  | cons y l ih =>
    intro x mem
    rw [List.foldl_cons]
    have best := ih (if y.beats b then y else b) _ List.mem_cons_self
    rcases List.mem_cons.mp mem with rfl | mem
    · refine Request.not_beats_trans ?_ best
      split
      next higher => rw [Request.beats_iff] at higher; rw [Request.not_beats_iff, Fin.ext_iff]; omega
      · rw [Request.not_beats_iff]; exact .inr ⟨rfl, le_rfl⟩
    · rcases List.mem_cons.mp mem with rfl | mem
      · refine Request.not_beats_trans ?_ best
        split
        · rw [Request.not_beats_iff]; exact .inr ⟨rfl, le_rfl⟩
        · assumption
      · exact ih _ x (List.mem_cons_of_mem _ mem)

theorem topRequest_greatest {l : List Request} {x : Request} (mem : x ∈ l) : ¬ x.beats (topRequest l) = true :=
  topRequest_foldl_greatest l _ x (List.mem_cons_of_mem _ mem)

/-- Of requests that all stand above CLEAR the highest is one of them. -/
theorem topRequest_mem_of_ne {l : List Request} (above : ∀ x ∈ l, 1 ≤ x.level.val) (ne : l ≠ []) : topRequest l ∈ l := by
  refine (topRequest_mem l).resolve_left fun clear => ?_
  obtain ⟨x, mem⟩ := List.exists_mem_of_ne_nil l ne
  have high := topRequest_greatest mem
  rw [clear, Request.not_beats_iff] at high
  have := above x mem
  simp [Request.clear] at high
  omega

/-- A level above 0 is reached by the highest request exactly when some request reaches it. -/
theorem le_topLevel_iff {l : List Request} {n : Nat} (pos : 0 < n) : n ≤ topLevel l ↔ ∃ x ∈ l, n ≤ x.level.val := by
  refine ⟨fun le => ?_, fun ⟨x, mem, le⟩ => ?_⟩
  · rcases topRequest_mem l with clear | mem
    · rw [topLevel, clear] at le
      exact absurd le (Nat.not_le.mpr pos)
    · exact ⟨_, mem, le⟩
  · have high := topRequest_greatest mem
    rw [Request.not_beats_iff, Fin.ext_iff] at high
    unfold topLevel
    omega

end Sys2Proof.Machine

namespace Sys2Proof.Claims
open Sys2Proof.Machine

/-! ## The requests a group holds (R79) -/

theorem eq_channelNumber_iff {n : Fin 8} {k : ChannelIx} : n = channelNumber k ↔ n.val = k.val + 1 := Fin.ext_iff

theorem Request.eq_iff {q : Request} {l c : Fin 8} : q = ⟨l, c⟩ ↔ q.level = l ∧ q.channel = c := by
  cases q
  simp

theorem mem_conditionRequests_of {c : Condition} {k : ChannelIx} {q : Request} : q ∈ c.requests k
    ↔ q.channel.val = k.val + 1 ∧ ((c = .fail ∧ q.level = 4) ∨ (c = .degrade ∧ q.level = 3)) := by
  cases c <;> simp [Condition.requests, Request.eq_iff, eq_channelNumber_iff, and_comm]

/-- The condition requests listed are those held. -/
theorem mem_conditionRequests_iff {r : Group} {q : Request} : q ∈ r.conditionRequests ↔ HeldCondition r q := by
  unfold Group.conditionRequests HeldCondition
  split
  next complete =>
    simp only [List.mem_append, List.mem_flatMap, List.mem_finRange, true_and, mem_conditionRequests_of, complete]
    refine or_congr_left ?_
    cases r.pfail <;> simp
  next incomplete => exact iff_of_false List.not_mem_nil fun h => incomplete h.1

theorem mem_stored_iff {st : Option Stored} {q : Request} : q ∈ (st.map Stored.request).toList
    ↔ (st = some .bar ∧ q = ⟨7, 0⟩) ∨ ∃ k : ChannelIx, q.channel.val = k.val + 1
      ∧ ((st = some (.force k) ∧ q.level = 5) ∨ (st = some (.manual k) ∧ q.level = 2)) := by
  cases st with
  | none => simp
  | some c =>
    cases c <;> simp [Stored.request, Request.eq_iff, eq_channelNumber_iff, and_comm]

theorem mem_entry_iff {e : Option Entry} {q : Request} : q ∈ (e.map Entry.request).toList
    ↔ (e = some .stay ∧ q = ⟨1, 1⟩) ∨ ∃ k : ChannelIx, q.channel.val = k.val + 1 ∧ e = some (.wait k) ∧ q.level = 1 := by
  cases e with
  | none => simp
  | some e => cases e <;> simp [Entry.request, Request.eq_iff, eq_channelNumber_iff, and_comm]

/-- The local requests listed are those held. -/
theorem mem_localRequests_iff {r : Group} {q : Request} : q ∈ r.localRequests ↔ Held r q := by
  unfold Group.localRequests Group.automaticRequests Held
  rw [List.mem_append, List.mem_append, mem_conditionRequests_iff]
  by_cases complete : GroupConfig.complete r.config = true
  · rw [if_pos complete, if_pos complete, mem_stored_iff, mem_entry_iff, or_left_comm]
    simp only [complete, true_and, and_or_left, exists_or]
    exact iff_of_eq (by ac_rfl)
  · rw [if_neg complete, if_neg complete]
    simp [complete]

/-- Every request held stands above CLEAR. -/
theorem Held.level_pos {r : Group} {q : Request} (h : Held r q) : 1 ≤ q.level.val := by
  unfold Held HeldCondition at h
  rcases h with ⟨-, ⟨-, rfl⟩ | ⟨k, -, ⟨-, e⟩ | ⟨-, e⟩⟩⟩ | ⟨-, ⟨-, rfl⟩ | ⟨-, rfl⟩ | ⟨k, -, ⟨-, e⟩ | ⟨-, e⟩ | ⟨-, e⟩⟩⟩ <;>
    simp [*]

end Sys2Proof.Claims

namespace Sys2Proof.Claims
open Sys2Proof.Machine

/-! ## The answer to BAR, FORCE and MANUAL (R84) -/

theorem channelIx_eq_some_iff {n : Nat} {k : ChannelIx} : channelIx n = some k ↔ k.val + 1 = n := by
  simp [channelIx, Fin.ext_iff]
  omega

theorem channelIx_eq_none_iff {n : Nat} : channelIx n = none ↔ n = 0 ∨ 4 < n := by
  simp [channelIx]
  omega

/-- A kind and a channel make no command exactly where the channel is out of the kind's range. -/
theorem make_eq_none_iff {c : StoredKind} {n : Nat} :
    c.make n = none ↔ (c = .bar ∧ n ≠ 0) ∨ (c ≠ .bar ∧ (n = 0 ∨ 4 < n)) := by
  cases c <;> simp [StoredKind.make, channelIx_eq_none_iff]

/-- The command made is the one to be stored. -/
theorem stores_of_make {c : StoredKind} {n : Nat} {st : Stored} (h : c.make n = some st) : stores c n st := by
  cases c with
  | bar =>
    rw [show StoredKind.bar.make n = if n = 0 then some .bar else none from rfl, Option.ite_none_right_eq_some] at h
    exact .inl ⟨rfl, (Option.some.inj h.2).symm⟩
  | force =>
    obtain ⟨k, at_, rfl⟩ := Option.map_eq_some_iff.mp (show (channelIx n).map _ = some st from h)
    exact .inr ⟨k, channelIx_eq_some_iff.mp at_, .inl ⟨rfl, rfl⟩⟩
  | manual =>
    obtain ⟨k, at_, rfl⟩ := Option.map_eq_some_iff.mp (show (channelIx n).map _ = some st from h)
    exact .inr ⟨k, channelIx_eq_some_iff.mp at_, .inr ⟨rfl, rfl⟩⟩

/-- The channel of a command to be stored, put to a test. -/
theorem stores_channel_any {c : StoredKind} {n : Nat} {st : Stored} (h : stores c n st) (f : ChannelIx → Bool) :
    st.channel.any f = true ↔ ∃ k : ChannelIx, c ≠ .bar ∧ k.val + 1 = n ∧ f k = true := by
  rcases h with ⟨rfl, rfl⟩ | ⟨k, rfl, ⟨rfl, rfl⟩ | ⟨rfl, rfl⟩⟩ <;> simp [Stored.channel, Fin.val_inj]

theorem lt_storedLevel_iff {r : Group} {n : Nat} : n < r.storedLevel ↔ ∃ st, r.stored = some st ∧ n < st.request.level.val := by
  unfold Group.storedLevel
  cases r.stored <;> simp

/-- R84's comparison of levels, request by request. -/
theorem outranks_iff {r : Group} {n : Nat} (pos : 0 < n) : r.outranks n = true
    ↔ (∃ x ∈ r.automaticRequests, n ≤ x.level.val) ∨ ∃ st, r.stored = some st ∧ n < st.request.level.val := by
  rw [Group.outranks, Bool.or_eq_true, decide_eq_true_eq, decide_eq_true_eq, le_topLevel_iff pos, lt_storedLevel_iff]

/-- R84's tests with the level of the command's kind. -/
theorem answer84_eq (r : Group) (c : StoredKind) (n : Nat) : answer84 r c n =
    if GroupConfig.kind r.config = .none then some .refusedState
    else if (c = .bar ∧ n ≠ 0) ∨ (c ≠ .bar ∧ (n = 0 ∨ GroupConfig.count r.config < n)) then some .refusedInvalid
    else if GroupConfig.complete r.config = false ∨ r.evaluated = false then some .refusedState
    else if ∃ k : ChannelIx, c ≠ .bar ∧ k.val + 1 = n ∧ GroupConfig.working r.config k = none then some .refusedState
    else if (∃ x ∈ r.automaticRequests, c.level ≤ x.level.val) ∨ (∃ st, r.stored = some st ∧ c.level < st.request.level.val) then
      some .refusedLevel
    else none := by
  cases c <;> rfl

/-- The group's own tests come to R84's answer: the first that applies, or the command to be stored. -/
theorem testCommand_of_answer {r : Group} (count : GroupConfig.count r.config ≤ 4) (c : StoredKind) (n : Nat) :
    (∀ e, answer84 r c n = some e → r.testCommand c n = .error e)
    ∧ (answer84 r c n = none → ∃ st, stores c n st ∧ r.testCommand c n = .ok st) := by
  have pos : 0 < c.level := by cases c <;> decide
  rw [answer84_eq]
  unfold Group.testCommand
  dsimp only
  by_cases unused : GroupConfig.kind r.config = .none
  · simp [unused]
  rw [if_neg unused, if_neg unused]
  by_cases excess : GroupConfig.count r.config < n
  · have invalid : (c = .bar ∧ n ≠ 0) ∨ (c ≠ .bar ∧ (n = 0 ∨ GroupConfig.count r.config < n)) := by
      by_cases bar : c = .bar
      · exact .inl ⟨bar, by omega⟩
      · exact .inr ⟨bar, Or.inr excess⟩
    rw [if_pos invalid, if_pos excess]
    simp
  rw [if_neg excess]
  cases made : c.make n with
  | none =>
    have invalid : (c = .bar ∧ n ≠ 0) ∨ (c ≠ .bar ∧ (n = 0 ∨ GroupConfig.count r.config < n)) :=
      (make_eq_none_iff.mp made).imp_right fun ⟨other, range⟩ => ⟨other, range.imp_right fun high => by omega⟩
    rw [if_pos invalid]
    simp
  | some st =>
    have valid : ¬ ((c = .bar ∧ n ≠ 0) ∨ (c ≠ .bar ∧ (n = 0 ∨ GroupConfig.count r.config < n))) := fun h => by
      have none := make_eq_none_iff.mpr (h.imp_right fun ⟨other, range⟩ => ⟨other, range.imp_right fun high => absurd high excess⟩)
      rw [made] at none
      cases none
    have channel := stores_channel_any (stores_of_make made) (fun k => decide (GroupConfig.working r.config k = none))
    simp only [decide_eq_true_eq] at channel
    rw [if_neg valid]
    simp only [← channel, ← outranks_iff pos, ← Bool.not_eq_true, ← not_and_or]
    refine ⟨fun e answer => ?_, fun answer => ⟨st, stores_of_make made, ?_⟩⟩
    · (repeat' split at answer) <;> cases answer <;> simp_all
    · (repeat' split at answer) <;> simp_all

end Sys2Proof.Claims

namespace Sys2Proof.Machine

/-! ## What is reported of an element (R121, R124) -/

theorem Driver.report_eq_settled_iff {d : Driver} {e : ElementId} {p : Position} :
    d.report e = .settled p ↔ d.on = true ∧ d.element[e].state = .settled ∧ d.element[e].commanded = p := by
  unfold Driver.report
  cases d.on <;> cases d.element[e].state <;> simp

theorem Driver.report_eq_travelling_iff {d : Driver} {e : ElementId} :
    d.report e = .travelling ↔ d.on = true ∧ d.element[e].state = .travelling := by
  unfold Driver.report
  cases d.on <;> cases d.element[e].state <;> simp

theorem Driver.report_eq_faulted_iff {d : Driver} {e : ElementId} :
    d.report e = .faulted ↔ d.on = true ∧ d.element[e].state = .faulted := by
  unfold Driver.report
  cases d.on <;> cases d.element[e].state <;> simp

/-! ## CLEAR (R85) -/

theorem State.clearGroup_invalid {s : State} {o n : Nat} (h : 12 ≤ o ∨ n ≠ 0) : s.clearGroup o n = (s, .refusedInvalid) :=
  dif_neg (by omega)

theorem State.clearGroup_unevaluated {s : State} {g : GroupId} (h : s.group[g].evaluated = false) :
    s.clearGroup g 0 = (s, .refusedState) :=
  (dif_pos ⟨g.isLt, rfl⟩).trans (if_neg (Bool.eq_false_iff.mp h))

theorem State.clearGroup_done {s : State} {g : GroupId} (h : s.group[g].evaluated = true) : s.clearGroup g 0
    = ((s.setGroup g { s.group[g] with stored := none, entry := none, restoreWait := none }).updateGroup g, .done) :=
  (dif_pos ⟨g.isLt, rfl⟩).trans (if_pos h)

/-! ## BAR, FORCE and MANUAL (R84) -/

theorem State.storeCommand_invalid {s : State} {c : StoredKind} {o n : Nat} (h : 12 ≤ o) :
    s.storeCommand c o n = (s, .refusedInvalid) := dif_neg (by omega)

theorem State.storeCommand_refused {s : State} {c : StoredKind} {g : GroupId} {n : Nat} {e : CommandResult}
    (h : s.group[g].testCommand c n = .error e) : s.storeCommand c g n = (s, e) := by
  refine (dif_pos g.isLt).trans ?_
  dsimp only [Fin.eta]
  rw [h]

theorem State.storeCommand_stores {s : State} {c : StoredKind} {g : GroupId} {n : Nat} {st : Stored}
    (h : s.group[g].testCommand c n = .ok st) : s.storeCommand c g n
      = ((s.setGroup g { s.group[g] with stored := some st }).updateGroup g, .done) := by
  refine (dif_pos g.isLt).trans ?_
  dsimp only [Fin.eta]
  rw [h]

theorem formCheck_clear (o : BitVec 6) (k : BitVec 3) : formCheck (commandWord 4 o k 0) = some .clear := by
  obtain ⟨code, -, -, spare⟩ := commandWord_fields (code := 4) (by decide) o k 0
  unfold formCheck
  rw [code, spare]
  rfl

/-- The command of R84's commands that stores a kind. -/
def StoredKind.command : StoredKind → Command
  | .bar => .bar
  | .force => .force
  | .manual => .manual

theorem State.handToOwner_stored (s : State) (c : StoredKind) (o n : Nat) : s.handToOwner c.command o n = s.storeCommand c o n := by
  cases c <;> rfl

end Sys2Proof.Machine

namespace Sys2Proof.Claims
open Sys2Proof.Machine

/-! ## A command served whole (R128, R129) -/

theorem executeWord_of_answer {v u : State} {c : Command} {w : Word} {r : CommandResult}
    (answer : v.handToOwner c (commandObject w) (commandChannel w) = (u, r)) :
    v.executeWord c w = u.recordResult (w.extractLsb' 0 4) (commandObject w) r := by
  unfold State.executeWord State.recordWord
  rw [answer]

/-- A direct command in its right form, written in READY, is its owner's effect with the result recorded, and nothing more. -/
theorem command_served {s u : State} {i : Instr} {c : Command} {w : Word} {r : CommandResult}
    (row : cycleOf i = some (writeCycle (.trigger (.mailbox .command)) .word w)) (op : s.path.op = .running) (free : PortFree s)
    (ready : s.mailbox.state = .ready) (form : formCheck w = some c) (direct : c.operate = false)
    (answer : (wrote s 0x20 .word w).handToOwner c (commandObject w) (commandChannel w) = (u, r)) :
    ∃ t, exec i s = .next t ∧ Executed s u t (BitVec.ofNat 4 c.code) (commandObject w) r
      ∧ Regranted (u.recordResult (BitVec.ofNat 4 c.code) (commandObject w) r) t := by
  obtain ⟨t, run, executed⟩ := command_executed row op free ready form direct answer
  refine ⟨t, run, executed, ?_⟩
  obtain ⟨t', run', served⟩ := exec_served row (s := s) fun _ => free
  obtain rfl : t' = t := by rw [run] at run'; cases run'; rfl
  have written : (wrote s 0x20 .word w).commandWrite w = (wrote s 0x20 .word w).executeWord c w := by
    unfold State.commandWrite State.newCommand
    rw [show (wrote s 0x20 .word w).mailbox.state = .ready from ready, form]
    simp only [direct, Bool.false_eq_true, if_false]
  rw [← codeField_of_formCheck form, ← executeWord_of_answer answer, ← written]
  rw [s.processorCycle_running _ op] at served
  exact served

/-- A confirm of the pending command, other than RESTART, is its owner's effect with the result recorded, and nothing more. -/
theorem confirm_served {s u : State} {c : Command} {w : Word} {r : CommandResult} (op : s.path.op = .running) (free : PortFree s)
    (awaits : s.mailbox.state = .awaitConfirm) (pending : s.mailbox.pending = some w) (form : formCheck w = some c)
    (other : c ≠ .restart)
    (answer : ((wrote s 0x21 .word w).settleMailbox .ready).handToOwner c (commandObject w) (commandChannel w) = (u, r)) :
    ∃ t, exec (.confirm w) s = .next t ∧ Executed s u t (w.extractLsb' 0 4) (commandObject w) r
      ∧ Regranted (u.recordResult (w.extractLsb' 0 4) (commandObject w) r) t := by
  obtain ⟨t, run, executed⟩ := confirm_executed op free awaits pending form other answer
  rw [← codeField_of_formCheck form] at executed
  refine ⟨t, run, executed, ?_⟩
  obtain ⟨t', run', served⟩ := exec_served (c := .confirm w) rfl (s := s) fun _ => free
  obtain rfl : t' = t := by rw [run] at run'; cases run'; rfl
  have confirmed : (wrote s 0x21 .word w).confirmWrite w = ((wrote s 0x21 .word w).settleMailbox .ready).executeWord c w := by
    unfold State.confirmWrite State.confirmed
    rw [show (wrote s 0x21 .word w).mailbox = s.mailbox from rfl, awaits, if_pos pending, form]
    cases c with
    | restart => exact absurd rfl other
    | _ => rfl
  have cycle : (wrote s 0x21 .word w).confirmCycle w = (wrote s 0x21 .word w).confirmWrite w := by
    refine if_neg fun ⟨_, executing⟩ => ?_
    rw [confirmed, executeWord_state] at executing
    cases executing
  rw [← executeWord_of_answer answer, ← confirmed, ← cycle]
  rw [s.processorCycle_running _ op] at served
  exact served

/-! ## A slot's state decided (R146) -/

theorem report_eq_faulted_iff {s : State} {e : ElementId} : s.report e = .faulted ↔ ShownAs s e .faulted :=
  Driver.report_eq_faulted_iff

theorem lineOf_eq_none {i : SlotId} (h : i.val < 2) : lineOf i = none := dif_neg (by omega)

theorem lineOf_eq_some {i : SlotId} {l : LineId} (h : i.val = l.val + 2) : lineOf i = some l :=
  (dif_pos (by omega)).trans (congrArg some (Fin.ext (by simp [h])))

theorem sourceUnfit_iff {s : State} {p : Port} : s.sourceUnfit p = true ↔ s.sup.record[p].maintenance = true
    ∨ s.sup.record[p].trace = .mismatch ∨ s.sup.record[p].trace = .duplicate ∨ s.sup.kind p = .none := by
  simp [State.sourceUnfit, or_assoc]

/-- Conditions 2 to 6 of R146 for a line slot, as its source and its selector meet them. -/
theorem lineEntry_cases {s : State} {l : LineId} {i : SlotId} {faulted bad unfit : Prop} (at_ : i.val = l.val + 2)
    (isFaulted : faulted ↔ ∃ e, s.sourceSelector l = some e ∧ ShownAs s e .faulted)
    (isBad : bad ↔ (s.slot i).source = none ∨ ∃ p, (s.slot i).source = some p ∧ s.sup.record[p].grade = .failed)
    (isUnfit : unfit ↔ ∃ p, (s.slot i).source = some p ∧ (s.sup.record[p].maintenance = true ∨ s.sup.record[p].trace = .mismatch
      ∨ s.sup.record[p].trace = .duplicate ∨ s.sup.kind p = .none)) :
    (faulted → s.lineEntry l = .lost)
    ∧ (¬ faulted → (s.slot i).settling = true → s.lineEntry l = .settling)
    ∧ (¬ faulted → (s.slot i).settling = false → bad → s.lineEntry l = .lost)
    ∧ (¬ faulted → (s.slot i).settling = false → ¬ bad → unfit → s.lineEntry l = .disqualified)
    ∧ (¬ faulted → (s.slot i).settling = false → ¬ bad → ¬ unfit → s.lineEntry l = .measured) := by
  have slot : s.slot (lineSlot l) = s.slot i := congrArg s.slot (Fin.ext at_.symm)
  have any : (s.sourceSelector l).any (fun e => s.report e = .faulted) = true ↔ faulted := by
    simp [isFaulted, Option.any_eq_true, report_eq_faulted_iff]
  unfold State.lineEntry
  dsimp only
  rw [slot]
  refine ⟨fun f => if_pos (any.mpr f), fun n settles => ?_, fun n still b => ?_, fun n still good u => ?_, fun n still good fit => ?_⟩ <;>
    rw [if_neg (n ∘ any.mp)]
  · exact if_pos settles
  all_goals rw [if_neg (Bool.eq_false_iff.mp still)]
  · cases source : (s.slot i).source with
    | none => rfl
    | some p =>
      obtain ⟨q, found, failed⟩ := (isBad.mp b).resolve_left (by rw [source]; nofun)
      rw [source] at found
      cases found
      exact if_pos failed
  all_goals
    obtain ⟨p, source⟩ := Option.ne_none_iff_exists'.mp fun none => good (isBad.mpr (.inl none))
    rw [source]
    dsimp only
    rw [if_neg fun failed => good (isBad.mpr (.inr ⟨p, source, failed⟩))]
  · obtain ⟨q, found, isUnfit⟩ := isUnfit.mp u
    rw [source] at found
    cases found
    exact if_pos (sourceUnfit_iff.mpr isUnfit)
  · exact if_neg fun u => fit (isUnfit.mpr ⟨p, source, sourceUnfit_iff.mp u⟩)

/-- The slots' states are decided by R146's table. -/
theorem stateDecided_decide (s : State) (i : SlotId) : StateDecided s i (s.slot i) ((s.slot i).decide (s.slotEntry i)) := by
  have entry_of_on (on : ¬ slotPriority s.timing.config[i] = 0) : s.slotEntry i
      = if s.path.op ≠ .running then .lost else match lineOf i with
        | none => .measured
        | some l => s.lineEntry l := if_neg (by simpa [State.slotDisabled] using on)
  unfold StateDecided
  refine ⟨fun off => ?_, fun on stopped => ?_, fun on runs station => ?_, fun l faulted bad unfit on runs at_ isFaulted isBad isUnfit => ?_⟩
  · rw [show s.slotEntry i = .disabled from if_pos (decide_eq_true off)]
    rfl
  · rw [entry_of_on on, if_pos stopped]
    rfl
  · rw [entry_of_on on, if_neg (not_not.mpr runs), lineOf_eq_none station]
    rfl
  · obtain ⟨isLost, settles, lost, disqualified, measured⟩ := lineEntry_cases at_ isFaulted isBad isUnfit
    rw [entry_of_on on, if_neg (not_not.mpr runs), lineOf_eq_some at_]
    dsimp only
    refine ⟨fun f => ?_, fun n r => ?_, fun n r b => ?_, fun n r b u => ?_, fun n r b u => ?_⟩
    · rw [isLost f]
      rfl
    · rw [settles n r]
      rfl
    · rw [lost n r b]
      rfl
    · rw [disqualified n r b u]
      rfl
    · rw [measured n r b u]
      rfl

/-- A force stored or removed decides every slot's state by R146's table. -/
theorem setForce_decided (s : State) (f : Option SlotId) (i : SlotId) :
    StateDecided s i s.timing.slot[i] (s.setForce f).timing.slot[i] := by
  obtain ⟨slot, -, -⟩ := Timing.follow_kept (State.decideSlots { s with timing := { s.timing with forced := f } }).timing _ _
  have decided : (s.setForce f).timing.slot[i] = (s.slot i).decide (State.slotEntry { s with timing := { s.timing with forced := f } } i) := by
    rw [setForce_timing]
    exact (congrArg (·[i]) slot).trans (Vector.getElem_ofFn _)
  rw [decided]
  exact stateDecided_decide { s with timing := { s.timing with forced := f } } i

theorem setForce_table (s : State) (f : Option SlotId) : (s.setForce f).timing.table = s.timing.table := by
  rw [setForce_timing]
  exact Timing.follow_table _ _ _

end Sys2Proof.Claims

namespace Sys2Proof.Proofs
open Sys2Proof.Machine Sys2Proof.Claims

/-- Settles O27: R84's answer is the group's own, and the confirm records it. -/
theorem confirmStores : Obligations.ConfirmStores := by
  intro w s c op free count awaits pending form
  have form : formCheck w = some c.command := by cases c <;> exact form
  have other : c.command ≠ .restart := by cases c <;> decide
  have confirmed {u : State} {r : CommandResult}
      (answer : ((wrote s 0x21 .word w).settleMailbox .ready).storeCommand c (commandObject w) (commandChannel w) = (u, r)) :
      ∃ t, exec (.confirm w) s = .next t ∧ Executed s u t (w.extractLsb' 0 4) (commandObject w) r
        ∧ Regranted (u.recordResult (w.extractLsb' 0 4) (commandObject w) r) t :=
    confirm_served op free awaits pending form other ((State.handToOwner_stored _ c _ _).trans answer)
  refine ⟨fun above => ?_, fun g at_ => ?_⟩
  · obtain ⟨t, run, h, -⟩ := confirmed (State.storeCommand_invalid above)
    exact ⟨t, run, h.recorded, h.ready, h.mailboxOnly⟩
  · rw [← at_] at confirmed
    obtain ⟨refused, stored⟩ := testCommand_of_answer (count g) c (commandChannel w)
    refine ⟨fun r answer => ?_, fun answer => ?_⟩
    · obtain ⟨t, run, h, -⟩ := confirmed (State.storeCommand_refused (refused r answer))
      exact ⟨t, run, h.recorded, h.ready, h.mailboxOnly⟩
    · obtain ⟨st, stores, ok⟩ := stored answer
      obtain ⟨t, run, h, served⟩ := confirmed (State.storeCommand_stores ok)
      refine ⟨st, stores, t, run, h.recorded, h.ready, ?_, ?_, served⟩ <;> obtain ⟨_, rfl⟩ := served <;>
        · dsimp only
          rw [(State.recordResult_mailbox _ _ _ _).1, (State.updateGroup_frame _ _).2.2.2.1]
          rfl

end Sys2Proof.Proofs

namespace Sys2Proof.Machine

/-! ## Events and latches, once put, stay (R166, R175) -/

/-- `t` follows `s` by events put and points handed over: what was queued is queued, overflow-pending and the latches once set are
set, and shelf time stands. -/
structure State.Logs (s t : State) : Prop where
  queue    : s.poster.queue <+: t.poster.queue
  overflow : s.poster.overflow = true → t.poster.overflow = true
  time     : t.poster.shelfTime = s.poster.shelfTime
  latched  : ∀ q, s.pointLatched q = true → t.pointLatched q = true

/-- An event is queued with its stamp, or was lost with overflow-pending set (R175). -/
def State.Logged (s : State) (o : Nat) (d : Detail) (stamp : Word) : Prop :=
  s.poster.overflow = true ∨ (⟨o, d, stamp⟩ : Event) ∈ s.poster.queue

namespace State.Logs

theorem refl (s : State) : s.Logs s := ⟨List.prefix_rfl, id, rfl, fun _ => id⟩

theorem trans {s t u : State} (h : s.Logs t) (k : t.Logs u) : s.Logs u :=
  ⟨h.queue.trans k.queue, k.overflow ∘ h.overflow, k.time.trans h.time, fun q => k.latched q ∘ h.latched q⟩

theorem ite {s t u : State} {c : Prop} [Decidable c] (h : s.Logs t) (k : s.Logs u) : s.Logs (if c then t else u) := by
  split <;> assumption

theorem iteSelf {s t : State} {c : Prop} [Decidable c] (h : s.Logs t) : s.Logs (if c then t else s) := h.ite (refl s)

theorem foldl {α : Type} {f : State → α → State} (h : ∀ (s : State) (a : α), s.Logs (f s a)) (l : List α) (s : State) :
    s.Logs (l.foldl f s) := by
  induction l generalizing s with
  | nil => exact refl s
  | cons a l ih => exact (h s a).trans (ih _)

/-- An effect on neither the poster nor the alarm unit. -/
theorem of_frame {s t : State} (alarm : t.alarm = s.alarm) (poster : t.poster = s.poster) : s.Logs t where
  queue := by rw [poster]
  overflow := by rw [poster]; exact id
  time := by rw [poster]
  latched := fun q => by unfold State.pointLatched; rw [alarm]; exact id

theorem logged {s t : State} (h : s.Logs t) {o : Nat} {d : Detail} {stamp : Word} (l : s.Logged o d stamp) : t.Logged o d stamp :=
  l.imp h.overflow fun mem => h.queue.subset mem

end State.Logs

theorem State.putEvent_logs (s : State) (o : Nat) (d : Detail) : s.Logs (s.putEvent o d) := by
  rcases s.putEvent_cases o d with ⟨-, e⟩ | ⟨-, e⟩ <;> rw [e]
  · exact ⟨List.prefix_append _ _, id, rfl, fun _ => id⟩
  · exact ⟨List.prefix_rfl, fun _ => rfl, rfl, fun _ => id⟩

theorem State.putEvent_logged (s : State) (o : Nat) (d : Detail) : (s.putEvent o d).Logged o d s.poster.shelfTime := by
  rcases s.putEvent_cases o d with ⟨-, e⟩ | ⟨-, e⟩ <;> rw [e]
  · exact .inr (List.mem_append_right _ List.mem_cons_self)
  · exact .inl rfl

theorem State.setPoint_logs (s : State) (pt : Point) (v : Bool) : s.Logs (s.setPoint pt v) := by
  by_cases same : s.pointRaised pt = v
  · rw [State.setPoint_same s pt v same]
    exact .refl s
  have latched (q : Point) (h : s.pointLatched q = true) : (s.setPoint pt v).pointLatched q = true := by
    rw [(State.setPoint_points s pt v same q).2, h, Bool.true_or]
  rcases s.setPoint_poster pt v with e | ⟨o, d, e⟩
  · exact ⟨by rw [e], by rw [e]; exact id, by rw [e], latched⟩
  · have put := s.putEvent_logs o d
    exact ⟨by rw [e]; exact put.queue, by rw [e]; exact put.overflow, by rw [e]; exact put.time, latched⟩

/-! ### The timing unit -/

theorem State.timingAlarms_logs (s : State) : s.Logs s.timingAlarms :=
  (State.Logs.foldl (fun s _ => .foldl (fun s _ => s.setPoint_logs _ _) _ s) _ s).trans (.foldl (fun s _ => s.setPoint_logs _ _) _ _)

theorem State.retimeFrom_logs (began : State) {s u : State} (alarm : u.alarm = s.alarm) (poster : u.poster = s.poster) :
    s.Logs (State.retimeFrom began u) := by
  have chosen : s.Logs u.decideSlots.reselect :=
    .of_frame (by simp only [State.reselect_frame, State.decideSlots_frame, alarm])
      (by simp only [State.reselect_frame, State.decideSlots_frame, poster])
  exact (chosen.trans (.ite (.refl _) (State.putEvent_logs _ _ _))).trans (State.timingAlarms_logs _)

theorem State.timingReport_logs (s : State) (e : ElementId) : s.Logs (s.timingReport e) := by
  refine State.retimeFrom_logs s (foldl_keeps State.alarm _ ?_ _ _) (foldl_keeps State.poster _ ?_ _ _) <;>
  · intro s l
    split
    · simp only [State.lineReport_frame]
    · rfl

theorem State.timingGroupChange_logs (s : State) (g : GroupId) : s.Logs (s.timingGroupChange g) := by
  refine .iteSelf (State.retimeFrom_logs s (foldl_keeps State.alarm _ ?_ _ _) (foldl_keeps State.poster _ ?_ _ _)) <;>
  · intro s l
    split
    · simp only [State.takeDecision_frame]
    · rfl

/-! ### The protection controller -/

theorem State.setGroup_logs (s : State) (g : GroupId) (r : Group) : s.Logs (s.setGroup g r) := .of_frame rfl rfl

theorem State.cancelManual_logs (s : State) (g : GroupId) : s.Logs (s.cancelManual g) := by
  unfold State.cancelManual
  split
  · exact (s.setGroup_logs g _).trans (State.putEvent_logs _ _ _)
  all_goals exact .refl s

theorem State.bringRequests_logs (s : State) (g : GroupId) : s.Logs (s.bringRequests g) :=
  ((s.setGroup_logs g _).trans (.iteSelf (State.cancelManual_logs _ g))).trans (State.setGroup_logs _ g _)

theorem State.commandGroup_logs (s : State) (g : GroupId) : s.Logs (s.commandGroup g) :=
  .of_frame (by simp only [State.commandGroup_frame]) (by simp only [State.commandGroup_frame])

theorem State.evaluate_logs (s : State) (first : Bool) (g : GroupId) : s.Logs (s.evaluate first g) :=
  (((s.setGroup_logs g _).trans (State.commandGroup_logs _ g)).trans (.ite (.refl _) (State.putEvent_logs _ _ _))).trans
    (State.setGroup_logs _ g _)

theorem State.noteReport_logs (s : State) (heard : Driver) (g : GroupId) (e : ElementId) : s.Logs (s.noteReport heard g e) :=
  .iteSelf (s.setGroup_logs g _)

theorem State.handConditions_logs (s : State) (heard : Driver) (g : GroupId) : s.Logs (s.handConditions heard g) :=
  (s.setGroup_logs g _).trans (.foldl (fun s _ => s.setPoint_logs _ _) _ _)

theorem State.formTransmit_logs (s : State) (heard : Driver) (g : GroupId) : s.Logs (s.formTransmit heard g) :=
  .of_frame (by simp only [State.formTransmit_frame]) (by simp only [State.formTransmit_frame])

/-- Handing the conditions over and forming the transmit word, the end of every update. -/
theorem State.handed_logs (s : State) (heard : Driver) (g : GroupId) : s.Logs ((s.handConditions heard g).formTransmit heard g) :=
  (s.handConditions_logs heard g).trans (State.formTransmit_logs _ heard g)

theorem State.takeUpdate_logs (s : State) (heard : Driver) (first : Bool) (g : GroupId) : s.Logs (s.takeUpdate heard first g) :=
  ((s.bringRequests_logs g).trans (.iteSelf (State.evaluate_logs _ first g))).trans (State.handed_logs _ heard g)

theorem State.takeOwnReport_logs (s : State) (old heard : Driver) (g : GroupId) (e : Option ElementId) :
    s.Logs (s.takeOwnReport old heard g e) := by
  cases e with
  | none => exact .refl s
  | some e => exact .iteSelf ((s.noteReport_logs heard g e).trans (State.takeUpdate_logs _ heard false g))

theorem State.reportSelector_logs (before s : State) (g : GroupId) : s.Logs (State.reportSelector before s g) := by
  unfold State.reportSelector
  split
  · exact .iteSelf (s.timingReport_logs _)
  · exact .refl s

/-- What an update puts first, the reports of its own commands leave. -/
theorem State.takeUpdate_groupUpdate_logs (s : State) (first : Bool) (g : GroupId) :
    (s.takeUpdate s.driver first g).Logs (s.groupUpdate first g) :=
  ((State.takeOwnReport_logs _ _ _ g _).trans (State.takeOwnReport_logs _ _ _ g _)).trans (State.reportSelector_logs s _ g)

theorem State.groupUpdate_logs (s : State) (first : Bool) (g : GroupId) : s.Logs (s.groupUpdate first g) :=
  (s.takeUpdate_logs s.driver first g).trans (s.takeUpdate_groupUpdate_logs first g)

end Sys2Proof.Machine

namespace Sys2Proof.Machine

/-! ## A group's record through its update (R90) -/

/-- A stored MANUAL removed (R86). -/
def Group.dropManual (r : Group) : Group :=
  match r.stored with
  | some (.manual _) => { r with stored := none }
  | _ => r

/-- A MANUAL does not stand beside a condition request (R86). -/
def Group.yieldManual (r : Group) : Group := if r.conditionRequests ≠ [] then r.dropManual else r

/-- The record of a group with its requests brought up to date, its entry still as it was (R90, steps 1 and 2). -/
def State.requested (s : State) (g : GroupId) : Group := (s.refreshGroup s.group[g]).yieldManual

/-- The record of a group after its evaluation (R91, R96, R110). -/
def Group.judged (r : Group) (first : Bool) (now : Nat) : Group :=
  let c := Group.confirm { r with winner := r.choose.1, source := r.choose.2 } now
  { (if first then c.firstEvaluated now else c) with evaluated := true }

/-- The record of a group after its update, its conditions apart (R90, steps 1 to 4). -/
def State.updated (s : State) (first : Bool) (g : GroupId) : Group :=
  let r := (s.bringRequests g).group[g]
  if first || r.evaluated then r.judged first s.now else r

theorem Group.dropManual_frame (r : Group) : r.dropManual = { r with stored := r.dropManual.stored } := by
  unfold Group.dropManual
  split <;> rfl

theorem Group.yieldManual_frame (r : Group) : r.yieldManual = { r with stored := r.yieldManual.stored } := by
  unfold Group.yieldManual
  split
  · exact r.dropManual_frame
  · rfl

theorem Group.dropManual_manual {r : Group} {k : ChannelIx} (h : r.stored = some (.manual k)) : r.dropManual.stored = none := by
  unfold Group.dropManual
  rw [h]

theorem Group.dropManual_other {r : Group} (h : ∀ k, r.stored ≠ some (.manual k)) : r.dropManual = r := by
  unfold Group.dropManual
  split
  next k stored => exact absurd stored (h k)
  · rfl

theorem State.cancelManual_record (s : State) (g : GroupId) : (s.cancelManual g).group[g] = s.group[g].dropManual := by
  unfold State.cancelManual Group.dropManual
  cases s.group[g].stored with
  | none => rfl
  | some c =>
    cases c with
    | manual k => simp only [State.putEvent_frame, State.setGroup_group]
    | bar => rfl
    | force k => rfl

/-- Settling the entry reads the clock and the driver alone. -/
theorem State.settleEntry_same {s t : State} (now : t.now = s.now) (driver : t.driver = s.driver) (r : Group) :
    t.settleEntry r = s.settleEntry r := by
  have same := State.settleEntry_congr (r := r) (q := r.conditions) now driver
  rw [s.settleEntry_frame r] at same ⊢
  exact same

/-- The record after steps 1 to 3 of an update: the requests brought up to date, the entry settled, and the highest request. -/
theorem State.bringRequests_record (s : State) (g : GroupId) : (s.bringRequests g).group[g]
    = { s.settleEntry (s.requested g) with top := topRequest (s.settleEntry (s.requested g)).localRequests } := by
  have requested (u : State) (h : u = if (s.refreshGroup s.group[g]).conditionRequests ≠ []
      then (s.setGroup g (s.refreshGroup s.group[g])).cancelManual g else s.setGroup g (s.refreshGroup s.group[g])) :
      u.group[g] = s.requested g ∧ u.now = s.now ∧ u.driver = s.driver := by
    subst h
    unfold State.requested Group.yieldManual
    split
    · rw [State.cancelManual_record]
      simp only [State.setGroup_group, State.cancelManual_frame, State.setGroup_frame, and_self]
    · simp only [State.setGroup_group, State.setGroup_frame, and_self]
  obtain ⟨record, now, driver⟩ := requested _ rfl
  unfold State.bringRequests
  dsimp only
  rw [State.setGroup_group, State.setGroup_group, record, State.settleEntry_same now driver]

theorem State.evaluate_record (s : State) (first : Bool) (g : GroupId) :
    (s.evaluate first g).group[g] = s.group[g].judged first s.now := by
  have chosen (r : Group) (old new : Request) (u : State) (h : u = if old = new then (s.setGroup g r).commandGroup g
      else ((s.setGroup g r).commandGroup g).putEvent g (.switch old new)) : u.group[g] = r ∧ u.now = s.now := by
    subst h
    split <;> simp only [State.putEvent_frame, State.commandGroup_frame, State.setGroup_frame, State.setGroup_group, and_self]
  obtain ⟨record, now⟩ := chosen _ _ _ _ rfl
  unfold State.evaluate Group.judged
  dsimp only
  rw [State.setGroup_group, record, now]

theorem State.takeUpdate_record (s : State) (heard : Driver) (first : Bool) (g : GroupId) :
    (s.takeUpdate heard first g).group[g]
      = { s.updated first g with conditions := (s.updated first g).conditionsFor heard } := by
  unfold State.takeUpdate State.updated
  dsimp only
  rw [State.handed_group]
  split
  · rw [State.evaluate_record, (s.bringRequests_frame g).2.1]
  · rfl

/-- What an evaluation leaves of a record. -/
theorem Group.judged_frame (r : Group) (first : Bool) (now : Nat) : r.judged first now = { r with
    winner := r.choose.1, source := r.choose.2, evaluated := true
    confirmation := (Group.confirm { r with winner := r.choose.1, source := r.choose.2 } now).confirmation
    timeout := (Group.confirm { r with winner := r.choose.1, source := r.choose.2 } now).timeout
    restoreWait := (if first then r.firstEvaluated now else r).restoreWait } := by
  unfold Group.judged
  dsimp only
  rw [Group.confirm_frame]
  cases first with
  | false => rfl
  | true =>
    unfold Group.firstEvaluated
    cases r.entry with
    | none => rfl
    | some e => cases e <;> rfl

/-- What an update leaves of the record with its requests brought up to date. -/
theorem State.updated_frame (s : State) (first : Bool) (g : GroupId) : s.updated first g = { s.requested g with
    entry := (s.settleEntry (s.requested g)).entry, restoreWait := (s.updated first g).restoreWait
    top := topRequest (s.settleEntry (s.requested g)).localRequests, winner := (s.updated first g).winner
    source := (s.updated first g).source, evaluated := (s.updated first g).evaluated
    confirmation := (s.updated first g).confirmation, timeout := (s.updated first g).timeout } := by
  obtain ⟨en, w, settled⟩ : ∃ en w, s.settleEntry (s.requested g) = { s.requested g with entry := en, restoreWait := w } :=
    ⟨_, _, s.settleEntry_frame _⟩
  unfold State.updated
  rw [s.bringRequests_record g, settled]
  dsimp only
  split
  · rw [Group.judged_frame]
  · rfl

/-- The record of a group after its update: of its conditions ON PROTECT and SWITCH FAULT follow the elements (R93). -/
theorem State.groupUpdate_record (s : State) (first : Bool) (g : GroupId) : ∃ on fault,
    (s.groupUpdate first g).group[g] = { s.updated first g with conditions :=
      { (s.updated first g).conditionsFor s.driver with onProtect := on, switchFault := fault } } := by
  obtain ⟨-, on, fault, same⟩ := s.groupUpdate_group first g
  exact ⟨on, fault, by rw [same, State.takeUpdate_record]⟩

/-- The requests brought up to date, refreshed, and a MANUAL cancelled. -/
theorem State.requested_frame (s : State) (g : GroupId) :
    s.requested g = { s.refreshGroup s.group[g] with stored := (s.requested g).stored } := Group.yieldManual_frame _

theorem State.requested_evaluated (s : State) (g : GroupId) : (s.requested g).evaluated = s.group[g].evaluated := by
  rw [s.requested_frame]
  exact s.refreshGroup_evaluated _

theorem State.bringRequests_evaluated (s : State) (g : GroupId) : (s.bringRequests g).group[g].evaluated = s.group[g].evaluated := by
  rw [s.bringRequests_record, State.settleEntry_frame]
  exact s.requested_evaluated g

theorem State.updated_evaluated {s : State} {first : Bool} {g : GroupId} (h : first = true ∨ s.group[g].evaluated = true) :
    s.updated first g = (s.bringRequests g).group[g].judged first s.now := by
  refine if_pos ?_
  rw [s.bringRequests_evaluated, Bool.or_eq_true]
  exact h

theorem State.updated_unevaluated {s : State} {first : Bool} {g : GroupId} (h : ¬ (first = true ∨ s.group[g].evaluated = true)) :
    s.updated first g = (s.bringRequests g).group[g] := by
  refine if_neg ?_
  rw [s.bringRequests_evaluated, Bool.or_eq_true]
  exact h

end Sys2Proof.Machine

namespace Sys2Proof.Machine

/-! ## A channel meets its grade condition (R80, R81; log entry 35) -/

/-- A grade condition that is new to a channel with no hold-off running. -/
def Channel.newly (c : Channel) (cond : Condition) : Prop :=
  c.holdOff = none ∧ (cond = .fail ∧ c.raised ≠ .fail ∨ cond = .degrade ∧ c.raised = .clear)

/-- A hold-off that runs goes on while there is a grade condition. -/
theorem Channel.meet_running {c : Channel} {cond : Condition} (now h : Nat) (some : cond ≠ .clear) (runs : c.holdOff ≠ none) :
    c.meet cond now h = c := by
  have runs : c.holdOff.isSome = true := Option.isSome_iff_ne_none.mpr runs
  cases cond <;> simp [Channel.meet, runs] at some ⊢

theorem Channel.meet_new {c : Channel} {cond : Condition} (now h : Nat) (new : c.newly cond) :
    c.meet cond now h = c.startHoldOff cond now h := by
  obtain ⟨idle, ⟨rfl, other⟩ | ⟨rfl, clear⟩⟩ := new
  · cases raised : c.raised <;> simp [Channel.meet, idle, raised] at other ⊢
  · simp [Channel.meet, idle, clear]

/-- A condition already raised stands, and a FAIL that lessens to DEGRADE is lowered at once. -/
theorem Channel.meet_known {c : Channel} {cond : Condition} (now h : Nat) (some : cond ≠ .clear) (idle : c.holdOff = none)
    (known : c.raised = cond ∨ (cond = .degrade ∧ c.raised = .fail)) : c.meet cond now h = { c with raised := cond } := by
  obtain ⟨raised, holdOff, request⟩ := c
  obtain rfl : holdOff = none := idle
  rcases known with rfl | ⟨rfl, rfl⟩
  · cases raised <;> simp [Channel.meet] at some ⊢
  · rfl

/-! ## What the port supervisor shows a group (R64 to R68, R83, R104) -/

theorem mem_workings {cfg : Vector Word 8} {q : Port} : q ∈ GroupConfig.workings cfg ↔ ∃ k, GroupConfig.working cfg k = some q := by
  simp [GroupConfig.workings]

theorem Supervisor.identity_eq_some_iff {u : Supervisor} {p : Port} {id : Word} :
    u.identity p = some id ↔ u.record[p].accepted = some id ∧ id ≠ 0 := by
  unfold Supervisor.identity
  cases u.record[p].accepted with
  | none => simp
  | some w =>
    dsimp only
    rw [Option.ite_none_left_eq_some]
    exact ⟨fun ⟨ne, e⟩ => ⟨e, Option.some.inj e ▸ ne⟩, fun ⟨e, ne⟩ => ⟨Option.some.inj e ▸ ne, e⟩⟩

theorem Supervisor.traceAction_iff {u : Supervisor} {q : Port} : u.traceAction q = true ↔ PortConfig.action u.config[q] = true
    ∧ (u.record[q].trace = .mismatch ∨ u.record[q].trace = .duplicate) := by
  simp [Supervisor.traceAction]

/-- An element field names an element that is reported FAULTED. -/
theorem Driver.faulted_iff {d : Driver} {o : Option ElementId} :
    d.faulted o = true ↔ d.on = true ∧ ∃ e : ElementId, o = some e ∧ d.element[e].state = .faulted := by
  simp [Driver.faulted, Option.any_eq_true, Driver.report_eq_faulted_iff, and_left_comm]

end Sys2Proof.Machine

namespace Sys2Proof.Claims
open Sys2Proof.Machine

theorem channelCondition_eq (s : State) (cfg : Vector Word 8) (k : ChannelIx) : s.channelCondition cfg k = gradeCond s cfg k := by
  unfold State.channelCondition gradeCond
  cases GroupConfig.working cfg k with
  | none => rfl
  | some q =>
    dsimp only
    cases s.sup.record[q].grade <;> simp [gradeCondition]

theorem holdOffTime_eq (cfg : Vector Word 8) : holdOffTime cfg = 800 * GroupConfig.holdOff cfg := by
  unfold holdOffTime Config.ms
  omega

/-- A channel brought up to date, with its raised request, its timer and its condition request (R67, R80, R82). -/
theorem channelMet_refresh (s : State) (cfg : Vector Word 8) (k : ChannelIx) (r : Channel) :
    ChannelMet s cfg k r (s.refreshChannel cfg k r) := by
  have action : (GroupConfig.working cfg k).any s.sup.traceAction = true ↔ ∃ q : Port, GroupConfig.working cfg k = some q
      ∧ PortConfig.action s.sup.config[q] = true ∧ (s.sup.record[q].trace = .mismatch ∨ s.sup.record[q].trace = .duplicate) := by
    simp only [Option.any_eq_true, Supervisor.traceAction_iff]
  unfold ChannelMet State.refreshChannel
  dsimp only
  rw [← action, channelCondition_eq, holdOffTime_eq]
  generalize gradeCond s cfg k = cond
  refine ⟨fun clear => ?_, fun some runs => ?_, fun due zero => ?_, fun due wait => ?_, fun some idle known => ?_, fun acts => ?_, fun none => ?_⟩
  · subst clear
    exact ⟨rfl, rfl⟩
  · rw [Channel.meet_running _ _ some runs]
    exact ⟨rfl, rfl⟩
  · rw [Channel.meet_new _ _ due, zero]
    exact ⟨rfl, due.1⟩
  · rw [Channel.meet_new _ _ due, Channel.startHoldOff, if_neg (by omega)]
    exact ⟨rfl, rfl⟩
  · rw [Channel.meet_known _ _ some idle known]
    exact ⟨rfl, idle⟩
  · rw [acts]
    rfl
  · rw [Bool.eq_false_iff.mpr none]
    rfl

theorem crossShelf_iff (s : State) (c : Vector Word 8) : s.sup.crossShelf c = true ↔ CrossShelf s c := by
  unfold Supervisor.crossShelf CrossShelf
  cases kind : GroupConfig.kind c with
  | none => simp
  | paired | shared =>
    cases protect : GroupConfig.protect c with
    | none => simp
    | some p =>
      dsimp only
      cases identity : s.sup.identity p with
      | none =>
        refine iff_of_false nofun fun ⟨p', id, _, at_, accepted, ne, _⟩ => ?_
        cases at_
        rw [Supervisor.identity_eq_some_iff.mpr ⟨accepted, ne⟩] at identity
        cases identity
      | some id =>
        obtain ⟨accepted, ne⟩ := Supervisor.identity_eq_some_iff.mp identity
        dsimp only
        simp only [Bool.and_eq_true, List.all_eq_true, List.any_eq_true, mem_workings, Option.isSome_iff_exists, Option.any_eq_true,
          Supervisor.identity_eq_some_iff]
        constructor
        · rintro ⟨all, q, ⟨k, works⟩, w, ⟨own, -⟩, apart⟩
          exact ⟨p, id, nofun, rfl, accepted, ne, fun k q works => all q ⟨k, works⟩, k, q, w, works, own, of_decide_eq_true apart⟩
        · rintro ⟨p', id', -, at_, accepted', -, all, k, q, w, works, own, apart⟩
          cases at_
          rw [accepted] at accepted'
          cases accepted'
          obtain ⟨w', own', ne'⟩ := all k q works
          rw [own] at own'
          cases own'
          exact ⟨fun q ⟨k, works⟩ => all k q works, q, ⟨k, works⟩, w, ⟨own, ne'⟩, decide_eq_true apart⟩

theorem swapped_iff (s : State) (c : Vector Word 8) : s.sup.swapped c = true ↔ Swapped s c := by
  unfold Supervisor.swapped Swapped PortConfig.expected
  cases kind : GroupConfig.kind c with
  | none => simp
  | paired | shared =>
    cases protect : GroupConfig.protect c with
    | none => simp
    | some p =>
      simp only [List.any_eq_true, mem_workings, Bool.and_eq_true, decide_eq_true_eq, Option.some.injEq]
      constructor
      · rintro ⟨q, ⟨k, works⟩, ⟨⟨expected, expected'⟩, own⟩, other⟩
        exact ⟨p, q, k, nofun, rfl, works, expected, expected', own, other⟩
      · rintro ⟨_, q, k, -, rfl, works, expected, expected', own, other⟩
        exact ⟨q, ⟨k, works⟩, ⟨⟨expected, expected'⟩, own⟩, other⟩

theorem protectFailed_iff (s : State) (c : Vector Word 8) : s.sup.protectFailed c = true ↔ ProtectFailed s c := by
  simp [Supervisor.protectFailed, ProtectFailed, Option.any_eq_true]

theorem unusable_iff (s : State) (c : Vector Word 8) : s.sup.unusable c = true ↔ Unusable s c := by
  simp [Supervisor.unusable, Unusable, Option.any_eq_true]

theorem holdsPfail_iff (s : State) (c : Vector Word 8) : (GroupConfig.complete c && s.sup.protectOut c) = true ↔ HoldsPfail s c := by
  unfold Supervisor.protectOut HoldsPfail
  rw [Bool.and_eq_true, Bool.or_eq_true, Bool.or_eq_true, Bool.or_eq_true, protectFailed_iff, crossShelf_iff, unusable_iff, or_assoc,
    or_assoc]
  simp [Option.any_eq_true, or_assoc]

/-! ## A group's record with its requests brought up to date (R80 to R83, R86, R103) -/

/-- What the port supervisor shows is taken into a record. -/
theorem refreshGroup_fields (s : State) (r : Group) : (s.refreshGroup r).config = r.config
    ∧ (∀ k : ChannelIx, (s.refreshGroup r).channel[k] = s.refreshChannel r.config k r.channel[k])
    ∧ ((s.refreshGroup r).pfail = true ↔ HoldsPfail s r.config) ∧ ((s.refreshGroup r).unusable = true ↔ Unusable s r.config)
    ∧ (s.refreshGroup r).conditions = { r.conditions with crossShelf := s.sup.crossShelf r.config, swapped := s.sup.swapped r.config }
    ∧ (ProtectFailed s r.config ∨ Unusable s r.config →
        (s.refreshGroup r).candidate = none ∧ (s.refreshGroup r).run = 0 ∧ (s.refreshGroup r).accepted = none)
    ∧ (¬ ProtectFailed s r.config → ¬ Unusable s r.config →
        (s.refreshGroup r).candidate = r.candidate ∧ (s.refreshGroup r).run = r.run ∧ (s.refreshGroup r).accepted = r.accepted) := by
  rw [← holdsPfail_iff, ← unusable_iff, ← protectFailed_iff]
  have drops : (s.sup.unusable r.config || s.sup.protectFailed r.config) = true
      ↔ s.sup.protectFailed r.config = true ∨ s.sup.unusable r.config = true := by rw [Bool.or_eq_true, or_comm]
  have channels (k : ChannelIx) : (Vector.ofFn fun k : ChannelIx => s.refreshChannel r.config k r.channel[k])[k]
      = s.refreshChannel r.config k r.channel[k] := Vector.getElem_ofFn _
  unfold State.refreshGroup
  dsimp only
  split
  next drop => exact ⟨rfl, channels, Iff.rfl, Iff.rfl, rfl, fun _ => ⟨rfl, rfl, rfl⟩, fun n m => ((drops.mp drop).elim n m).elim⟩
  next keep => exact ⟨rfl, channels, Iff.rfl, Iff.rfl, rfl, fun h => absurd (drops.mpr h) keep, fun _ _ => ⟨rfl, rfl, rfl⟩⟩

/-- What a stored command becomes beside a condition request. -/
theorem yieldManual_stored (r : Group) :
    ((∃ q, HeldCondition r q) → ∀ k, r.stored = some (.manual k) → r.yieldManual.stored = none)
    ∧ ((∀ q, ¬ HeldCondition r q) ∨ (∀ k, r.stored ≠ some (.manual k)) → r.yieldManual.stored = r.stored) := by
  have holds : r.conditionRequests ≠ [] ↔ ∃ q, HeldCondition r q := by
    simp only [← mem_conditionRequests_iff]
    exact ⟨List.exists_mem_of_ne_nil _, fun ⟨q, mem⟩ e => by rw [e] at mem; cases mem⟩
  unfold Group.yieldManual
  rw [apply_ite Group.stored]
  refine ⟨fun held k manual => ?_, fun quiet => ?_⟩
  · rw [if_pos (holds.mpr held)]
    exact Group.dropManual_manual manual
  · rcases quiet with none | other
    · rw [if_neg fun h => (holds.mp h).elim none]
    · rw [Group.dropManual_other other, ite_self]

theorem HeldCondition.congr {r x : Group} (config : x.config = r.config) (channel : x.channel = r.channel) (pfail : x.pfail = r.pfail)
    {q : Request} : HeldCondition x q ↔ HeldCondition r q := by
  unfold HeldCondition
  rw [config, channel, pfail]

/-- Steps 1 and 2 of an update make of the requests held what R80 to R83, R86, R103 and R104 say. -/
theorem requestsMet_requested (s : State) (g : GroupId) : RequestsMet s s.group[g] (s.requested g) := by
  obtain ⟨config, channel, pfail, unusable, -, drops, keeps⟩ := refreshGroup_fields s s.group[g]
  obtain ⟨yields, stays⟩ := yieldManual_stored (s.refreshGroup s.group[g])
  have stored : (s.refreshGroup s.group[g]).stored = s.group[g].stored := by
    unfold State.refreshGroup
    dsimp only
    split <;> rfl
  rw [stored] at yields stays
  have frame := s.requested_frame g
  unfold RequestsMet
  rw [frame]
  refine ⟨config, fun k => ?_, pfail, unusable, yields, stays, drops, keeps⟩
  dsimp only
  rw [channel k]
  exact channelMet_refresh s _ k _

end Sys2Proof.Claims

namespace Sys2Proof.Machine

/-! ## What steps 1 to 4 of an update leave of a record (R90) -/

/-- What taking in the port supervisor's inputs leaves of a record. -/
theorem State.refreshGroup_frame (s : State) (r : Group) : s.refreshGroup r = { r with
    channel := (s.refreshGroup r).channel, pfail := (s.refreshGroup r).pfail, unusable := (s.refreshGroup r).unusable
    conditions := (s.refreshGroup r).conditions, candidate := (s.refreshGroup r).candidate, run := (s.refreshGroup r).run
    accepted := (s.refreshGroup r).accepted } := by
  unfold State.refreshGroup Group.dropFarEnd
  dsimp only
  split <;> rfl

/-- What steps 1 and 2 of an update leave of a record. -/
theorem State.requested_kept (s : State) (g : GroupId) : s.requested g = { s.group[g] with
    channel := (s.requested g).channel, pfail := (s.requested g).pfail, unusable := (s.requested g).unusable
    conditions := (s.requested g).conditions, candidate := (s.requested g).candidate, run := (s.requested g).run
    accepted := (s.requested g).accepted, stored := (s.requested g).stored } := by
  obtain ⟨st, frame⟩ : ∃ st, s.requested g = { s.refreshGroup s.group[g] with stored := st } := ⟨_, s.requested_frame g⟩
  have refreshed := s.refreshGroup_frame s.group[g]
  rw [frame]
  generalize s.refreshGroup s.group[g] = r at refreshed ⊢
  rw [refreshed]

/-! ## The WAIT or STAY entry (R87, R88) -/

theorem Group.ownFailure_eq_some_iff {r : Group} {k : ChannelIx} : r.ownFailure = some k
    ↔ r.source = .local ∧ (r.winner.level = 3 ∨ r.winner.level = 4) ∧ r.winner.channel.val = k.val + 1 := by
  unfold Group.ownFailure
  by_cases own : r.source = .local ∧ (r.winner.level = 4 ∨ r.winner.level = 3)
  · rw [if_pos own]
    split
    next range =>
      simp only [Option.some.injEq, Fin.ext_iff, own.1, true_and]
      omega
    next range =>
      refine iff_of_false nofun fun ⟨_, _, at_⟩ => range ?_
      omega
  · rw [if_neg own]
    exact iff_of_false nofun fun ⟨source, level, _⟩ => own ⟨source, level.symm⟩

theorem State.entersEntry_iff {s : State} {r : Group} {k : ChannelIx} : s.entersEntry r k = true ↔ r.evaluated = true
    ∧ GroupConfig.complete r.config = true ∧ r.channel[k].request = .clear ∧ ¬ r.heldAboveEntry = true
    ∧ ∃ e : ElementId, GroupConfig.selector r.config = some e ∧ (s.element e).commanded.val = k.val + 1 := by
  simp [State.entersEntry, Option.any_eq_true, and_assoc]

theorem State.settleEntry_high {s : State} {r : Group} (high : r.heldAboveEntry = true) :
    s.settleEntry r = { r with entry := none, restoreWait := none } := if_pos high

theorem State.settleEntry_held {s : State} {r : Group} (low : ¬ r.heldAboveEntry = true) (held : r.entry ≠ none) :
    s.settleEntry r = r := (if_neg low).trans (if_pos (Option.isSome_iff_ne_none.mpr held))

/-- An entry is made for the channel whose own FAIL or DEGRADE was the winner, where R87's conditions hold. -/
theorem State.settleEntry_enters {s : State} {r : Group} {k : ChannelIx} (low : ¬ r.heldAboveEntry = true) (none : r.entry = none)
    (own : r.ownFailure = some k) (enters : s.entersEntry r k = true) : s.settleEntry r = s.enterEntry r k := by
  unfold State.settleEntry
  rw [if_neg low, none, own]
  exact if_pos enters

theorem State.settleEntry_idle {s : State} {r : Group} (low : ¬ r.heldAboveEntry = true) (none : r.entry = none)
    (idle : ∀ k, r.ownFailure = some k → ¬ s.entersEntry r k = true) : s.settleEntry r = r := by
  unfold State.settleEntry
  rw [if_neg low, none]
  cases own : r.ownFailure with
  | none => rfl
  | some k => exact if_neg (idle k own)

/-! ## The confirmation timer (R110) -/

theorem Group.disagreement_eq_some_iff {r : Group} {k : Fin 8} : r.disagreement = some k ↔ GroupConfig.kind r.config = .shared
    ∧ (1 ≤ r.winner.level.val ∧ r.winner.level.val ≤ 5) ∧ r.farBridged ≠ r.winner.channel ∧ k = r.winner.channel := by
  unfold Group.disagreement Request.moves
  by_cases shared : GroupConfig.kind r.config = .shared <;> by_cases level : 1 ≤ r.winner.level.val ∧ r.winner.level.val ≤ 5 <;>
    simp [shared, level]
  exact fun _ => eq_comm

theorem Group.confirm_agreed {r : Group} (now : Nat) (h : r.disagreement = none) :
    r.confirm now = { r with confirmation := none, timeout := false } := by
  unfold Group.confirm
  rw [h]

theorem Group.confirm_late {r : Group} {k : Fin 8} (now : Nat) (h : r.disagreement = some k) (late : r.timeout = true) :
    r.confirm now = r := by
  unfold Group.confirm
  rw [h]
  exact if_pos late

/-- A disagreement on a channel whose timer runs lets it run. -/
theorem Group.confirm_runs {r : Group} {k : Fin 8} {n : Nat} (now : Nat) (h : r.disagreement = some k) (early : ¬ r.timeout = true)
    (runs : r.confirmation = some (k, n)) : r.confirm now = r := by
  unfold Group.confirm
  rw [h]
  refine (if_neg early).trans ?_
  rw [runs]
  exact if_pos rfl

/-- A disagreement on any other channel starts the timer. -/
theorem Group.confirm_starts {r : Group} {k : Fin 8} (now : Nat) (h : r.disagreement = some k) (early : ¬ r.timeout = true)
    (other : ∀ n, r.confirmation ≠ some (k, n)) : r.confirm now = { r with confirmation := some (k, now + 1600) } := by
  unfold Group.confirm
  rw [h]
  refine (if_neg early).trans ?_
  cases running : r.confirmation with
  | none => rfl
  | some c =>
    obtain ⟨k', n⟩ := c
    exact if_neg fun e => other n (running.trans (by rw [e]))

/-! ## The element commands of an evaluation (R91, R108, R117) -/

theorem Element.command_commanded (x : Element) (p : Position) (n : Nat) : (x.command p n).commanded = p := by
  unfold Element.command
  split
  next same => exact same.symm
  · split <;> rfl

theorem Driver.aim_other {d : Driver} {n : Nat} {o : Option ElementId} {p : Option Position} {e : ElementId} (h : o ≠ some e) :
    (d.aim n o p).element[e] = d.element[e] := by
  cases o <;> cases p
  case some.some f p => exact put_other _ _ _ _ fun same => h (congrArg some same)
  all_goals rfl

theorem Driver.aim_unaimed (d : Driver) (n : Nat) (o : Option ElementId) : d.aim n o none = d := by
  cases o <;> rfl

theorem Driver.aim_self (d : Driver) (n : Nat) (e : ElementId) (p : Position) :
    (d.aim n (some e) (some p)).element[e] = d.element[e].command p n := put_same _ _ _

/-- The selector is commanded last. -/
theorem State.commandGroup_selector {s : State} {g : GroupId} {e : ElementId} (selector : GroupConfig.selector s.group[g].config = some e) :
    ((s.commandGroup g).element e).commanded = s.group[g].selectorTarget := by
  unfold State.element
  rw [State.commandGroup_driver, selector, Driver.aim_self]
  exact Element.command_commanded _ _ _

/-- A bridge element that is not the selector as well is where the bridge command put it. -/
theorem State.commandGroup_bridge {s : State} {g : GroupId} {e : ElementId} {p : Position}
    (bridge : GroupConfig.bridge s.group[g].config = some e) (apart : GroupConfig.selector s.group[g].config ≠ some e)
    (target : s.group[g].bridgeTarget = some p) : ((s.commandGroup g).element e).commanded = p := by
  unfold State.element
  rw [State.commandGroup_driver, Driver.aim_other apart, bridge, target, Driver.aim_self]
  exact Element.command_commanded _ _ _

/-- An element that is neither selector nor commanded bridge stands. -/
theorem State.commandGroup_other {s : State} {g : GroupId} {e : ElementId} (selector : GroupConfig.selector s.group[g].config ≠ some e)
    (bridge : GroupConfig.bridge s.group[g].config ≠ some e ∨ s.group[g].bridgeTarget = none) :
    (s.commandGroup g).element e = s.element e := by
  unfold State.element
  rw [State.commandGroup_driver, Driver.aim_other selector]
  rcases bridge with other | none
  · exact Driver.aim_other other
  · rw [none, Driver.aim_unaimed]

/-- The driver after an update: an evaluation's commands, or as it was. -/
theorem State.takeUpdate_driver (s : State) (heard : Driver) (first : Bool) (g : GroupId) :
    (first = true ∨ s.group[g].evaluated = true → ∃ u : State, u.driver = s.driver
      ∧ u.group[g].config = (s.updated first g).config ∧ u.group[g].accepted = (s.updated first g).accepted
      ∧ u.group[g].winner = (s.updated first g).winner ∧ (s.takeUpdate heard first g).driver = (u.commandGroup g).driver)
    ∧ (¬ (first = true ∨ s.group[g].evaluated = true) → (s.takeUpdate heard first g).driver = s.driver) := by
  have handed (u : State) : ((u.handConditions heard g).formTransmit heard g).driver = u.driver := by
    simp only [State.formTransmit_frame, State.handConditions_frame]
  unfold State.takeUpdate
  dsimp only
  rw [handed, s.bringRequests_evaluated]
  refine ⟨fun due => ?_, fun idle => ?_⟩
  · rw [if_pos (Bool.or_eq_true _ _ ▸ due)]
    obtain ⟨c, cf, to_, w, hc, -, -, -, driver⟩ := (s.bringRequests g).evaluate_group first g
    refine ⟨(s.bringRequests g).setGroup g c, (s.bringRequests_frame g).2.2.2.2.2.2.1, ?_, ?_, ?_, driver⟩ <;>
      rw [State.setGroup_group, State.updated_evaluated due, Group.judged_frame, hc]
  · rw [if_neg (Bool.or_eq_true _ _ ▸ idle)]
    exact (s.bringRequests_frame g).2.2.2.2.2.2.1

end Sys2Proof.Machine

namespace Sys2Proof.Machine

/-! ## SWITCH FAULT and ON PROTECT after the reports of an update's own commands (R93, R121) -/

/-- An element that a configuration names is reported FAULTED. -/
def Driver.faultOf (d : Driver) (cfg : Vector Word 8) : Bool :=
  d.faulted (GroupConfig.selector cfg) || d.faulted (GroupConfig.bridge cfg)

/-- ON PROTECT after the report, if one was made between two drivers, on a selector. -/
def Driver.onProtectAfter (old d : Driver) (selector : Option ElementId) (held : Bool) : Bool :=
  match selector with
  | some e => if Driver.reported old d e then (d.report e).onProtect held else held
  | none => held

theorem Driver.not_reported_iff {old d : Driver} {e : ElementId} : ¬ Driver.reported old d e = true ↔ d.report e = old.report e := by
  simp [Driver.reported]

theorem Driver.onProtectAfter_unreported {old d : Driver} {o : Option ElementId} (held : Bool)
    (h : ∀ e, o = some e → d.report e = old.report e) : old.onProtectAfter d o held = held := by
  cases o with
  | none => rfl
  | some e => exact if_neg (Driver.not_reported_iff.mpr (h e rfl))

/-- ON PROTECT reads the selector's reports alone. -/
theorem Driver.onProtectAfter_congr {old d old' d' : Driver} {o : Option ElementId} (held : Bool)
    (h : ∀ e, o = some e → d'.report e = d.report e ∧ old'.report e = old.report e) :
    old'.onProtectAfter d' o held = old.onProtectAfter d o held := by
  cases o with
  | none => rfl
  | some e =>
    obtain ⟨now, before⟩ := h e rfl
    unfold Driver.onProtectAfter Driver.reported
    simp only [now, before]

theorem Driver.faultOf_congr {d d' : Driver} {cfg : Vector Word 8}
    (h : ∀ e, GroupConfig.selector cfg = some e ∨ GroupConfig.bridge cfg = some e → d'.report e = d.report e) :
    d'.faultOf cfg = d.faultOf cfg := by
  have faulted (o : Option ElementId) (named : ∀ e, o = some e → d'.report e = d.report e) : d'.faulted o = d.faulted o := by
    cases o with
    | none => rfl
    | some e => simp only [Driver.faulted, Option.any_some, named e rfl]
  unfold Driver.faultOf
  rw [faulted _ fun e named => h e (.inl named), faulted _ fun e named => h e (.inr named)]

theorem Driver.faultOf_iff {d : Driver} {cfg : Vector Word 8} : d.faultOf cfg = true ↔ d.on = true ∧ ∃ e : ElementId,
    d.element[e].state = .faulted ∧ (GroupConfig.selector cfg = some e ∨ GroupConfig.bridge cfg = some e) := by
  unfold Driver.faultOf
  rw [Bool.or_eq_true, Driver.faulted_iff, Driver.faulted_iff, ← and_or_left]
  refine and_congr_right fun _ => ⟨?_, ?_⟩
  · rintro (⟨e, named, state⟩ | ⟨e, named, state⟩)
    · exact ⟨e, state, .inl named⟩
    · exact ⟨e, state, .inr named⟩
  · rintro ⟨e, state, named | named⟩
    · exact .inl ⟨e, named, state⟩
    · exact .inr ⟨e, named, state⟩

/-- A report of an update's own command, taken by the group at rest: ON PROTECT follows it if it is on the selector, and SWITCH FAULT
is that of the drivers as now heard of, where no other element the group names was reported (R93, R121). -/
theorem State.Calm.ownReport_elements {s : State} {g : GroupId} (h : s.Calm g) {old heard : Driver} {o : Option ElementId}
    (others : ∀ e, GroupConfig.selector s.group[g].config = some e ∨ GroupConfig.bridge s.group[g].config = some e → o ≠ some e →
      heard.report e = old.report e)
    (fault : s.group[g].conditions.switchFault = old.faultOf s.group[g].config) :
    (s.takeOwnReport old heard g o).group[g].config = s.group[g].config
    ∧ (s.takeOwnReport old heard g o).group[g].conditions.switchFault = heard.faultOf s.group[g].config
    ∧ (s.takeOwnReport old heard g o).group[g].conditions.onProtect
      = old.onProtectAfter heard (GroupConfig.selector s.group[g].config) s.group[g].conditions.onProtect := by
  refine ⟨(s.takeOwnReport_reacts old heard g o).config g, ?_⟩
  by_cases made : ∃ e, o = some e ∧ Driver.reported old heard e = true
  · obtain ⟨e, rfl, made⟩ := made
    have taken : s.takeOwnReport old heard g (some e) = ((s.noteReport heard g e).handConditions heard g).formTransmit heard g :=
      (if_pos made).trans ((h.noted heard e).takeUpdate heard)
    rw [taken, State.handed_group, State.noteReport_group]
    refine ⟨rfl, ?_⟩
    by_cases selector : GroupConfig.selector s.group[g].config = some e
    · rw [selector]
      simp only [Group.conditionsFor, Driver.onProtectAfter, made, selector, if_true]
    · refine (if_neg selector).trans (Driver.onProtectAfter_unreported _ fun e' named => others e' (.inl named) ?_).symm
      rw [named] at selector
      exact selector ∘ Eq.symm
  · have same (e : ElementId) (named : GroupConfig.selector s.group[g].config = some e ∨ GroupConfig.bridge s.group[g].config = some e) :
        heard.report e = old.report e := by
      by_cases own : o = some e
      · exact Driver.not_reported_iff.mp fun reported => made ⟨e, own, reported⟩
      · exact others e named own
    have untaken : s.takeOwnReport old heard g o = s :=
      (h.takeOwnReport old heard o).resolve_right fun ⟨e, own, reported, _⟩ => made ⟨e, own, reported⟩
    rw [untaken, fault]
    exact ⟨(Driver.faultOf_congr same).symm, (Driver.onProtectAfter_unreported _ fun e named => same e (.inl named)).symm⟩

theorem State.updated_config (s : State) (first : Bool) (g : GroupId) : (s.updated first g).config = s.group[g].config := by
  rw [s.updated_frame, s.requested_kept]

/-- The record after an update, its conditions apart, is the updated one. -/
theorem State.groupUpdate_stored (s : State) (first : Bool) (g : GroupId) :
    (s.groupUpdate first g).group[g].stored = (s.requested g).stored := by
  obtain ⟨on, fault, record⟩ := s.groupUpdate_record first g
  rw [record, s.updated_frame]

theorem State.updated_conditions (s : State) (first : Bool) (g : GroupId) : (s.updated first g).conditions =
    { s.group[g].conditions with
      crossShelf := s.sup.crossShelf s.group[g].config, swapped := s.sup.swapped s.group[g].config } := by
  rw [s.updated_frame, s.requested_frame]
  unfold State.refreshGroup
  dsimp only
  split <;> rfl

/-- After an update with its own reports SWITCH FAULT and ON PROTECT follow the elements as its commands left them (R93, R121). -/
theorem State.groupUpdate_elements (s : State) (first : Bool) (g : GroupId) :
    (s.groupUpdate first g).group[g].conditions.switchFault = (s.groupUpdate first g).driver.faultOf s.group[g].config
    ∧ (s.groupUpdate first g).group[g].conditions.onProtect = s.driver.onProtectAfter (s.groupUpdate first g).driver
      (GroupConfig.selector s.group[g].config) s.group[g].conditions.onProtect := by
  have record := s.takeUpdate_record s.driver first g
  have config := s.updated_config first g
  have conditions := s.updated_conditions first g
  have driver := (s.groupUpdate_group first g).1
  have on := s.takeUpdate_on s.driver first g
  have fault : (s.takeUpdate s.driver first g).group[g].conditions.switchFault = s.driver.faultOf s.group[g].config := by
    rw [record, ← config]
    rfl
  have protect : (s.takeUpdate s.driver first g).group[g].conditions.onProtect = s.group[g].conditions.onProtect := by
    rw [record]
    show (s.updated first g).conditions.onProtect = _
    rw [conditions]
  have config : (s.takeUpdate s.driver first g).group[g].config = s.group[g].config := by rw [record, ← config]
  rw [driver]
  by_cases due : first = true ∨ s.group[g].evaluated = true
  · have calm := s.takeUpdate_calm s.driver first g (by rw [s.bringRequests_evaluated]; exact due)
    unfold State.groupUpdate
    dsimp only
    rw [(State.reportSelector_frame _ _ _).2.2.2.2.2.2.1]
    generalize s.takeUpdate s.driver first g = u at config fault protect on calm ⊢
    have heard (e : ElementId) := Driver.hearing_report s.driver u.driver (GroupConfig.bridge s.group[g].config) e on
    have calm' := calm.ownReport_calm s.driver (s.driver.hearing u.driver (GroupConfig.bridge s.group[g].config))
      (GroupConfig.bridge s.group[g].config)
    obtain ⟨config', fault', protect'⟩ := calm.ownReport_elements (old := s.driver)
      (heard := s.driver.hearing u.driver (GroupConfig.bridge s.group[g].config)) (o := GroupConfig.bridge s.group[g].config)
      (fun e _ other => by rw [heard, if_neg other]) (by rw [fault, config])
    rw [config] at config' fault' protect'
    generalize u.takeOwnReport s.driver _ g _ = v at calm' config' fault' protect' ⊢
    obtain ⟨-, fault'', protect''⟩ := calm'.ownReport_elements (heard := u.driver) (o := GroupConfig.selector s.group[g].config)
      (old := s.driver.hearing u.driver (GroupConfig.bridge s.group[g].config))
      (fun e named other => by
        rw [config'] at named
        rw [heard, if_pos (named.resolve_left other)])
      (by rw [fault', config'])
    rw [config'] at fault'' protect''
    refine ⟨fault'', ?_⟩
    rw [protect'', protect', protect]
    by_cases same : GroupConfig.bridge s.group[g].config = GroupConfig.selector s.group[g].config
    · rw [Driver.onProtectAfter_unreported _ fun e named => ?_]
      · exact Driver.onProtectAfter_congr _ fun e named => ⟨by rw [heard, if_pos (same.trans named)], rfl⟩
      · rw [heard, if_pos (same.trans named)]
    · rw [Driver.onProtectAfter_unreported (old := s.driver) _ fun e named => ?_]
      · exact Driver.onProtectAfter_congr _ fun e named => ⟨rfl, by rw [heard, if_neg fun b => same (b.trans named.symm)]⟩
      · rw [heard, if_neg fun b => same (b.trans named.symm)]
  · have stands := (s.takeUpdate_driver s.driver first g).2 due
    rw [s.groupUpdate_of_no_report first g fun e => by rw [stands], stands, fault, protect]
    exact ⟨rfl, (Driver.onProtectAfter_unreported _ fun _ _ => rfl).symm⟩

end Sys2Proof.Machine

namespace Sys2Proof.Machine

/-! ## The winner of an evaluation (R91, R105) -/

theorem Group.choose_incomplete {r : Group} (h : GroupConfig.complete r.config = false) : r.choose = (Request.clear, .local) :=
  if_neg (Bool.eq_false_iff.mp h)

theorem Group.choose_paired {r : Group} (complete : GroupConfig.complete r.config = true) (h : GroupConfig.kind r.config = .paired) :
    r.choose = (r.top, .local) := by
  unfold Group.choose
  rw [if_pos complete, h]

theorem Group.choose_shared {r : Group} (complete : GroupConfig.complete r.config = true) (h : GroupConfig.kind r.config = .shared) :
    r.choose = if r.farRequest.beats r.top then (r.farRequest, .farEnd) else (r.top, .local) := by
  unfold Group.choose
  rw [if_pos complete, h]

/-- An evaluation takes the winner of the record it leaves. -/
theorem State.updated_chosen {s : State} {first : Bool} {g : GroupId} (due : first = true ∨ s.group[g].evaluated = true) :
    (s.updated first g).winner = (s.updated first g).choose.1 ∧ (s.updated first g).source = (s.updated first g).choose.2
    ∧ (s.updated first g).evaluated = true := by
  rw [State.updated_evaluated due, Group.judged_frame]
  exact ⟨rfl, rfl, rfl⟩

theorem State.updated_top (s : State) (first : Bool) (g : GroupId) :
    (s.updated first g).top = topRequest (s.updated first g).localRequests := by
  obtain ⟨en, w, settled⟩ : ∃ en w, s.settleEntry (s.requested g) = { s.requested g with entry := en, restoreWait := w } :=
    ⟨_, _, s.settleEntry_frame _⟩
  rw [s.updated_frame, settled]
  rfl

/-- A group that is not evaluated keeps its winner and its confirmation timer. -/
theorem State.updated_waits {s : State} {first : Bool} {g : GroupId} (idle : ¬ (first = true ∨ s.group[g].evaluated = true)) :
    (s.updated first g).evaluated = false ∧ (s.updated first g).winner = s.group[g].winner
    ∧ (s.updated first g).confirmation = s.group[g].confirmation ∧ (s.updated first g).timeout = s.group[g].timeout := by
  rw [State.updated_unevaluated idle, s.bringRequests_record, State.settleEntry_frame, s.requested_kept]
  exact ⟨eq_false_of_ne_true (not_or.mp idle).2, rfl, rfl, rfl⟩

/-- The entry's timer after an update that is no first evaluation is as the entry was settled. -/
theorem State.updated_restoreWait (s : State) (g : GroupId) :
    (s.updated false g).restoreWait = (s.settleEntry (s.requested g)).restoreWait := by
  unfold State.updated
  dsimp only
  split
  · rw [Group.judged_frame, s.bringRequests_record]
    rfl
  · rw [s.bringRequests_record]

theorem restoreWaitTime_eq (c : Vector Word 8) : restoreWaitTime c = 480000 * GroupConfig.restoreWait c := by
  unfold restoreWaitTime Config.ms
  omega

/-- A first evaluation starts the timer of a WAIT entry (R96). -/
theorem State.updated_firstWait {s : State} {g : GroupId} {k : ChannelIx} (wait : (s.updated true g).entry = some (.wait k)) :
    (s.updated true g).restoreWait = some (s.now + 480000 * GroupConfig.restoreWait s.group[g].config) := by
  have config := s.updated_config true g
  rw [State.updated_evaluated (.inl rfl), Group.judged_frame] at wait config ⊢
  dsimp only at wait config ⊢
  unfold Group.firstEvaluated
  rw [if_pos rfl, wait, ← config, ← restoreWaitTime_eq]

/-! ## The events of an update (R86, R92) -/

/-- A stored MANUAL that the update removes goes with its event. -/
theorem State.takeUpdate_cancels {s : State} {heard : Driver} {first : Bool} {g : GroupId} {k : ChannelIx}
    (manual : s.group[g].stored = some (.manual k)) (gone : (s.requested g).stored = none) :
    (s.takeUpdate heard first g).Logged g (.command 3 .refusedLevel) s.poster.shelfTime := by
  have stored : (s.refreshGroup s.group[g]).stored = some (.manual k) := by rw [s.refreshGroup_frame, manual]
  have held : (s.refreshGroup s.group[g]).conditionRequests ≠ [] := fun none => by
    unfold State.requested Group.yieldManual at gone
    rw [none, if_neg (not_not.mpr rfl), stored] at gone
    cases gone
  have cancelled : ((s.setGroup g (s.refreshGroup s.group[g])).cancelManual g).Logged g (.command 3 .refusedLevel) s.poster.shelfTime := by
    unfold State.cancelManual
    rw [State.setGroup_group, stored]
    exact State.putEvent_logged _ _ _
  have brought : (s.bringRequests g).Logged g (.command 3 .refusedLevel) s.poster.shelfTime := by
    unfold State.bringRequests
    dsimp only
    rw [State.setGroup_group, if_pos held]
    exact (State.setGroup_logs _ g _).logged cancelled
  exact ((State.Logs.iteSelf (State.evaluate_logs _ first g)).trans (State.handed_logs _ heard g)).logged brought

/-- A changed winner goes with its event. -/
theorem State.takeUpdate_switches {s : State} {heard : Driver} {first : Bool} {g : GroupId}
    (due : first = true ∨ s.group[g].evaluated = true) (changed : (s.updated first g).winner ≠ s.group[g].winner) :
    (s.takeUpdate heard first g).Logged g (.switch s.group[g].winner (s.updated first g).winner) s.poster.shelfTime := by
  have old : (s.bringRequests g).group[g].winner = s.group[g].winner := by
    rw [s.bringRequests_record, State.settleEntry_frame, s.requested_kept]
  have new : (s.bringRequests g).group[g].choose.1 = (s.updated first g).winner := by
    rw [State.updated_evaluated due, Group.judged_frame]
  have time := (s.bringRequests_logs g).time
  have evaluated : ((s.bringRequests g).evaluate first g).Logged g (.switch s.group[g].winner (s.updated first g).winner)
      s.poster.shelfTime := by
    unfold State.evaluate
    dsimp only
    rw [old, new, if_neg changed.symm]
    refine (State.setGroup_logs _ g _).logged ?_
    rw [← time]
    have stamp : ∀ r, (((s.bringRequests g).setGroup g r).commandGroup g).poster.shelfTime = (s.bringRequests g).poster.shelfTime :=
      fun r => by simp only [State.commandGroup_frame, State.setGroup_frame]
    rw [← stamp]
    exact State.putEvent_logged _ _ _
  refine (State.handed_logs _ heard g).logged ?_
  rw [if_pos (by rw [s.bringRequests_evaluated, Bool.or_eq_true]; exact due)]
  exact evaluated

end Sys2Proof.Machine

namespace Sys2Proof.Claims
open Sys2Proof.Machine

/-! ## The highest request (R89) -/

theorem heldAboveEntry_iff {r : Group} : r.heldAboveEntry = true ↔ ∃ q, Held r q ∧ 2 ≤ q.level.val := by
  unfold Group.heldAboveEntry
  rw [decide_eq_true_eq, le_topLevel_iff (by decide)]
  simp only [mem_localRequests_iff]

/-- A request of level 2 or above is held whatever the entry is. -/
theorem held_high_congr {r x : Group} (config : x.config = r.config) (channel : x.channel = r.channel) (pfail : x.pfail = r.pfail)
    (stored : x.stored = r.stored) : (∃ q, Held x q ∧ 2 ≤ q.level.val) ↔ ∃ q, Held r q ∧ 2 ≤ q.level.val := by
  refine exists_congr fun q => and_congr_left fun high => ?_
  unfold Held
  rw [HeldCondition.congr config channel pfail, config, stored]
  have apart (l : Fin 8) (low : l.val < 2) : q.level ≠ l := fun e => by rw [e] at high; omega
  have one := apart 1 (by decide)
  have stay : q ≠ ⟨1, 1⟩ := fun e => one (by rw [e])
  simp only [one, stay, and_false, false_or, or_false]

/-! ## The entry settled (R87, R88) -/

theorem enterEntry_cases (s : State) (r : Group) (k : ChannelIx) :
    ((GroupConfig.kind r.config = .shared ∨ GroupConfig.revertive r.config = true) → (s.enterEntry r k).entry = some (.wait k)
      ∧ (s.enterEntry r k).restoreWait = some (s.now + 480000 * GroupConfig.restoreWait r.config))
    ∧ (¬ (GroupConfig.kind r.config = .shared ∨ GroupConfig.revertive r.config = true) →
      (s.enterEntry r k).entry = some .stay ∧ (s.enterEntry r k).restoreWait = r.restoreWait) := by
  unfold State.enterEntry
  refine ⟨fun waits => ?_, fun stays => ?_⟩
  · rw [if_pos waits, restoreWaitTime_eq]
    exact ⟨rfl, rfl⟩
  · rw [if_neg stays]
    exact ⟨rfl, rfl⟩

theorem entrySettled_settleEntry (s : State) (r : Group) : EntrySettled s r (s.settleEntry r) := by
  obtain ⟨en, w, frame⟩ : ∃ en w, s.settleEntry r = { r with entry := en, restoreWait := w } := ⟨_, _, s.settleEntry_frame r⟩
  have high : (∃ q, Held (s.settleEntry r) q ∧ 2 ≤ q.level.val) ↔ r.heldAboveEntry = true := by
    rw [heldAboveEntry_iff, frame]
    exact held_high_congr rfl rfl rfl rfl
  have channel : (s.settleEntry r).channel = r.channel := by rw [frame]
  unfold EntrySettled
  dsimp only
  rw [high, channel]
  have own (k : ChannelIx) (low : ¬ r.heldAboveEntry = true) : r.ownFailure = some k ∧ s.entersEntry r k = true
      ↔ r.evaluated = true ∧ GroupConfig.complete r.config = true ∧ r.source = .local
        ∧ (r.winner.level = 3 ∨ r.winner.level = 4) ∧ r.winner.channel.val = k.val + 1 ∧ r.channel[k].request = .clear
        ∧ ∃ e : ElementId, GroupConfig.selector r.config = some e ∧ (s.element e).commanded.val = k.val + 1 := by
    rw [Group.ownFailure_eq_some_iff, State.entersEntry_iff]
    exact ⟨fun ⟨⟨source, level, at_⟩, evaluated, complete, clear, _, selector⟩ =>
      ⟨evaluated, complete, source, level, at_, clear, selector⟩,
      fun ⟨evaluated, complete, source, level, at_, clear, selector⟩ =>
        ⟨⟨source, level, at_⟩, evaluated, complete, clear, low, selector⟩⟩
  refine ⟨fun h => ?_, fun low held => ?_, fun k low none owns => ?_, fun low none others => ?_⟩
  · rw [State.settleEntry_high h]
    exact ⟨rfl, rfl⟩
  · rw [State.settleEntry_held low held]
    exact ⟨rfl, rfl⟩
  · obtain ⟨failure, enters⟩ := (own k low).mpr owns
    rw [State.settleEntry_enters low none failure enters]
    exact enterEntry_cases s r k
  · rw [State.settleEntry_idle low none fun k failure enters => others k ((own k low).mp ⟨failure, enters⟩)]
    exact ⟨none, rfl⟩

/-- The entry after an update that is no first evaluation. -/
theorem entrySettled_updated (s : State) (g : GroupId) : EntrySettled s s.group[g] (s.updated false g) := by
  have wait := s.updated_restoreWait g
  have settled := entrySettled_settleEntry s (s.requested g)
  rw [s.updated_frame, wait]
  rw [s.settleEntry_frame] at settled
  have kept := s.requested_kept g
  generalize s.settleEntry (s.requested g) = y at settled ⊢
  generalize s.requested g = r at kept settled ⊢
  rw [kept] at settled ⊢
  exact settled

end Sys2Proof.Claims

namespace Sys2Proof.Machine

theorem positionOf_val {n : Fin 8} (h : n.val < 5) : (positionOf n).val = n.val := by
  unfold positionOf
  rw [dif_pos h]

/-- While the far end disagrees no evaluation touches the timeout. -/
theorem Group.confirm_timeout {r : Group} {k : Fin 8} (now : Nat) (h : r.disagreement = some k) :
    (r.confirm now).timeout = r.timeout := by
  by_cases late : r.timeout = true
  · rw [Group.confirm_late _ h late]
  by_cases runs : ∃ n, r.confirmation = some (k, n)
  · obtain ⟨n, runs⟩ := runs
    rw [Group.confirm_runs _ h late runs]
  · rw [Group.confirm_starts _ h late fun n e => runs ⟨n, e⟩]

/-! ## Where the winner puts the elements (R91, R108) -/

theorem Request.moves_eq_some {w : Request} (h : 1 ≤ w.level.val ∧ w.level.val ≤ 5) : w.moves = some w.channel := if_pos h

theorem Request.moves_eq_none {w : Request} (h : ¬ (1 ≤ w.level.val ∧ w.level.val ≤ 5)) : w.moves = none := if_neg h

theorem Group.selectorTarget_incomplete {r : Group} (h : GroupConfig.complete r.config = false) : r.selectorTarget = 0 :=
  if_neg (Bool.eq_false_iff.mp h)

theorem Group.selectorTarget_still {r : Group} (h : ¬ (1 ≤ r.winner.level.val ∧ r.winner.level.val ≤ 5)) : r.selectorTarget = 0 := by
  unfold Group.selectorTarget
  rw [Request.moves_eq_none h]
  cases GroupConfig.kind r.config <;> exact ite_self 0

theorem Group.selectorTarget_none {r : Group} (h : GroupConfig.kind r.config = .none) : r.selectorTarget = 0 := by
  unfold Group.selectorTarget
  rw [h]
  exact ite_self 0

theorem Group.selectorTarget_paired {r : Group} (complete : GroupConfig.complete r.config = true)
    (kind : GroupConfig.kind r.config = .paired) (moves : 1 ≤ r.winner.level.val ∧ r.winner.level.val ≤ 5) :
    r.selectorTarget = if r.winner.channel = 1 then 1 else 0 := by
  unfold Group.selectorTarget
  rw [if_pos complete, kind, Request.moves_eq_some moves]

theorem Group.selectorTarget_shared {r : Group} (complete : GroupConfig.complete r.config = true)
    (kind : GroupConfig.kind r.config = .shared) (moves : 1 ≤ r.winner.level.val ∧ r.winner.level.val ≤ 5) :
    r.selectorTarget = if r.farBridged = r.winner.channel then positionOf r.winner.channel else 0 := by
  unfold Group.selectorTarget
  rw [if_pos complete, kind, Request.moves_eq_some moves]

theorem Group.bridgeTarget_shared {r : Group} (complete : GroupConfig.complete r.config = true)
    (kind : GroupConfig.kind r.config = .shared) : r.bridgeTarget = some ((r.winner.moves.map positionOf).getD 0) :=
  if_pos ⟨complete, kind⟩

theorem Group.bridgeTarget_none {r : Group} (h : GroupConfig.complete r.config = false ∨ GroupConfig.kind r.config ≠ .shared) :
    r.bridgeTarget = none :=
  if_neg fun ⟨complete, kind⟩ => h.elim (fun n => by rw [n] at complete; cases complete) fun n => n kind

end Sys2Proof.Machine

namespace Sys2Proof.Claims
open Sys2Proof.Machine

/-! ## The winner (R91, R105) -/

/-- The winner that a record chooses, and of a complete SHARED group its source. -/
theorem choose_cases (r : Group) :
    (GroupConfig.complete r.config = false → r.choose.1 = ⟨0, 0⟩)
    ∧ (GroupConfig.complete r.config = true → GroupConfig.kind r.config = .paired → r.choose.1 = r.top)
    ∧ (∀ far top : Request, GroupConfig.complete r.config = true → GroupConfig.kind r.config = .shared →
        top = r.top → far = r.farRequest →
        (top.level.val < far.level.val ∨ (top.level = far.level ∧ far.channel.val < top.channel.val) →
          r.choose.1 = far ∧ r.choose.2 = .farEnd)
        ∧ (¬ (top.level.val < far.level.val ∨ (top.level = far.level ∧ far.channel.val < top.channel.val)) →
          r.choose.1 = top ∧ r.choose.2 = .local)) := by
  refine ⟨fun h => ?_, fun c h => ?_, fun far top c h is_top is_far => ?_⟩
  · rw [Group.choose_incomplete h]
    rfl
  · rw [Group.choose_paired c h]
  · rw [Group.choose_shared c h, ← is_far, ← is_top, eq_comm (a := top.level), ← Request.beats_iff]
    refine ⟨fun beats => ?_, fun stands => ?_⟩
    · rw [if_pos beats]
      exact ⟨rfl, rfl⟩
    · rw [if_neg stands]
      exact ⟨rfl, rfl⟩

/-! ## The confirmation timer (R110) -/

/-- What R110 asks of the confirmation timer and the timeout, `apart` saying that the far end disagrees. -/
def ConfirmedBy (s : State) (r x : Group) (apart : Prop) : Prop :=
  (¬ apart → x.confirmation = none ∧ x.timeout = false)
  ∧ (apart → x.timeout = r.timeout)
  ∧ (apart → r.timeout = true → x.confirmation = r.confirmation)
  ∧ (∀ n, apart → r.timeout = false → r.confirmation = some (x.winner.channel, n) → x.confirmation = r.confirmation)
  ∧ (apart → r.timeout = false → (∀ n, r.confirmation ≠ some (x.winner.channel, n)) →
      x.confirmation = some (x.winner.channel, s.now + 1600))

theorem confirmed_eq (s : State) (r x : Group) : Confirmed s r x = ConfirmedBy s r x (GroupConfig.kind r.config = .shared
    ∧ 1 ≤ x.winner.level.val ∧ x.winner.level.val ≤ 5 ∧ x.farBridged.val ≠ x.winner.channel.val) := by
  unfold Confirmed Group.farBridged
  cases x.accepted <;> rfl

theorem confirmed_confirm (s : State) (r : Group) : Confirmed s r (r.confirm s.now) := by
  obtain ⟨c, o, frame⟩ : ∃ c o, r.confirm s.now = { r with confirmation := c, timeout := o } := ⟨_, _, Group.confirm_frame r s.now⟩
  have apart : (GroupConfig.kind r.config = .shared ∧ 1 ≤ r.winner.level.val ∧ r.winner.level.val ≤ 5
      ∧ r.farBridged.val ≠ r.winner.channel.val) ↔ r.disagreement = some r.winner.channel := by
    rw [Group.disagreement_eq_some_iff, ne_eq, ne_eq, ← Fin.ext_iff, and_assoc]
    simp only [and_true]
  have agreed (h : ¬ r.disagreement = some r.winner.channel) : r.disagreement = none :=
    Option.eq_none_iff_forall_ne_some.mpr fun k e => by
      obtain ⟨-, -, -, rfl⟩ := Group.disagreement_eq_some_iff.mp e
      exact h e
  rw [confirmed_eq, show (r.confirm s.now).farBridged = r.farBridged by rw [frame]; rfl,
    show (r.confirm s.now).winner = r.winner by rw [frame], apart]
  unfold ConfirmedBy
  rw [show (r.confirm s.now).winner = r.winner by rw [frame]]
  refine ⟨fun h => ?_, fun h => Group.confirm_timeout _ h, fun h late => ?_, fun n h early runs => ?_, fun h early other => ?_⟩
  · rw [Group.confirm_agreed _ (agreed h)]
    exact ⟨rfl, rfl⟩
  · rw [Group.confirm_late _ h late]
  · rw [Group.confirm_runs _ h (Bool.eq_false_iff.mp early) runs]
  · rw [Group.confirm_starts _ h (Bool.eq_false_iff.mp early) other]

theorem confirmed_updated {s : State} {first : Bool} {g : GroupId} (due : first = true ∨ s.group[g].evaluated = true) :
    Confirmed s s.group[g] (s.updated first g) := by
  have kept : (s.bringRequests g).group[g].timeout = s.group[g].timeout
      ∧ (s.bringRequests g).group[g].confirmation = s.group[g].confirmation
      ∧ (s.bringRequests g).group[g].config = s.group[g].config := by
    rw [s.bringRequests_record, State.settleEntry_frame, s.requested_kept]
    exact ⟨rfl, rfl, rfl⟩
  rw [State.updated_evaluated due, Group.judged_frame]
  generalize (s.bringRequests g).group[g] = r at kept ⊢
  obtain ⟨timeout, confirmation, config⟩ := kept
  have confirmed := confirmed_confirm s { r with winner := r.choose.1, source := r.choose.2 }
  obtain ⟨c, o, frame⟩ : ∃ c o, Group.confirm { r with winner := r.choose.1, source := r.choose.2 } s.now
      = { r with winner := r.choose.1, source := r.choose.2, confirmation := c, timeout := o } := ⟨_, _, Group.confirm_frame _ s.now⟩
  rw [frame] at confirmed ⊢
  rw [confirmed_eq] at confirmed ⊢
  unfold ConfirmedBy at confirmed ⊢
  rw [← timeout, ← confirmation, ← config]
  exact confirmed

/-! ## Where the winner puts the elements (R91, R108) -/

theorem selectorTarget_val {r : Group} (range : r.winner.channel.val < 5) : r.selectorTarget.val =
    if GroupConfig.complete r.config = true ∧ 1 ≤ r.winner.level.val ∧ r.winner.level.val ≤ 5
      ∧ (GroupConfig.kind r.config = .paired → r.winner.channel = 1)
      ∧ (GroupConfig.kind r.config = .shared → ∃ w, r.accepted = some w ∧ bridgeBridged w = r.winner.channel)
      ∧ GroupConfig.kind r.config ≠ .none
    then r.winner.channel.val else 0 := by
  cases complete : GroupConfig.complete r.config with
  | false => rw [Group.selectorTarget_incomplete complete, if_neg nofun]; rfl
  | true =>
  by_cases moves : 1 ≤ r.winner.level.val ∧ r.winner.level.val ≤ 5
  case neg =>
    rw [Group.selectorTarget_still moves, if_neg fun h => moves ⟨h.2.1, h.2.2.1⟩]
    rfl
  cases kind : GroupConfig.kind r.config with
  | none => rw [Group.selectorTarget_none kind, if_neg fun h => h.2.2.2.2.2 rfl]; rfl
  | paired =>
    rw [Group.selectorTarget_paired complete kind moves]
    by_cases one : r.winner.channel = 1
    · rw [if_pos one, if_pos ⟨rfl, moves.1, moves.2, fun _ => one, nofun, nofun⟩, one]
      rfl
    · rw [if_neg one, if_neg fun h => one (h.2.2.2.1 rfl)]
      rfl
  | shared =>
    rw [Group.selectorTarget_shared complete kind moves]
    by_cases zero : r.winner.channel = 0
    · rw [zero]
      simp [positionOf]
    have far : r.farBridged = r.winner.channel ↔ ∃ w, r.accepted = some w ∧ bridgeBridged w = r.winner.channel := by
      unfold Group.farBridged
      cases r.accepted with
      | none => simp [Ne.symm zero]
      | some w => simp
    by_cases agrees : r.farBridged = r.winner.channel
    · rw [if_pos agrees, if_pos ⟨rfl, moves.1, moves.2, nofun, fun _ => far.mp agrees, nofun⟩, positionOf_val range]
    · rw [if_neg agrees, if_neg fun h => agrees (far.mpr (h.2.2.2.2.1 rfl))]
      rfl

theorem bridgeTarget_val {r : Group} (complete : GroupConfig.complete r.config = true) (kind : GroupConfig.kind r.config = .shared)
    (range : r.winner.channel.val < 5) : ∃ p, r.bridgeTarget = some p
      ∧ p.val = if 1 ≤ r.winner.level.val ∧ r.winner.level.val ≤ 5 then r.winner.channel.val else 0 := by
  refine ⟨_, Group.bridgeTarget_shared complete kind, ?_⟩
  split
  next moves => rw [Request.moves_eq_some moves]; exact positionOf_val range
  next still => rw [Request.moves_eq_none still]; rfl

end Sys2Proof.Claims

namespace Sys2Proof.Machine

/-- The elements after an evaluation: the selector is where the winner puts it. -/
theorem State.groupUpdate_selector {s : State} {first : Bool} {g : GroupId} {e : ElementId}
    (due : first = true ∨ s.group[g].evaluated = true) (selector : GroupConfig.selector s.group[g].config = some e) :
    ((s.groupUpdate first g).element e).commanded = (s.updated first g).selectorTarget := by
  obtain ⟨u, -, config, accepted, winner, driver⟩ := (s.takeUpdate_driver s.driver first g).1 due
  have target : u.group[g].selectorTarget = (s.updated first g).selectorTarget := by
    unfold Group.selectorTarget Group.farBridged
    rw [config, accepted, winner]
  unfold State.element
  rw [(s.groupUpdate_group first g).1, driver, ← target]
  exact State.commandGroup_selector (by rw [config, s.updated_config]; exact selector)

/-- The bridge element after an evaluation, where it is not the selector as well. -/
theorem State.groupUpdate_bridge {s : State} {first : Bool} {g : GroupId} {e : ElementId}
    (due : first = true ∨ s.group[g].evaluated = true) (bridge : GroupConfig.bridge s.group[g].config = some e)
    (apart : GroupConfig.selector s.group[g].config ≠ some e) :
    (∀ p, (s.updated first g).bridgeTarget = some p → ((s.groupUpdate first g).element e).commanded = p)
    ∧ ((s.updated first g).bridgeTarget = none → (s.groupUpdate first g).element e = s.element e) := by
  obtain ⟨u, before, config, accepted, winner, driver⟩ := (s.takeUpdate_driver s.driver first g).1 due
  have target : u.group[g].bridgeTarget = (s.updated first g).bridgeTarget := by
    unfold Group.bridgeTarget
    rw [config, winner]
  rw [← s.updated_config first g, ← config] at bridge apart
  unfold State.element
  rw [(s.groupUpdate_group first g).1, driver, ← target, ← before]
  exact ⟨fun p aims => State.commandGroup_bridge bridge apart aims, fun none => State.commandGroup_other apart (.inr none)⟩

/-- An element that the group does not name stands. -/
theorem State.groupUpdate_unnamed {s : State} {first : Bool} {g : GroupId} {e : ElementId}
    (selector : GroupConfig.selector s.group[g].config ≠ some e) (bridge : GroupConfig.bridge s.group[g].config ≠ some e) :
    (s.groupUpdate first g).element e = s.element e := by
  unfold State.element
  rw [(s.groupUpdate_group first g).1]
  by_cases due : first = true ∨ s.group[g].evaluated = true
  · obtain ⟨u, before, config, -, -, driver⟩ := (s.takeUpdate_driver s.driver first g).1 due
    rw [← s.updated_config first g, ← config] at selector bridge
    rw [driver, ← before]
    exact State.commandGroup_other selector (.inl bridge)
  · rw [(s.takeUpdate_driver s.driver first g).2 due]

theorem State.groupUpdate_on (s : State) (first : Bool) (g : GroupId) : (s.groupUpdate first g).driver.on = s.driver.on := by
  rw [(s.groupUpdate_group first g).1, State.takeUpdate_on]

end Sys2Proof.Machine

namespace Sys2Proof.Claims
open Sys2Proof.Machine

/-! ## A group's update, requirement by requirement -/

/-- The record after steps 1 to 4 holds the requests that step 2 leaves. -/
theorem requestsMet_updated (s : State) (first : Bool) (g : GroupId) : RequestsMet s s.group[g] (s.updated first g) := by
  have met := requestsMet_requested s g
  rw [s.updated_frame]
  exact met

/-- The highest request held, or none (R89). -/
theorem updated_highest (s : State) (first : Bool) (g : GroupId) :
    ((s.updated first g).localRequests = [] → (s.updated first g).top = ⟨0, 0⟩)
    ∧ ((s.updated first g).localRequests ≠ [] → (s.updated first g).top ∈ (s.updated first g).localRequests)
    ∧ (∀ x ∈ (s.updated first g).localRequests, x.level.val < (s.updated first g).top.level.val
        ∨ (x.level = (s.updated first g).top.level ∧ (s.updated first g).top.channel.val ≤ x.channel.val)) := by
  rw [s.updated_top]
  refine ⟨fun none => ?_, fun some => ?_, fun x mem => ?_⟩
  · rw [none]
    rfl
  · exact topRequest_mem_of_ne (fun x mem => (mem_localRequests_iff.mp mem).level_pos) some
  · exact Request.not_beats_iff.mp (topRequest_greatest mem)

/-- The winner of a complete SHARED group, by the accepted word (R105). -/
theorem updated_winner {s : State} {first : Bool} {g : GroupId} (due : first = true ∨ s.group[g].evaluated = true) :
    (GroupConfig.complete s.group[g].config = false → (s.updated first g).winner = ⟨0, 0⟩)
    ∧ (GroupConfig.complete s.group[g].config = true → GroupConfig.kind s.group[g].config = .paired →
        (s.updated first g).winner = (s.updated first g).top)
    ∧ (∀ far top : Request, GroupConfig.complete s.group[g].config = true → GroupConfig.kind s.group[g].config = .shared →
        top = (s.updated first g).top → far = (s.updated first g).farRequest →
        (top.level.val < far.level.val ∨ (top.level = far.level ∧ far.channel.val < top.channel.val) →
          (s.updated first g).winner = far ∧ (s.updated first g).source = .farEnd)
        ∧ (¬ (top.level.val < far.level.val ∨ (top.level = far.level ∧ far.channel.val < top.channel.val)) →
          (s.updated first g).winner = top ∧ (s.updated first g).source = .local)) := by
  obtain ⟨winner, source, -⟩ := State.updated_chosen due
  have config := s.updated_config first g
  rw [winner, source, ← config]
  exact choose_cases _

/-- The five conditions that an update leaves (R65, R66, R83, R93, R111). -/
theorem conditionsMet_groupUpdate (s : State) (first : Bool) (g : GroupId) : ConditionsMet s (s.groupUpdate first g) g := by
  obtain ⟨fault, -⟩ := s.groupUpdate_elements first g
  obtain ⟨on, sf, record⟩ := s.groupUpdate_record first g
  have config := s.updated_config first g
  have conditions := s.updated_conditions first g
  have crossShelf : (s.groupUpdate first g).group[g].conditions.crossShelf = s.sup.crossShelf s.group[g].config := by
    rw [record]
    exact congrArg GroupConditions.crossShelf conditions
  have swapped : (s.groupUpdate first g).group[g].conditions.swapped = s.sup.swapped s.group[g].config := by
    rw [record]
    exact congrArg GroupConditions.swapped conditions
  have config' : (s.groupUpdate first g).group[g].config = s.group[g].config := by
    rw [record]
    exact config
  refine ⟨?_, ?_, ?_, ?_, ?_⟩
  · rw [record]
    simp only [Group.conditionsFor, Bool.or_eq_true, Bool.and_eq_true, decide_eq_true_eq, Bool.not_eq_true']
  · rw [crossShelf, config']
    exact crossShelf_iff s _
  · rw [swapped, config']
    exact swapped_iff s _
  · rw [record]
    simp only [Group.conditionsFor, Bool.or_eq_true, Bool.and_eq_true, decide_eq_true_eq, or_assoc]
  · rw [fault, config']
    exact Driver.faultOf_iff

/-- ON PROTECT after an update: the selector's report alone changes it, and only a settled one (R93). -/
theorem onProtect_groupUpdate (s : State) (first : Bool) (g : GroupId) :
    (∀ e x, GroupConfig.selector s.group[g].config = some e → SettledAt (s.groupUpdate first g) e x → ¬ SettledAt s e x →
      ((s.groupUpdate first g).group[g].conditions.onProtect = true ↔ x ≠ 0))
    ∧ ((∀ e, GroupConfig.selector s.group[g].config = some e → ¬ ShownAs (s.groupUpdate first g) e .settled
        ∨ (s.groupUpdate first g).element e = s.element e) →
      (s.groupUpdate first g).group[g].conditions.onProtect = s.group[g].conditions.onProtect) := by
  rw [(s.groupUpdate_elements first g).2]
  refine ⟨fun e x selector settled before => ?_, fun still => ?_⟩
  · have report : (s.groupUpdate first g).driver.report e = .settled x := Driver.report_eq_settled_iff.mpr settled
    have reported : Driver.reported s.driver (s.groupUpdate first g).driver e = true := by
      by_contra none
      rw [Driver.not_reported_iff, report] at none
      exact before (Driver.report_eq_settled_iff.mp none.symm)
    simp only [Driver.onProtectAfter, selector, reported, if_true, report, Report.onProtect, decide_eq_true_eq, ne_eq, Fin.ext_iff]
    rfl
  · cases selector : GroupConfig.selector s.group[g].config with
    | none => rfl
    | some e =>
      unfold Driver.onProtectAfter
      dsimp only
      split
      next reported =>
        cases report : (s.groupUpdate first g).driver.report e with
        | settled x =>
          have settled := Driver.report_eq_settled_iff.mp report
          have same := (still e selector).resolve_left (not_not.mpr ⟨settled.1, settled.2.1⟩)
          have before : s.driver.report e = .settled x := by
            have settled' := settled.2
            unfold State.element at same
            rw [same] at settled'
            exact Driver.report_eq_settled_iff.mpr ⟨s.groupUpdate_on first g ▸ settled.1, settled'⟩
          rw [Driver.reported, report, before] at reported
          simp at reported
        | travelling | faulted | none => rfl
      · rfl

/-! ### The record after an update -/

theorem requestsMet_groupUpdate (s : State) (first : Bool) (g : GroupId) :
    RequestsMet s s.group[g] (s.groupUpdate first g).group[g] := by
  obtain ⟨on, fault, record⟩ := s.groupUpdate_record first g
  rw [record]
  exact requestsMet_updated s first g

theorem entrySettled_groupUpdate (s : State) (g : GroupId) : EntrySettled s s.group[g] (s.groupUpdate false g).group[g] := by
  obtain ⟨on, fault, record⟩ := s.groupUpdate_record false g
  rw [record]
  exact entrySettled_updated s g

theorem confirmed_groupUpdate {s : State} {first : Bool} {g : GroupId} (due : first = true ∨ s.group[g].evaluated = true) :
    Confirmed s s.group[g] (s.groupUpdate first g).group[g] := by
  obtain ⟨on, fault, record⟩ := s.groupUpdate_record first g
  rw [record]
  exact confirmed_updated due

/-- A group not yet evaluated keeps its winner and its timer, and commands nothing. -/
theorem groupUpdate_waits {s : State} {g : GroupId} (waits : s.group[g].evaluated = false) :
    (s.groupUpdate false g).group[g].evaluated = false ∧ (s.groupUpdate false g).group[g].winner = s.group[g].winner
    ∧ (s.groupUpdate false g).driver = s.driver ∧ (s.groupUpdate false g).group[g].confirmation = s.group[g].confirmation
    ∧ (s.groupUpdate false g).group[g].timeout = s.group[g].timeout := by
  have idle : ¬ (false = true ∨ s.group[g].evaluated = true) := fun due => by
    rw [waits, or_self] at due
    cases due
  obtain ⟨on, fault, record⟩ := s.groupUpdate_record false g
  obtain ⟨evaluated, winner, confirmation, timeout⟩ := State.updated_waits idle
  rw [record]
  exact ⟨evaluated, winner, (s.groupUpdate_group false g).1.trans ((s.takeUpdate_driver s.driver false g).2 idle), confirmation, timeout⟩

end Sys2Proof.Claims

namespace Sys2Proof.Proofs
open Sys2Proof.Machine Sys2Proof.Claims

/-- Settles O43: the record after the update's steps, and the conditions and elements that follow it. -/
theorem groupUpdates : Obligations.GroupUpdates := by
  rintro s t g first rfl
  obtain ⟨on, fault, record⟩ := s.groupUpdate_record first g
  obtain ⟨-, -, path, mailbox, sup⟩ := s.groupUpdate_frame first g
  have logs := s.takeUpdate_groupUpdate_logs first g
  obtain ⟨none, mem, highest⟩ := updated_highest s first g
  have evaluated (due : first = true ∨ s.group[g].evaluated = true) := (State.updated_chosen due).2.2
  obtain ⟨driver, on', fault', whole⟩ := s.groupUpdate_group first g
  refine ⟨fun h n => ((groupUpdate_works s first g).others h n).1, sup, mailbox, path, s.groupUpdate_on first g,
    requestsMet_groupUpdate s first g, fun q => mem_localRequests_iff, ?_, ?_, ?_, ?_, ?_, ?_, ?_, ?_, ?_, conditionsMet_groupUpdate s first g,
    groupPoints_groupUpdate s first g, (onProtect_groupUpdate s first g).1, (onProtect_groupUpdate s first g).2, ?_, rfl⟩
  · intro k manual gone
    rw [State.groupUpdate_stored] at gone
    exact logs.logged (State.takeUpdate_cancels manual gone)
  · rintro rfl
    exact entrySettled_groupUpdate s g
  · rw [record]
    exact none
  · rw [record]
    exact mem
  · rw [record]
    exact highest
  · rintro rfl waits
    exact groupUpdate_waits waits
  · rintro k rfl wait -
    rw [record] at wait ⊢
    exact State.updated_firstWait wait
  · intro due
    obtain ⟨incomplete, paired, shared⟩ := updated_winner due
    have config := s.updated_config first g
    rw [record]
    refine ⟨evaluated due, incomplete, paired,
      fun far top complete kind is_top is_far => shared far top complete kind is_top (is_far.trans ?_),
      fun changed => logs.logged (State.takeUpdate_switches due changed), fun e selector range => ?_, fun e bridge apart => ?_,
      confirmed_updated due⟩
    · unfold Group.farRequest
      dsimp only
      cases (s.updated first g).accepted <;> rfl
    · rw [State.groupUpdate_selector due selector, ← config]
      exact selectorTarget_val (r := s.updated first g) range
    · obtain ⟨moved, stands⟩ := State.groupUpdate_bridge due bridge apart
      rw [← config]
      refine ⟨fun complete kind range => ?_, fun idle => stands (Group.bridgeTarget_none idle)⟩
      obtain ⟨p, target, val⟩ := bridgeTarget_val complete kind range
      rw [moved p target]
      exact val
  · exact fun e selector bridge => State.groupUpdate_unnamed selector bridge
  · refine ⟨_, rfl, groupPoints_takeUpdate s s.driver first g, driver, logs.queue, ?_, ?_, ?_⟩
    · have onProtect := congrArg GroupConditions.onProtect (s.updated_conditions first g)
      rw [State.takeUpdate_record]
      exact onProtect
    · rw [State.takeUpdate_record]
      exact (congrArg (fun c => s.driver.faultOf c = true) (s.updated_config first g)).to_iff.trans Driver.faultOf_iff
    · rw [whole]

end Sys2Proof.Proofs

namespace Sys2Proof.Claims
open Sys2Proof.Machine

/-! ## A group's timer expires (R81, R88, R110) -/

theorem gradeCond_congr {s t : State} (sup : t.sup = s.sup) (c : Vector Word 8) (k : ChannelIx) : gradeCond t c k = gradeCond s c k := by
  unfold gradeCond
  rw [sup]

/-- A channel with no hold-off whose raised request is its grade condition stays so. -/
theorem raised_known {s : State} {c : Vector Word 8} {k : ChannelIx} {r x : Channel} (met : ChannelMet s c k r x)
    (idle : r.holdOff = none) (raised : r.raised = gradeCond s c k) : x.holdOff = none ∧ x.raised = gradeCond s c k := by
  obtain ⟨clear, -, -, -, known, -, -⟩ := met
  by_cases none : gradeCond s c k = .clear
  · exact ⟨(clear none).2, (clear none).1.trans none.symm⟩
  · exact (known none idle (.inl raised)).symm

/-- What the expiry of a group's timer leaves, with the update of the group's record that it makes. -/
theorem expiry_frame {s t : State} {g : GroupId} {n : Nat} {r : Group}
    (served : Regranted (((s.passTo n).setGroup g r).updateGroup g) t) :
    t.now = max s.now n ∧ OtherGroups s t g ∧ t.sup = s.sup ∧ t.mailbox = s.mailbox ∧ t.path.mem = s.path.mem := by
  obtain ⟨_, rfl⟩ := served
  have others := (groupUpdate_works ((s.passTo n).setGroup g r) false g).others
  simp only [State.updateGroup_frame]
  exact ⟨rfl, fun h apart => ((others h apart).1).trans (put_other _ _ _ _ apart.symm), rfl, rfl, rfl⟩

/-- The update at the expiry, as the group's record shows it. -/
theorem expiry_record {s t : State} {g : GroupId} {n : Nat} {r : Group}
    (served : Regranted (((s.passTo n).setGroup g r).updateGroup g) t) :
    RequestsMet (s.passTo n) r t.group[g] ∧ EntrySettled ((s.passTo n).setGroup g r) r t.group[g]
    ∧ (r.evaluated = true → Confirmed ((s.passTo n).setGroup g r) r t.group[g])
    ∧ (r.evaluated = false → t.group[g].confirmation = r.confirmation)
    ∧ (t.group[g].timeout = true → GroupConfig.kind r.config = .shared → t.pointRaised (.group g 4) = true) := by
  have own : ((s.passTo n).setGroup g r).group[g] = r := State.setGroup_group _ _ _
  have requests := requestsMet_groupUpdate ((s.passTo n).setGroup g r) false g
  have entry := entrySettled_groupUpdate ((s.passTo n).setGroup g r) g
  have confirmed := confirmed_groupUpdate (s := (s.passTo n).setGroup g r) (first := false) (g := g)
  have waits := groupUpdate_waits (s := (s.passTo n).setGroup g r) (g := g)
  have met := conditionsMet_groupUpdate ((s.passTo n).setGroup g r) false g
  have points := groupPoints_groupUpdate ((s.passTo n).setGroup g r) false g
  rw [own] at requests entry confirmed waits
  obtain ⟨_, rfl⟩ := served
  refine ⟨requests, entry, fun due => confirmed (.inr due), fun idle => (waits idle).2.2.2.1, fun late shared => ?_⟩
  obtain ⟨-, -, -, failure, -⟩ := met
  obtain ⟨-, -, -, -, point, -⟩ := points
  refine point.trans (failure.mpr ⟨?_, .inr (.inl late)⟩)
  rw [requests.1, shared]

end Sys2Proof.Claims

namespace Sys2Proof.Proofs
open Sys2Proof.Machine Sys2Proof.Claims

/-- Settles O44: each expiry sets its own field and updates the group. -/
theorem groupTimers : Obligations.GroupTimers := by
  refine ⟨fun s g k n runs => ?_, fun s g n runs => ?_, fun s g k n runs => ?_⟩
  · obtain ⟨t, run, served⟩ := finish_regranted (u := s.holdOffExpire g k) (by unfold State.holdOffExpire; rw [runs])
    obtain ⟨now, others, sup, mailbox, mem⟩ := expiry_frame served
    obtain ⟨⟨-, channels, -⟩, -⟩ := expiry_record served
    obtain ⟨idle, raised⟩ := raised_known (channels k) (by rw [put_same]) (by rw [put_same]; exact channelCondition_eq _ _ _)
    have condition : t.group[g].channel[k].raised = gradeCond s s.group[g].config k := raised.trans (gradeCond_congr (by rfl) _ k)
    refine ⟨t, run, now, idle, fun none => ?_, fun q works => ?_, others, sup, mailbox, mem⟩
    · rw [condition]
      unfold gradeCond
      rw [none]
    · rw [condition]
      unfold gradeCond
      rw [works]
  · obtain ⟨t, run, served⟩ := finish_regranted (u := s.restoreWaitExpire g) (by unfold State.restoreWaitExpire; rw [runs])
    obtain ⟨now, others, sup, mailbox, mem⟩ := expiry_frame served
    obtain ⟨-, ⟨high, -, -, still⟩, -⟩ := expiry_record served
    refine ⟨t, run, now, fun low => ?_, ⟨_, rfl, served⟩, others, sup, mailbox, mem⟩
    by_cases held : ∃ q, Held t.group[g] q ∧ 2 ≤ q.level.val
    · exact high held
    · refine still held rfl fun k ⟨_, _, _, failure, _⟩ => ?_
      rcases failure with level | level <;>
      · rw [show s.group[g].winner.level = _ from level] at low
        exact absurd low (by decide)
  · obtain ⟨t, run, served⟩ := finish_regranted (u := s.confirmationExpire g) (by unfold State.confirmationExpire; rw [runs])
    obtain ⟨now, others, sup, mailbox, mem⟩ := expiry_frame served
    obtain ⟨-, -, confirmed, waits, point⟩ := expiry_record served
    rw [confirmed_eq] at confirmed
    refine ⟨t, run, now, ?_, fun evaluated => ?_, point, others, sup, mailbox, mem⟩
    · cases evaluated : s.group[g].evaluated with
      | false => exact waits evaluated
      | true =>
        obtain ⟨agreed, -, late, -, -⟩ := confirmed evaluated
        by_cases apart : GroupConfig.kind s.group[g].config = .shared ∧ 1 ≤ t.group[g].winner.level.val
          ∧ t.group[g].winner.level.val ≤ 5 ∧ t.group[g].farBridged.val ≠ t.group[g].winner.channel.val
        · exact late apart rfl
        · exact (agreed apart).1
    · obtain ⟨agreed, late, -⟩ := confirmed evaluated
      rw [ne_eq, Fin.ext_iff]
      refine ⟨fun timeout => by_contra fun agrees => ?_, late⟩
      rw [(agreed agrees).2] at timeout
      cases timeout

end Sys2Proof.Proofs

namespace Sys2Proof.Machine

/-! ## Sense outputs and travel timers (R115 to R120) -/

theorem sensedOf_line {x : BitVec 5} {p : Position} (h : x.toNat = 2 ^ p.val) : sensedOf x = some p := by
  have lines : ∀ p : Position, (match 2 ^ p.val with
      | 1 => some 0 | 2 => some 1 | 4 => some 2 | 8 => some 3 | 16 => some 4 | _ => none : Option Position) = some p := by decide
  unfold sensedOf
  rw [h]
  exact lines p

theorem sensedOf_invalid {x : BitVec 5} (h : ∀ p : Position, x.toNat ≠ 2 ^ p.val) : sensedOf x = none := by
  unfold sensedOf
  split
  next one => exact absurd one (h 0)
  next two => exact absurd two (h 1)
  next four => exact absurd four (h 2)
  next eight => exact absurd eight (h 3)
  next sixteen => exact absurd sixteen (h 4)
  · rfl

theorem State.element_setElement (s : State) (e : ElementId) (x : Element) : (s.setElement e x).element e = x := put_same _ _ _

theorem State.setElement_self (s : State) (e : ElementId) : s.setElement e (s.element e) = s := by
  simp [State.setElement, State.element, put]

/-- The state of an element whose drive is on is what a report shows. -/
theorem Driver.reported_of_state {old d : Driver} {e : ElementId} (before : old.on = true) (on : d.on = true)
    (changed : d.element[e].state ≠ old.element[e].state) : Driver.reported old d e = true := by
  refine decide_eq_true fun same => changed ?_
  unfold Driver.report at same
  rw [if_pos before, if_pos on] at same
  revert same
  cases d.element[e].state <;> cases old.element[e].state <;> simp

/-- Sensing alone makes no report. -/
theorem Driver.not_reported_of_same {old d : Driver} {e : ElementId} (on : d.on = old.on)
    (state : d.element[e].state = old.element[e].state) (commanded : d.element[e].commanded = old.element[e].commanded) :
    ¬ Driver.reported old d e = true := by
  rw [Driver.not_reported_iff]
  unfold Driver.report
  rw [on, state, commanded]

theorem State.senseChange_same {s : State} {e : ElementId} {v : Option Position} (h : v = (s.element e).sensed) : s.senseChange e v = s :=
  if_pos h

theorem State.senseChange_off {s : State} {e : ElementId} {v : Option Position} (off : s.driver.on = false) :
    s.senseChange e v = s.setElement e { s.element e with sensed := v } := by
  unfold State.senseChange
  dsimp only
  split
  next same =>
    rw [same]
    exact (s.setElement_self e).symm
  next other => exact if_neg (Bool.eq_false_iff.mp off)

theorem State.senseChange_on {s : State} {e : ElementId} {v : Option Position} (on : s.driver.on = true) (other : v ≠ (s.element e).sensed) :
    s.senseChange e v = State.takeReportIf s (s.setElement e ((s.element e).senseOn v (s.now + 400))) e :=
  (if_neg other).trans (if_pos on)

/-- A position sensed that is not the target, while the element is not SETTLED. -/
theorem Element.senseOn_astray {x : Element} {v : Option Position} (n : Nat) (state : x.state ≠ .settled) (v_other : v ≠ some x.commanded) :
    x.senseOn v n = { x with sensed := v } := by
  obtain ⟨commanded, sensed, st, travel⟩ := x
  cases st with
  | settled => exact absurd rfl state
  | travelling | faulted => exact if_neg v_other

theorem Element.senseOn_arrives {x : Element} {v : Option Position} (n : Nat) (state : x.state ≠ .settled) (target : v = some x.commanded) :
    x.senseOn v n = ⟨x.commanded, v, .settled, none⟩ := by
  unfold Element.senseOn
  cases h : x.state with
  | settled => exact absurd h state
  | travelling | faulted => exact if_pos target

theorem Element.senseOn_leaves {x : Element} {v : Option Position} (n : Nat) (state : x.state = .settled) (v_other : v ≠ some x.commanded) :
    x.senseOn v n = ⟨x.commanded, v, .travelling, some n⟩ := by
  unfold Element.senseOn
  rw [state]
  exact if_neg v_other

/-! ## The drive output (R115, R116) -/

theorem State.driveOutput_settled {s : State} {e : ElementId} (h : (s.element e).state = .settled) : s.driveOutput e = none := by
  unfold State.driveOutput Element.drive
  rw [h]
  exact ite_self _

theorem State.driveOutput_driven {s : State} {e : ElementId} (on : s.driver.on = true) (h : (s.element e).state ≠ .settled) :
    s.driveOutput e = some (s.element e).commanded := by
  unfold State.driveOutput Element.drive
  rw [if_pos on]
  cases state : (s.element e).state with
  | settled => exact absurd state h
  | travelling | faulted => rfl

theorem State.driveOutput_congr {s t : State} (h : t.driver = s.driver) (e : ElementId) : t.driveOutput e = s.driveOutput e := by
  unfold State.driveOutput State.element
  rw [h]

/-- Of a sound element a position other than the commanded one is sensed exactly while it is not SETTLED (R115). -/
theorem Element.right.settled_iff {x : Element} (h : x.right) : x.state = .settled ↔ x.sensed = some x.commanded := by
  unfold Element.right at h
  cases state : x.state <;> rw [state] at h <;> simp [h.1]

/-! ## Who takes a report (R121) -/

theorem State.elementGroup_eq_none {s : State} {e : ElementId} (h : ∀ g : GroupId, GroupConfig.selector s.group[g].config ≠ some e
    ∧ GroupConfig.bridge s.group[g].config ≠ some e) : s.elementGroup e = none :=
  firstWhere_eq_none.mpr fun g => Bool.or_eq_false_iff.mpr ⟨decide_eq_false (h g).1, decide_eq_false (h g).2⟩

theorem State.takeReport_unnamed {s : State} {e : ElementId} (h : s.elementGroup e = none) : s.takeReport e = s.timingReport e := by
  unfold State.takeReport
  rw [h]

theorem State.takeReport_named {s : State} {e : ElementId} {g : GroupId} (h : s.elementGroup e = some g) :
    s.takeReport e = ((s.noteReport s.driver g e).updateGroup g).timingReport e := by
  unfold State.takeReport
  rw [h]

end Sys2Proof.Machine

namespace Sys2Proof.Claims
open Sys2Proof.Machine

theorem elementField_eq_some {w : Word} {lo : Nat} {e : ElementId} (h : elementField w lo = some e) : bits w lo 6 = e.val := by
  unfold elementField at h
  split at h
  · exact congrArg Fin.val (Option.some.inj h)
  · cases h

/-- No element is named by two fields (R75). -/
theorem element_once {s : State} (h : s.TableSound) {e : ElementId} {f g : GroupId}
    (hf : GroupConfig.selector s.group[f].config = some e ∨ GroupConfig.bridge s.group[f].config = some e)
    (hg : GroupConfig.selector s.group[g].config = some e ∨ GroupConfig.bridge s.group[g].config = some e) : f = g := by
  have named (g : GroupId) (hg : GroupConfig.selector s.group[g].config = some e ∨ GroupConfig.bridge s.group[g].config = some e) :
      ∃ b, s.elementFieldOf g b = e.val :=
    hg.elim (fun named => ⟨false, elementField_eq_some named⟩) fun named => ⟨true, elementField_eq_some named⟩
  obtain ⟨b, at_⟩ := named f hf
  obtain ⟨b', at_'⟩ := named g hg
  have element := e.isLt
  exact (h.elementOnce f b g b' (by rw [at_]; omega) (at_.trans at_'.symm)).1

theorem elementGroup_named {s : State} (h : s.TableSound) {e : ElementId} {g : GroupId}
    (named : GroupConfig.selector s.group[g].config = some e ∨ GroupConfig.bridge s.group[g].config = some e) :
    s.elementGroup e = some g :=
  by
  refine firstWhere_eq_some.mpr ⟨by simpa using named, fun f other => ?_⟩
  exact (congrArg Fin.val (element_once h (by simpa using other) named)).ge

theorem timingPoints_timingReport (s : State) (e : ElementId) : TimingPoints (s.timingReport e) := by
  unfold State.timingReport State.retimeFrom
  exact timingPoints_timingAlarms _

theorem ConditionsMet.congr {s s' t t' : State} {g : GroupId} (h : ConditionsMet s t g) (sup : s'.sup = s.sup)
    (group : t'.group[g] = t.group[g]) (driver : t'.driver = t.driver) : ConditionsMet s' t' g := by
  unfold ConditionsMet CrossShelf Swapped State.element at h ⊢
  rw [sup, group, driver]
  exact h

end Sys2Proof.Claims

namespace Sys2Proof.Claims
open Sys2Proof.Machine

/-! ## A report taken by the group that names the element (R93, R121) -/

/-- The conditions and the points of the group that takes a report, and of its ON PROTECT. -/
theorem takeReport_group {s t : State} {e : ElementId} {x : Element} {g : GroupId} (on : s.driver.on = true)
    (taken : t = (s.setElement e x).takeReport e) (sound : s.TableSound)
    (named : GroupConfig.selector s.group[g].config = some e ∨ GroupConfig.bridge s.group[g].config = some e) :
    ConditionsMet s t g ∧ GroupPoints t g
    ∧ (GroupConfig.selector s.group[g].config = some e → t.element e = x → x.state ≠ (s.element e).state →
      (x.state = .settled → (t.group[g].conditions.onProtect = true ↔ x.commanded ≠ 0))
      ∧ (x.state ≠ .settled → t.group[g].conditions.onProtect = s.group[g].conditions.onProtect)) := by
  have table : (s.setElement e x).TableSound := sound.congr fun w => by cases w <;> rfl
  have holder : (s.setElement e x).elementGroup e = some g := elementGroup_named table named
  rw [State.takeReport_named holder] at taken
  obtain ⟨noted, is_noted⟩ : ∃ v, v = (s.setElement e x).noteReport (s.setElement e x).driver g e := ⟨_, rfl⟩
  rw [← is_noted] at taken
  have record := (s.setElement e x).noteReport_group (s.setElement e x).driver g e
  obtain ⟨-, -, -, -, -, sup, driver, -⟩ := (s.setElement e x).noteReport_frame (s.setElement e x).driver g e
  rw [← is_noted] at record sup driver
  obtain ⟨-, -, -, -, -, -, group, driver'⟩ := (noted.updateGroup g).timingReport_frame e
  rw [← taken] at group driver'
  have own : t.group[g] = (noted.groupUpdate false g).group[g] := congrArg (·[g]) group
  have raised := ((timingReport_works (G := fun _ => False) (noted.updateGroup g) e).others g id).2
  rw [← taken] at raised
  refine ⟨(conditionsMet_groupUpdate noted false g).congr sup.symm own driver', (groupPoints_groupUpdate noted false g).congr
    (by rw [own]) raised, fun selector element changed => ?_⟩
  have held : t.group[g].conditions.onProtect = noted.group[g].conditions.onProtect := by
    rw [own]
    refine (onProtect_groupUpdate noted false g).2 fun e' selector' => .inr ?_
    have same : e' = e := by
      rw [record] at selector'
      exact Option.some.inj (selector'.symm.trans selector)
    rw [same]
    unfold State.element at element ⊢
    rw [driver, ← element, driver']
    exact (put_same _ _ _).symm
  have shown : noted.group[g].conditions.onProtect
      = ((s.setElement e x).driver.report e).onProtect s.group[g].conditions.onProtect := by
    rw [record]
    exact if_pos selector
  have stands : (s.setElement e x).driver.element[e] = x := put_same _ _ _
  have on : (s.setElement e x).driver.on = true := on
  rw [held, shown]
  refine ⟨fun settled => ?_, fun other => ?_⟩
  · rw [Driver.report_eq_settled_iff.mpr ⟨on, (congrArg Element.state stands).trans settled, congrArg Element.commanded stands⟩]
    exact decide_eq_true_iff.trans (not_congr Fin.val_eq_zero_iff)
  · cases state : x.state with
    | settled => exact absurd state other
    | travelling =>
      rw [Driver.report_eq_travelling_iff.mpr ⟨on, (congrArg Element.state stands).trans state⟩]
      rfl
    | faulted =>
      rw [Driver.report_eq_faulted_iff.mpr ⟨on, (congrArg Element.state stands).trans state⟩]
      rfl

/-- A report on an element that no group names is the timing unit's alone. -/
theorem takeReport_unnamed {s t : State} {e : ElementId} {x : Element} (served : Regranted ((s.setElement e x).takeReport e) t)
    (unnamed : ∀ g : GroupId, GroupConfig.selector s.group[g].config ≠ some e ∧ GroupConfig.bridge s.group[g].config ≠ some e) :
    t.group = s.group ∧ t.driver = (s.setElement e x).driver ∧ t.driveOutput e = (s.setElement e x).driveOutput e := by
  rw [State.takeReport_unnamed (State.elementGroup_eq_none (s := s.setElement e x) unnamed)] at served
  obtain ⟨_, rfl⟩ := served
  obtain ⟨-, -, -, -, -, -, group, driver⟩ := (s.setElement e x).timingReport_frame e
  exact ⟨group, driver, State.driveOutput_congr driver e⟩

/-- An element set with the drive on is driven toward its target unless it is SETTLED. -/
theorem driveOutput_setElement {s : State} (on : s.driver.on = true) (e : ElementId) (x : Element) :
    (s.setElement e x).driveOutput e = if x.state = .settled then none else some x.commanded := by
  have stands := s.element_setElement e x
  have on : (s.setElement e x).driver.on = true := on
  split
  next settled => exact State.driveOutput_settled (by rw [stands]; exact settled)
  next other =>
    rw [State.driveOutput_driven on (by rw [stands]; exact other), stands]

/-- A change of an element's state while the drive is on is reported. -/
theorem takeReportIf_changed {s : State} {e : ElementId} {x : Element} (on : s.driver.on = true) (changed : x.state ≠ (s.element e).state) :
    State.takeReportIf s (s.setElement e x) e = (s.setElement e x).takeReport e :=
  have stands : (s.setElement e x).driver.element[e] = x := put_same _ _ _
  if_pos (Driver.reported_of_state (d := (s.setElement e x).driver) on on (by rw [stands]; exact changed))

theorem takeReportIf_sensed {s : State} {e : ElementId} (v : Option Position) :
    State.takeReportIf s (s.setElement e { s.element e with sensed := v }) e = s.setElement e { s.element e with sensed := v } := by
  have stands : (s.setElement e { s.element e with sensed := v }).driver.element[e] = { s.element e with sensed := v } := put_same _ _ _
  have same : ¬ Driver.reported s.driver (s.setElement e { s.element e with sensed := v }).driver e = true :=
    Driver.not_reported_of_same rfl (by rw [stands]; rfl) (by rw [stands]; rfl)
  exact if_neg same

end Sys2Proof.Claims

namespace Sys2Proof.Proofs
open Sys2Proof.Machine Sys2Proof.Claims

/-- Settles O45: the driver's table for a sense change and an expiry, and the report that a change of state makes. -/
theorem switchEvents : Obligations.SwitchEvents := by
  refine ⟨fun x => ⟨fun p => sensedOf_line, sensedOf_invalid⟩, ?_, ?_, ?_, ?_⟩
  · rintro s e x v el is_v rfl
    subst is_v
    refine ⟨fun same => ?_, fun off => ?_, fun on other astray state => ?_, fun el' on other changes => ?_⟩
    · exact finish_regranted (State.senseChange_same same)
    · obtain ⟨t, run, served⟩ := finish_regranted (u := s.senseChange e (sensedOf x)) (State.senseChange_off off)
      refine ⟨t, run, served, fun j => State.driveOutput_off ?_ j⟩
      obtain ⟨_, rfl⟩ := served
      exact off
    · obtain ⟨t, run, served⟩ := finish_regranted (u := s.senseChange e (sensedOf x)) ((State.senseChange_on on other).trans
        ((congrArg (fun y => State.takeReportIf s (s.setElement e y) e) (Element.senseOn_astray _ state astray)).trans (takeReportIf_sensed _)))
      refine ⟨t, run, served, ?_⟩
      obtain ⟨_, rfl⟩ := served
      exact (driveOutput_setElement on e _).trans (if_neg state)
    · have changed : (s.element e).senseOn (sensedOf x) (s.now + 400) = el' ∧ el'.commanded = (s.element e).commanded
          ∧ el'.state ≠ (s.element e).state := by
        rcases changes with ⟨target, state, rfl⟩ | ⟨astray, state, rfl⟩
        · exact ⟨Element.senseOn_arrives _ state target, rfl, state.symm⟩
        · exact ⟨Element.senseOn_leaves _ state astray, rfl, by rw [state]; exact nofun⟩
      obtain ⟨sensed, commanded, state⟩ := changed
      obtain ⟨t, run, served⟩ := finish_regranted (u := s.senseChange e (sensedOf x))
        ((State.senseChange_on on other).trans ((congrArg (fun y => State.takeReportIf s (s.setElement e y) e) sensed).trans
          (takeReportIf_changed on state)))
      refine ⟨t, run, served, fun unnamed => ?_⟩
      obtain ⟨group, driver, output⟩ := takeReport_unnamed served unnamed
      exact ⟨group, driver, by rw [output, driveOutput_setElement on, commanded]⟩
  · rintro s t e el' on taken
    exact ⟨taken ▸ timingPoints_timingReport _ e, fun g sound named => takeReport_group on taken sound named⟩
  · intro s e n el' on state runs is_el'
    have expired : s.travelExpire e = State.takeReportIf (s.passTo n) ((s.passTo n).setElement e el') e := by
      unfold State.travelExpire
      rw [runs, is_el']
      rfl
    have changed : el'.state ≠ ((s.passTo n).element e).state := by
      rw [is_el', show (s.passTo n).element e = s.element e from rfl, state]
      exact nofun
    obtain ⟨t, run, served⟩ := finish_regranted (expired.trans (takeReportIf_changed on changed))
    refine ⟨t, _, run, rfl, served, fun unnamed => ?_⟩
    obtain ⟨group, driver, output⟩ := takeReport_unnamed served unnamed
    refine ⟨group, driver, ?_⟩
    rw [output, driveOutput_setElement (s := s.passTo n) on, is_el']
    rfl
  · intro s e
    refine ⟨fun on state => State.driveOutput_driven on state,
      fun idle => idle.elim (fun off => State.driveOutput_off off e) State.driveOutput_settled,
      fun ⟨drives, right⟩ => ?_⟩
    rw [ne_eq, ← drives]
    cases on : s.driver.on with
    | false => exact iff_of_true (State.driveOutput_off on e) (.inl nofun)
    | true =>
      rw [← (right on e).settled_iff]
      by_cases state : (s.element e).state = .settled
      · exact iff_of_true (State.driveOutput_settled state) (.inr state)
      · rw [State.driveOutput_driven on state]
        exact iff_of_false nofun fun h => h.elim (fun off => off rfl) state

end Sys2Proof.Proofs

namespace Sys2Proof.Machine

/-! ## The fields of a bridge word (R98, R192) -/

theorem threeBits_val (w : Word) (lo : Nat) : (threeBits w lo).val = w.toNat / 2 ^ lo % 8 := rfl

theorem bridgeRequest_level (w : Word) : (bridgeRequest w).level.val = w.toNat % 8 := by
  rw [bridgeRequest, threeBits_val, pow_zero, Nat.div_one]

theorem bridgeRequest_channel (w : Word) : (bridgeRequest w).channel.val = w.toNat / 16 % 8 := threeBits_val w 4

theorem bridgeBridged_val (w : Word) : (bridgeBridged w).val = w.toNat / 256 % 8 := threeBits_val w 8

theorem bridgeWord_toNat (r : Request) (b : Fin 8) : (bridgeWord r b).toNat = r.level + 16 * r.channel + 256 * b :=
  wordOf_toNat (by omega)

theorem flag_iff {w : Word} {i : Nat} : flag w i = true ↔ w.toNat / 2 ^ i % 2 = 1 := by
  rw [flag, BitVec.getLsbD, Nat.testBit_eq_decide_div_mod_eq, decide_eq_true_eq]

theorem flag_eq_false_iff {w : Word} {i : Nat} : flag w i = false ↔ w.toNat / 2 ^ i % 2 = 0 := by
  rw [← Bool.not_eq_true, flag_iff]
  omega

/-- The spare bits of a bridge word. -/
theorem spareBits_iff (w : Word) : w &&& 0xF888 = 0 ↔ flag w 3 = false ∧ flag w 7 = false ∧ bits w 11 5 = 0 := by
  have high : bits w 11 5 = 0 ↔ flag w 11 = false ∧ flag w 12 = false ∧ flag w 13 = false ∧ flag w 14 = false ∧ flag w 15 = false := by
    simp only [flag_eq_false_iff, bits]
    have := w.isLt
    omega
  have mask : ∀ i : Fin 16, (0xF888 : Word).getLsbD i.val = true
      ↔ i = 3 ∨ i = 7 ∨ i = 11 ∨ i = 12 ∨ i = 13 ∨ i = 14 ∨ i = 15 := by decide
  have bit : w &&& 0xF888 = 0 ↔ ∀ i : Fin 16, (0xF888 : Word).getLsbD i.val = true → flag w i.val = false := by
    refine ⟨fun h i on => ?_, fun h => BitVec.eq_of_getLsbD_eq fun i range => ?_⟩
    · have clear := congrArg (BitVec.getLsbD · i.val) h
      rw [BitVec.getLsbD_and, on, Bool.and_true] at clear
      exact clear.trans BitVec.getLsbD_zero
    · rw [BitVec.getLsbD_and]
      refine Eq.trans (Bool.and_eq_false_imp.mpr fun on => ?_) BitVec.getLsbD_zero.symm
      exact by_contra fun masked => by
        cases (h ⟨i, range⟩ (eq_true_of_ne_false masked)).symm.trans on
  rw [high, bit]
  simp only [mask, forall_eq_or_imp, forall_eq]
  rfl

/-- A request at levels 1 to 5 names a channel, and no other does. -/
theorem channelTest_iff (l c : Nat) : (if 1 ≤ l ∧ l ≤ 5 then decide (c ≠ 0) else decide (c = 0)) = true
    ↔ (1 ≤ l ∧ l ≤ 5 → c ≠ 0) ∧ (l = 0 ∨ 6 ≤ l → c = 0) := by
  by_cases moves : 1 ≤ l ∧ l ≤ 5
  · rw [if_pos moves, decide_eq_true_iff]
    exact ⟨fun h => ⟨fun _ => h, fun other => by omega⟩, fun h => h.1 moves⟩
  · rw [if_neg moves, decide_eq_true_iff]
    exact ⟨fun h => ⟨fun m => absurd m moves, fun _ => h⟩, fun h => h.2 (by omega)⟩

/-- What `bridgeValid` tests (R98). -/
theorem bridgeValid_iff (n : Nat) (w : Word) : bridgeValid n w = true ↔
    w &&& 0xF888 = 0 ∧ w.toNat / 16 % 8 ≤ n ∧ w.toNat / 256 % 8 ≤ n
    ∧ (1 ≤ w.toNat % 8 ∧ w.toNat % 8 ≤ 5 → w.toNat / 16 % 8 ≠ 0)
    ∧ (w.toNat % 8 = 0 ∨ 6 ≤ w.toNat % 8 → w.toNat / 16 % 8 = 0) := by
  unfold bridgeValid
  simp only [Bool.and_eq_true, Bool.not_eq_true', decide_eq_true_eq, bridgeRequest_level, bridgeRequest_channel,
    bridgeBridged_val]
  rw [spareBits_iff, channelTest_iff]
  simp only [and_assoc]

end Sys2Proof.Machine

namespace Sys2Proof.Claims
open Sys2Proof.Machine

theorem bridgeWord_fields (r : Request) (b : Fin 8) : bridgeRequest (bridgeWord r b) = r ∧ bridgeBridged (bridgeWord r b) = b
    ∧ (bridgeWord r b) &&& 0xF888 = 0 := by
  have word := bridgeWord_toNat r b
  refine ⟨?_, ?_, ?_⟩
  · rw [show r = ⟨r.level, r.channel⟩ from rfl, Request.eq_iff, Fin.ext_iff, Fin.ext_iff, bridgeRequest_level, bridgeRequest_channel, word]
    omega
  · rw [Fin.ext_iff, bridgeBridged_val, word]
    omega
  · rw [spareBits_iff, flag_eq_false_iff, flag_eq_false_iff, bits, word]
    omega

/-! ## A group's live words (R94, R193) -/

theorem storedCodes_lt (st : Option Stored) : (storedCodes st).1 < 4 ∧ (storedCodes st).2 < 8 := by
  rcases st with _ | _ | k | k <;> simp [storedCodes] <;> omega

theorem entryCodes_lt (en : Option Entry) : (entryCodes en).1 < 4 ∧ (entryCodes en).2 < 8 := by
  rcases en with _ | k | _ <;> simp [entryCodes]
  omega

theorem group_shown (r : Group) : GroupShown r r.stateWord r.requestWord := by
  have unavailable := bitOf_lt r.conditions.protectUnavailable
  have onProtect := bitOf_lt r.conditions.onProtect
  have crossShelf := bitOf_lt r.conditions.crossShelf
  have swapped := bitOf_lt r.conditions.swapped
  have failure := bitOf_lt r.conditions.protocolFailure
  have fault := bitOf_lt r.conditions.switchFault
  have evaluated := bitOf_lt r.evaluated
  obtain ⟨stored, storedChannel⟩ := storedCodes_lt r.stored
  obtain ⟨entry, entryChannel⟩ := entryCodes_lt r.entry
  have state : r.stateWord.toNat = _ := wordOf_toNat (by omega)
  have request : r.requestWord.toNat = _ := wordOf_toNat (by omega)
  refine ⟨?_, ?_, getLsbD_wordOf (by decide) (by omega), getLsbD_wordOf (b := false) (by decide) ?_, getLsbD_wordOf (by decide) (by omega),
    getLsbD_wordOf (by decide) (by omega), getLsbD_wordOf (by decide) (by omega), getLsbD_wordOf (by decide) (by omega),
    getLsbD_wordOf (by decide) (by omega), getLsbD_wordOf (by decide) (by omega), ?_, ?_, ?_, ?_, ?_, ?_, ?_⟩
  · rw [state]; omega
  · rw [state]; omega
  · change _ = 0; omega
  · rw [state]; omega
  · rw [request]; omega
  · rw [request]; omega
  · exact (by rw [request]; omega : _ = (storedCodes r.stored).1).trans (by rcases r.stored with _ | _ | _ | _ <;> rfl)
  · exact (by rw [request]; omega : _ = (storedCodes r.stored).2).trans (by rcases r.stored with _ | _ | _ | _ <;> rfl)
  · exact (by rw [request]; omega : _ = (entryCodes r.entry).1).trans (by rcases r.entry with _ | _ | _ <;> rfl)
  · exact (by rw [request]; omega : _ = (entryCodes r.entry).2).trans (by rcases r.entry with _ | _ | _ <;> rfl)

theorem restoreWait_shown (now n : Nat) (h : n ≤ now + 5760000) :
    n - now ≤ 8000 * (restoreWaitWord now (some n)).toNat ∧ 8000 * (restoreWaitWord now (some n)).toNat < n - now + 8000 := by
  rw [show (restoreWaitWord now (some n)).toNat = (n - now + 7999) / 8000 from wordOf_toNat (by omega)]
  omega

end Sys2Proof.Claims

namespace Sys2Proof.Machine

/-- No update touches the cause of an invalid word. -/
theorem State.groupUpdate_invalidWord (s : State) (first : Bool) (g : GroupId) :
    (s.groupUpdate first g).group[g].invalidWord = s.group[g].invalidWord := by
  obtain ⟨on, fault, record⟩ := s.groupUpdate_record first g
  rw [record, s.updated_frame, s.requested_kept]

/-! ## A candidate judged (R102, R107) -/

theorem State.judgeCandidate_again {s : State} {g : GroupId} {w : Word} (valid : bridgeValid (GroupConfig.count s.group[g].config) w = true)
    (same : s.group[g].accepted = some w) : s.judgeCandidate g w
      = if s.group[g].invalidWord then (s.setGroup g { s.group[g] with invalidWord := false }).updateGroup g else s :=
  (if_pos valid).trans (if_pos same)

theorem State.judgeCandidate_new {s : State} {g : GroupId} {w : Word} (valid : bridgeValid (GroupConfig.count s.group[g].config) w = true)
    (other : s.group[g].accepted ≠ some w) : s.judgeCandidate g w
      = (if 2 < (bridgeRequest w).level.val
          then (s.setGroup g { s.group[g] with accepted := some w, invalidWord := false }).cancelManual g
          else s.setGroup g { s.group[g] with accepted := some w, invalidWord := false }).updateGroup g :=
  (if_pos valid).trans (if_neg other)

theorem State.judgeCandidate_invalid {s : State} {g : GroupId} {w : Word}
    (invalid : bridgeValid (GroupConfig.count s.group[g].config) w = false) : s.judgeCandidate g w
      = if s.group[g].invalidWord then s else (s.setGroup g { s.group[g] with invalidWord := true }).updateGroup g :=
  if_neg (Bool.eq_false_iff.mp invalid)

end Sys2Proof.Machine

namespace Sys2Proof.Claims
open Sys2Proof.Machine

theorem hears_iff {s : State} {g : GroupId} : Hears s g ↔ ¬ Unusable s s.group[g].config ∧ ¬ ProtectFailed s s.group[g].config := by
  rw [← unusable_iff, ← protectFailed_iff, Bool.not_eq_true, Bool.not_eq_true]
  exact Iff.rfl

/-- A group that hears keeps its accepted word and the cause through an update. -/
theorem updateGroup_word {s : State} {g : GroupId} (heard : Hears s g) :
    (s.updateGroup g).group[g].accepted = s.group[g].accepted ∧ (s.updateGroup g).group[g].invalidWord = s.group[g].invalidWord := by
  obtain ⟨usable, protect⟩ := hears_iff.mp heard
  obtain ⟨-, -, -, -, -, -, -, keeps⟩ := requestsMet_groupUpdate s false g
  exact ⟨(keeps protect usable).2.2, s.groupUpdate_invalidWord false g⟩

/-- A stored command that is no MANUAL stands through an update. -/
theorem updateGroup_stored {s : State} {g : GroupId} (other : ∀ k, s.group[g].stored ≠ some (.manual k)) :
    (s.updateGroup g).group[g].stored = s.group[g].stored := by
  obtain ⟨-, -, -, -, -, stays, -⟩ := requestsMet_groupUpdate s false g
  exact stays (.inr other)

/-- The record as the newly accepted word finds it, a MANUAL below its level cancelled. -/
theorem accepted_record (s : State) (g : GroupId) (w : Word) {u : State} (is_u : u =
      if 2 < (bridgeRequest w).level.val then (s.setGroup g { s.group[g] with accepted := some w, invalidWord := false }).cancelManual g
      else s.setGroup g { s.group[g] with accepted := some w, invalidWord := false }) :
    u.group[g].accepted = some w ∧ u.group[g].invalidWord = false ∧ u.group[g].config = s.group[g].config ∧ u.sup = s.sup
    ∧ (∀ k, 2 < (bridgeRequest w).level.val → s.group[g].stored = some (.manual k) →
        u.group[g].stored = none ∧ u.Logged g (.command 3 .refusedLevel) s.poster.shelfTime) := by
  subst is_u
  by_cases high : 2 < (bridgeRequest w).level.val
  · rw [if_pos high, State.cancelManual_record, State.setGroup_group, Group.dropManual_frame]
    refine ⟨rfl, rfl, rfl, by simp only [State.cancelManual_frame, State.setGroup_frame],
      fun k _ manual => ⟨Group.dropManual_manual manual, ?_⟩⟩
    unfold State.cancelManual
    rw [State.setGroup_group]
    dsimp only
    rw [manual]
    exact State.putEvent_logged _ _ _
  · rw [if_neg high, State.setGroup_group]
    exact ⟨rfl, rfl, rfl, rfl, fun _ h => absurd h high⟩

/-- A judgement works on its own group. -/
theorem judgeCandidate_works (s : State) (g : GroupId) (w : Word) : Works (· = g) s (s.judgeCandidate g w) := by
  have update (u : State) : Works (· = g) u (u.updateGroup g) := groupUpdate_works u false g
  unfold State.judgeCandidate
  dsimp only
  split
  · split
    · exact .iteSelf ((setGroup_works s g _).trans (update _))
    · exact ((setGroup_works s g _).trans (.iteSelf (cancelManual_works _ g))).trans (update _)
  · exact .ite (.refl _ s) ((setGroup_works s g _).trans (update _))

/-- The judgement of a candidate by a group that hears (R102, R107). -/
theorem judgeCandidate_shown {s : State} {g : GroupId} {w : Word} (heard : Hears s g) :
    (bridgeValid (GroupConfig.count s.group[g].config) w = true →
      (s.judgeCandidate g w).group[g].accepted = some w ∧ (s.judgeCandidate g w).group[g].invalidWord = false)
    ∧ (bridgeValid (GroupConfig.count s.group[g].config) w = false →
      (s.judgeCandidate g w).group[g].accepted = s.group[g].accepted ∧ (s.judgeCandidate g w).group[g].invalidWord = true)
    ∧ (∀ k, bridgeValid (GroupConfig.count s.group[g].config) w = true → s.group[g].accepted ≠ some w → 2 < (bridgeRequest w).level.val →
      s.group[g].stored = some (.manual k) → (s.judgeCandidate g w).group[g].stored = none
        ∧ (s.judgeCandidate g w).Logged g (.command 3 .refusedLevel) s.poster.shelfTime) := by
  have cause (b : Bool) : ((s.setGroup g { s.group[g] with invalidWord := b }).updateGroup g).group[g].accepted = s.group[g].accepted
      ∧ ((s.setGroup g { s.group[g] with invalidWord := b }).updateGroup g).group[g].invalidWord = b := by
    obtain ⟨accepted, invalid⟩ := updateGroup_word (s := s.setGroup g { s.group[g] with invalidWord := b }) (g := g)
      (by unfold Hears; rw [State.setGroup_group]; exact heard)
    rw [State.setGroup_group] at accepted invalid
    exact ⟨accepted, invalid⟩
  obtain ⟨u, is_u⟩ : ∃ u, u = if 2 < (bridgeRequest w).level.val
      then (s.setGroup g { s.group[g] with accepted := some w, invalidWord := false }).cancelManual g
      else s.setGroup g { s.group[g] with accepted := some w, invalidWord := false } := ⟨_, rfl⟩
  obtain ⟨accepted, cleared, config, sup, cancels⟩ := accepted_record s g w is_u
  have heard' : Hears u g := by
    unfold Hears
    rw [config, sup]
    exact heard
  refine ⟨fun valid => ?_, fun invalid => ?_, fun k valid new high manual => ?_⟩
  · by_cases same : s.group[g].accepted = some w
    · rw [State.judgeCandidate_again valid same]
      cases held : s.group[g].invalidWord with
      | false => exact ⟨same, held⟩
      | true => exact ⟨(cause false).1.trans same, (cause false).2⟩
    · rw [State.judgeCandidate_new valid same, ← is_u]
      obtain ⟨kept, cause⟩ := updateGroup_word heard'
      exact ⟨kept.trans accepted, cause.trans cleared⟩
  · rw [State.judgeCandidate_invalid invalid]
    cases held : s.group[g].invalidWord with
    | true => exact ⟨rfl, held⟩
    | false => exact cause true
  · obtain ⟨gone, logged⟩ := cancels k high manual
    rw [State.judgeCandidate_new valid new, ← is_u, updateGroup_stored (by rw [gone]; exact nofun)]
    exact ⟨gone, (u.groupUpdate_logs false g).logged logged⟩

/-- A received word counted, and judged when it is the third in a row (R102). -/
theorem takeWord_shown {s : State} {g : GroupId} {w : Word} {n : Nat} (heard : Hears s g)
    (is_n : n = if s.group[g].candidate = some w then min 3 (s.group[g].run + 1) else 1) :
    (n ≠ 3 → s.takeWord g w = s.setGroup g { s.group[g] with candidate := some w, run := n })
    ∧ (s.takeWord g w).group[g].candidate = some w ∧ (s.takeWord g w).group[g].run = n ∧ OtherGroups s (s.takeWord g w) g
    ∧ (n = 3 → bridgeValid (GroupConfig.count s.group[g].config) w = true →
        (s.takeWord g w).group[g].accepted = some w ∧ (s.takeWord g w).group[g].invalidWord = false)
    ∧ (n = 3 → bridgeValid (GroupConfig.count s.group[g].config) w = false →
        (s.takeWord g w).group[g].accepted = s.group[g].accepted ∧ (s.takeWord g w).group[g].invalidWord = true)
    ∧ (∀ k, n = 3 → bridgeValid (GroupConfig.count s.group[g].config) w = true → s.group[g].accepted ≠ some w → 2 < w.toNat % 8 →
        s.group[g].stored = some (.manual k) → (s.takeWord g w).group[g].stored = none
          ∧ (s.takeWord g w).Logged g (.command 3 .refusedLevel) s.poster.shelfTime) := by
  obtain ⟨v, is_v⟩ : ∃ v, v = s.setGroup g { s.group[g] with candidate := some w, run := n } := ⟨_, rfl⟩
  have record : v.group[g] = { s.group[g] with candidate := some w, run := n } := by rw [is_v, State.setGroup_group]
  have judged : s.takeWord g w = if n = 3 then v.judgeCandidate g w else v := by
    rw [is_v, is_n]
    rfl
  have heard' : Hears v g := by
    unfold Hears
    rw [record, is_v]
    exact heard
  have others : OtherGroups s v g := is_v ▸ setGroup_others s g _
  have kept := takeWord_keeps s g w
  rw [← is_n, ← is_v] at kept
  obtain ⟨candidate, run⟩ := (kept.group g).received heard'
  obtain ⟨accepts, refuses, cancels⟩ := judgeCandidate_shown (w := w) heard'
  rw [record] at candidate run accepts refuses cancels
  rw [bridgeRequest_level, show v.poster = s.poster by rw [is_v]; rfl] at cancels
  refine ⟨fun early => ?_, candidate, run, fun f apart => ?_, fun third => ?_, fun third => ?_, fun k third => ?_⟩
  · rw [judged, if_neg early, is_v]
  · refine Eq.trans ?_ (others f apart)
    rw [judged, apply_ite (fun u : State => u.group[f]), ((judgeCandidate_works v g w).others f apart).1, ite_self]
  all_goals rw [judged, if_pos third]
  · exact accepts
  · exact refuses
  · exact cancels k

/-- The SHARED group of a protect port, where no port is named twice. -/
theorem sharedGroupOf_eq_some {s : State} (sound : s.TableSound) {p : Port} {g : GroupId}
    (shared : GroupConfig.kind s.group[g].config = .shared) (protect : GroupConfig.protect s.group[g].config = some p) : s.sharedGroupOf p = some g := by
  refine firstWhere_eq_some.mpr ⟨Bool.and_eq_true_iff.mpr ⟨decide_eq_true shared, decide_eq_true protect⟩, fun f named => ?_⟩
  have same := protect_once sound (of_decide_eq_true (Bool.and_eq_true_iff.mp named).2) protect
  exact (congrArg Fin.val same).ge

theorem sharedGroupOf_eq_none {s : State} {p : Port} (h : ∀ g : GroupId, GroupConfig.kind s.group[g].config = .shared →
    GroupConfig.protect s.group[g].config ≠ some p) : s.sharedGroupOf p = none :=
  firstWhere_eq_none.mpr fun g => Bool.and_eq_false_imp.mpr fun shared => decide_eq_false (h g (of_decide_eq_true shared))

/-- A SHARED group hears on its protect port unless the port is FAILED or its capabilities lack OVERHEAD. -/
theorem hears_protect {s : State} {p : Port} {g : GroupId} (shared : GroupConfig.kind s.group[g].config = .shared)
    (protect : GroupConfig.protect s.group[g].config = some p) : Hears s g ↔ s.sup.record[p].grade ≠ .failed
      ∧ ∀ c, s.sup.record[p].caps = some c → c.overhead = true := by
  rw [hears_iff, and_comm]
  refine and_congr ⟨fun h failed => h ⟨p, protect, failed⟩, fun h ⟨q, at_, failed⟩ => ?_⟩
    ⟨fun h c caps => ?_, fun h ⟨_, q, c, at_, caps, lacks⟩ => ?_⟩
  · cases protect.symm.trans at_
    exact h failed
  · by_contra lacks
    exact h ⟨shared, p, c, protect, caps, Bool.not_eq_true _ |>.mp lacks⟩
  · cases protect.symm.trans at_
    rw [h c caps] at lacks
    cases lacks

end Sys2Proof.Claims

namespace Sys2Proof.Proofs
open Sys2Proof.Machine Sys2Proof.Claims

/-- Settles O42: the fields as sums of powers of two, and the persistence check case by case. -/
theorem bridgeWords : Obligations.BridgeWords := by
  refine ⟨bridgeWord_fields, bridgeValid_iff, fun s g => ⟨group_shown s.group[g], fun idle => ?_, ?_⟩, ?_, fun s p w none => ?_⟩
  · exact congrArg (restoreWaitWord s.now) idle
  · rintro n w runs range rfl
    have word : s.liveWord (.restoreWait g) = restoreWaitWord s.now (some n) := congrArg (restoreWaitWord s.now) runs
    rw [word]
    exact restoreWait_shown s.now n range
  · rintro s t p g w r n rfl sound shared protect rfl
    have holder := sharedGroupOf_eq_some sound shared protect
    have hears := hears_protect shared protect
    refine ⟨fun deaf => ?_, fun good overhead is_n => ?_⟩
    · unfold State.takeBridgeWord
      rw [holder]
      refine if_pos (Bool.or_eq_true_iff.mpr ?_)
      exact deaf.elim (fun failed => .inr (decide_eq_true failed)) fun ⟨c, caps, lacks⟩ =>
        .inl ((unusable_iff s _).mpr ⟨shared, p, c, protect, caps, lacks⟩)
    · have heard := hears.mpr ⟨good, overhead⟩
      rw [takeBridgeWord_hears w shared protect (fun f named => protect_once sound named protect) heard]
      exact takeWord_shown heard is_n
  · unfold State.takeBridgeWord
    rw [sharedGroupOf_eq_none none]

end Sys2Proof.Proofs

namespace Sys2Proof.Proofs
open Sys2Proof.Machine Sys2Proof.Claims

/-- Settles O23: the owners' answers to CLEAR and CLEAR-REF, executed. -/
theorem clearCommands : Obligations.ClearCommands := by
  refine ⟨fun o k s op free ready => ?_, fun s op free ready => ?_⟩
  · obtain ⟨-, object, channel, -⟩ := commandWord_fields (code := 4) (by decide) o k 0
    have cleared {u : State} {r : CommandResult} (answer : (wrote s 0x20 .word (commandWord 4 o k 0)).clearGroup o.toNat k.toNat = (u, r)) :
        ∃ t, exec (.clear o k 0) s = .next t ∧ Executed s u t 4 o.toNat r ∧ Regranted (u.recordResult 4 o.toNat r) t := by
      have served := command_served (i := .clear o k 0) (w := commandWord 4 o k 0) (u := u) (r := r) rfl op free ready
        (formCheck_clear o k) rfl (by rw [object, channel]; exact answer)
      rwa [object] at served
    refine ⟨fun range => ?_, fun g at_ zero waits => ?_, fun g at_ zero evaluated => ?_⟩
    · obtain ⟨t, run, h, -⟩ := cleared (State.clearGroup_invalid (range.imp_right fun n e => n (BitVec.eq_of_toNat_eq e)))
      exact ⟨t, run, h.recorded, h.ready, h.mailboxOnly⟩
    all_goals
      subst zero
      rw [← at_] at cleared
    · obtain ⟨t, run, h, -⟩ := cleared (State.clearGroup_unevaluated waits)
      exact ⟨t, run, h.recorded, h.ready, h.mailboxOnly⟩
    · obtain ⟨t, run, h, served⟩ := cleared (State.clearGroup_done evaluated)
      refine ⟨t, run, h.recorded, h.ready, ?_, served⟩
      obtain ⟨_, rfl⟩ := served
      simp only [State.recordResult_frame]
      rw [updateGroup_stored fun k => by rw [State.setGroup_group]; exact nofun, State.setGroup_group]
  · obtain ⟨t, run, h, served⟩ := command_served (i := .clearRef 0 0 0) (w := 6) (c := .clearRef) rfl op free ready (by decide) rfl rfl
    obtain ⟨scan, sup, group, driver, timing⟩ := h.blocks
    obtain ⟨-, -, path, -, scan', sup', group', driver'⟩ := (wrote s 0x20 .word 6).setForce_frame none
    have table := setForce_table (wrote s 0x20 .word 6) none
    have selects := setForce_selects (wrote s 0x20 .word 6) none
    have forced := setForce_forced (wrote s 0x20 .word 6) none
    have follows := setForce_follows (wrote s 0x20 .word 6) none
    have decided := setForce_decided (wrote s 0x20 .word 6) none
    have points := h.timingPoints (setForce_points _ _)
    rw [← timing] at selects forced follows decided table
    obtain ⟨grant, regranted⟩ := served
    refine ⟨t, run, h.recorded, h.ready, ⟨grant, regranted⟩, forced, selects, follows, points, decided, scan.trans scan', sup.trans sup',
      group.trans group', driver.trans driver', congrArg (·.1) table, congrArg (·.2.1) table, grant, ?_⟩
    rw [regranted]
    simp only [State.recordResult_frame, path]

end Sys2Proof.Proofs

namespace Sys2Proof.Claims
open Sys2Proof.Machine

/-! ## Screening of a group's words (R74 to R76) -/

/-- The screening of a word whose owner refuses, prohibits or takes a value brought into range, by what each of the three asks. -/
theorem screen_by_tests {s : State} {w : Watched} {v : Word} {bad held : Prop} (written : v ≠ s.heldWord w)
    (refused : (s.answers w v).refused = true ↔ bad) (prohibited : (s.answers w v).prohibited = true ↔ held)
    (once : (s.answers w v).onceHeld = false) : (bad → s.screen w v = (.refused, s.heldWord w))
      ∧ (¬ bad → held → s.screen w v = (.prohibited, s.heldWord w))
      ∧ (¬ bad → ¬ held → s.screen w v = taken (s.answers w v).value v) :=
  have admits (good : ¬ bad) : (s.answers w v).refused = false := eq_false_of_ne_true (good ∘ refused.mp)
  ⟨fun is_bad => State.screen_refused written (refused.mpr is_bad),
    fun good is_held => State.screen_prohibited written (admits good) (prohibited.mpr is_held),
    fun good free => State.screen_taken written (admits good) (eq_false_of_ne_true (free ∘ prohibited.mp)) once⟩

theorem structureHeld_iff {r : Group} {j : Fin 8} {e : Word} :
    r.structureHeld j e = true ↔ e ≠ r.config[j] ∧ r.winner ≠ ⟨0, 0⟩ := by
  rw [Group.structureHeld, Bool.and_eq_true, decide_eq_true_iff, decide_eq_true_iff]
  rfl

theorem portTaken_iff {s : State} {g : GroupId} {j : Fin 5} {f : Fin 8} (at_ : f.val = j.val + 1) (n : Nat) :
    s.portTaken g f n = true ↔ ∃ h i, ¬ (h = g ∧ i = j) ∧ s.portFieldOf h i = n := by
  have own (i : Fin 5) : i.val + 1 = f.val ↔ i = j := by omega
  simp only [State.portTaken, List.any_eq_true, List.mem_finRange, true_and, Bool.and_eq_true, Bool.not_eq_true', Bool.and_eq_false_imp,
    decide_eq_true_eq, decide_eq_false_iff_not, own, not_and]
  rfl

theorem unmonitored_iff {u : Supervisor} {n : Nat} : u.unmonitored n = true ↔ ∃ p : Port, p.val = n ∧ u.kind p = .none := by
  unfold Supervisor.unmonitored
  split
  next range =>
    rw [decide_eq_true_iff]
    exact ⟨fun unused => ⟨⟨n, range⟩, rfl, unused⟩, fun ⟨p, at_, unused⟩ => by subst at_; exact unused⟩
  next range => exact iff_of_false nofun fun ⟨p, at_, _⟩ => range (at_ ▸ p.isLt)

/-- A word of the structure is prohibited a change while the winner is not CLEAR (R76). -/
theorem screen_structure {s : State} {g : GroupId} {f : Fin 8} {v e : Word} {bad : Prop} (written : v ≠ s.heldWord (.group g f))
    (refused : (s.answers (.group g f) v).refused = true ↔ bad)
    (prohibited : (s.answers (.group g f) v).prohibited = s.group[g].structureHeld f e) (value : (s.answers (.group g f) v).value = e)
    (once : (s.answers (.group g f) v).onceHeld = false) :
    (bad → s.screen (.group g f) v = (.refused, s.heldWord (.group g f)))
    ∧ (¬ bad → e ≠ s.heldWord (.group g f) ∧ s.group[g].winner ≠ ⟨0, 0⟩ →
        s.screen (.group g f) v = (.prohibited, s.heldWord (.group g f)))
    ∧ (¬ bad → e = s.heldWord (.group g f) ∨ s.group[g].winner = ⟨0, 0⟩ → s.screen (.group g f) v = taken e v) := by
  obtain ⟨refuses, prohibits, takes⟩ := screen_by_tests written refused (prohibited ▸ structureHeld_iff) once
  rw [value] at takes
  exact ⟨refuses, prohibits, fun good free => takes good fun held => free.elim held.1 held.2⟩

/-- Words 1 to 5 of a group are its port fields. -/
theorem answers_portField {s : State} {g : GroupId} {f : Fin 8} (low : 1 ≤ f.val) (high : f.val ≤ 5) (v : Word) :
    s.answers (.group g f) v = s.answerPortField g f v := by
  have five : f = 1 ∨ f = 2 ∨ f = 3 ∨ f = 4 ∨ f = 5 := by omega
  obtain rfl | rfl | rfl | rfl | rfl := five <;> rfl

theorem screen_portField {s : State} {g : GroupId} {v : Word} (j : Fin 5) (f : Fin 8) (bad : Prop) (at_ : f.val = j.val + 1)
    (written : v ≠ s.heldWord (.group g f))
    (is_bad : bad ↔ v.toNat % 64 ≠ 63 ∧ (24 ≤ v.toNat % 64
      ∨ (∃ h i, ¬ (h = g ∧ i = j) ∧ s.portFieldOf h i = v.toNat % 64)
      ∨ (∃ p : Port, p.val = v.toNat % 64 ∧ s.sup.kind p = .none)
      ∨ GroupConfig.count s.group[g].config < j.val)) :
    (bad → s.screen (.group g f) v = (.refused, s.heldWord (.group g f)))
    ∧ (¬ bad → v &&& 0x003F ≠ s.heldWord (.group g f) ∧ s.group[g].winner ≠ ⟨0, 0⟩ →
        s.screen (.group g f) v = (.prohibited, s.heldWord (.group g f)))
    ∧ (¬ bad → v &&& 0x003F = s.heldWord (.group g f) ∨ s.group[g].winner = ⟨0, 0⟩ →
        s.screen (.group g f) v = taken (v &&& 0x003F) v) := by
  have answers := answers_portField (s := s) (g := g) (f := f) (by omega) (by omega) v
  refine screen_structure written ?_ (by rw [answers]; rfl) (by rw [answers]; rfl) (by rw [answers]; rfl)
  have number : bits v 0 6 = v.toNat % 64 := by simp [bits]
  have excess : GroupConfig.count s.group[g].config + 1 < f.val ↔ GroupConfig.count s.group[g].config < j.val := by omega
  rw [answers, is_bad, ← number, ← portTaken_iff at_, ← unmonitored_iff, ← excess]
  simp only [State.answerPortField, Bool.and_eq_true, Bool.or_eq_true, decide_eq_true_eq, or_assoc]

theorem kindOf_paired {v : Word} : GroupConfig.kindOf v = .paired ↔ v.toNat % 4 = 1 := by
  have code : bits v 0 2 = v.toNat % 4 := bits_kind v
  unfold GroupConfig.kindOf
  rw [code]
  have range : v.toNat % 4 < 4 := by omega
  generalize v.toNat % 4 = n at range ⊢
  rcases n with _ | _ | _ | n <;> simp

theorem clampCount_eq (v : Word) :
    clampCount (GroupConfig.kindOf v) (bits v 4 3) = if v.toNat % 4 = 1 then 1 else max 1 (min 4 (v.toNat / 16 % 8)) := by
  have clamped : clampNat 1 4 (bits v 4 3) = max 1 (min 4 (v.toNat / 16 % 8)) := by
    simp only [clampNat, bits]
    omega
  rw [← clamped]
  cases kind : GroupConfig.kindOf v with
  | paired => rw [if_pos (kindOf_paired.mp kind)]; rfl
  | none | shared => rw [if_neg fun one => by rw [kindOf_paired.mpr one] at kind; cases kind]; rfl

/-- A channel above a count holds a port (R75). -/
theorem dropsPort_iff {s : State} {g : GroupId} {n : Nat} : (List.finRange 4).any (fun k : Fin 4 =>
      n < k.val + 1 && bits s.group[g].config[2 + k.val] 0 6 ≠ 63) = true ↔ ∃ k : Fin 5, n < k.val ∧ s.portFieldOf g k ≠ 63 := by
  have field (k : Fin 4) : bits s.group[g].config[2 + k.val] 0 6 = s.portFieldOf g k.succ := by
    simp only [State.portFieldOf, Fin.val_succ, Nat.add_comm, Nat.add_left_comm]
  simp only [List.any_eq_true, List.mem_finRange, true_and, Bool.and_eq_true, decide_eq_true_eq, field]
  refine ⟨fun ⟨k, above, port⟩ => ⟨k.succ, above, port⟩, fun ⟨k, above, port⟩ => ?_⟩
  obtain ⟨k, rfl⟩ := Fin.exists_succ_eq.mpr fun zero : k = 0 => by
    rw [zero] at above
    exact absurd above (Nat.not_lt_zero n)
  exact ⟨k, above, port⟩

theorem screen_groupKind {s : State} {g : GroupId} {v : Word} (written : v ≠ s.heldWord (.group g 0)) (n : Nat) (e : Word) (bad : Prop)
    (is_n : n = if v.toNat % 4 = 1 then 1 else max 1 (min 4 (v.toNat / 16 % 8))) (is_e : e = wordOf (v.toNat % 4 + 16 * n))
    (is_bad : bad ↔ v.toNat % 4 = 3 ∨ ∃ k : Fin 5, n < k.val ∧ s.portFieldOf g k ≠ 63) :
    (bad → s.screen (.group g 0) v = (.refused, s.heldWord (.group g 0)))
    ∧ (¬ bad → e ≠ s.heldWord (.group g 0) ∧ s.group[g].winner ≠ ⟨0, 0⟩ →
        s.screen (.group g 0) v = (.prohibited, s.heldWord (.group g 0)))
    ∧ (¬ bad → e = s.heldWord (.group g 0) ∨ s.group[g].winner = ⟨0, 0⟩ → s.screen (.group g 0) v = taken e v) := by
  rw [← clampCount_eq] at is_n
  have value : wordOf (bits v 0 2 + 16 * clampCount (GroupConfig.kindOf v) (bits v 4 3)) = e := by
    rw [is_e, is_n, bits_kind]
  refine screen_structure written ?_ (by rw [← value]; rfl) value rfl
  rw [is_bad, ← dropsPort_iff, is_n, ← bits_kind]
  exact (Bool.or_eq_true _ _).to_iff.trans (or_congr_left decide_eq_true_iff)

/-- Another element field holds a number (R74): the field of the selector lies at bit 0 of word 6, that of the bridge at bit 8. -/
theorem elementTaken_iff {s : State} {g : GroupId} (bridge : Bool) (n : Nat) : s.elementTaken g (if bridge then 8 else 0) n = true
    ↔ ∃ h b, ¬ (h = g ∧ b = bridge) ∧ s.elementFieldOf h b = n := by
  have field (b c : Bool) : (if b then 8 else 0) = (if c then 8 else 0) ↔ b = c := by cases b <;> cases c <;> decide
  have places (f : Nat → Bool) : [0, 8].any f = true ↔ ∃ b : Bool, f (if b then 8 else 0) = true := by simp
  simp only [State.elementTaken, List.any_eq_true (l := List.finRange 12), List.mem_finRange, true_and, places, Bool.and_eq_true,
    Bool.not_eq_true', Bool.and_eq_false_imp, decide_eq_true_eq, decide_eq_false_iff_not, field, not_and]
  rfl

theorem elementRefused_iff {s : State} {g : GroupId} (bridge : Bool) (n : Nat) : s.elementRefused g (if bridge then 8 else 0) n = true
    ↔ n ≠ 63 ∧ (32 ≤ n ∨ ∃ h b, ¬ (h = g ∧ b = bridge) ∧ s.elementFieldOf h b = n) := by
  rw [State.elementRefused, Bool.and_eq_true, Bool.or_eq_true, elementTaken_iff, decide_eq_true_iff, decide_eq_true_iff]

theorem screen_groupElements {s : State} {g : GroupId} {v : Word} (written : v ≠ s.heldWord (.group g 6)) (a b : Nat) (bad : Prop)
    (is_a : a = v.toNat % 64) (is_b : b = v.toNat / 256 % 64)
    (is_bad : bad ↔ (a ≠ 63 ∧ (32 ≤ a ∨ ∃ h l, ¬ (h = g ∧ l = false) ∧ s.elementFieldOf h l = a))
      ∨ (b ≠ 63 ∧ (32 ≤ b ∨ ∃ h l, ¬ (h = g ∧ l = true) ∧ s.elementFieldOf h l = b)) ∨ (a = b ∧ a ≠ 63)) :
    (bad → s.screen (.group g 6) v = (.refused, s.heldWord (.group g 6)))
    ∧ (¬ bad → v &&& 0x3F3F ≠ s.heldWord (.group g 6) ∧ s.group[g].winner ≠ ⟨0, 0⟩ →
        s.screen (.group g 6) v = (.prohibited, s.heldWord (.group g 6)))
    ∧ (¬ bad → v &&& 0x3F3F = s.heldWord (.group g 6) ∨ s.group[g].winner = ⟨0, 0⟩ →
        s.screen (.group g 6) v = taken (v &&& 0x3F3F) v) := by
  have selector : bits v 0 6 = a := by rw [is_a]; simp [bits]
  have bridge : bits v 8 6 = b := is_b.symm
  refine screen_structure written ?_ rfl rfl rfl
  have refused : (s.answers (.group g 6) v).refused = (s.elementRefused g 0 (bits v 0 6) || s.elementRefused g 8 (bits v 8 6)
    || (bits v 0 6 = bits v 8 6 && bits v 0 6 ≠ 63)) := rfl
  rw [refused, selector, bridge, is_bad, Bool.or_eq_true, Bool.or_eq_true, Bool.and_eq_true, decide_eq_true_iff, decide_eq_true_iff, or_assoc]
  exact or_congr (elementRefused_iff false a) (or_congr_left (elementRefused_iff true b))

theorem screen_groupPolicy {s : State} {g : GroupId} {v : Word} (written : v ≠ s.heldWord (.group g 7)) : s.screen (.group g 7) v =
    taken (wordOf (min 100 (v.toNat % 128) + 256 * max 1 (min 12 (v.toNat / 256 % 16)) + 4096 * (v.toNat / 4096 % 4))) v := by
  have value : min 100 (bits v 0 7) + 256 * clampNat 1 12 (bits v 8 4) + 4096 * bits v 12 2
      = min 100 (v.toNat % 128) + 256 * max 1 (min 12 (v.toNat / 256 % 16)) + 4096 * (v.toNat / 4096 % 4) := by
    simp only [clampNat, bits]
    omega
  exact State.screen_ranged written (by rw [← value]; rfl)

end Sys2Proof.Claims

namespace Sys2Proof.Machine

/-! ## The transmit words through a group's update (R100) -/

/-- An update of group `g` from `s` to `t` sets no transmit word but that of its protect port, where it is SHARED, and that word then
carries the group's local top request. -/
structure State.Transmits (s t : State) (g : GroupId) : Prop where
  config : t.group[g].config = s.group[g].config
  other  : ∀ p : Port, ¬ (GroupConfig.kind s.group[g].config = .shared ∧ GroupConfig.protect s.group[g].config = some p) →
    t.scan.transmit[p] = s.scan.transmit[p]
  own    : ∀ p : Port, GroupConfig.kind s.group[g].config = .shared → GroupConfig.protect s.group[g].config = some p →
    bridgeRequest t.scan.transmit[p] = t.group[g].top

namespace State.Transmits

theorem trans {s t u : State} {g : GroupId} (h : s.Transmits t g) (k : t.Transmits u g) : s.Transmits u g where
  config := k.config.trans h.config
  other := fun p n => (k.other p (h.config ▸ n)).trans (h.other p n)
  own := fun p shared protect => k.own p (h.config ▸ shared) (h.config ▸ protect)

/-- What has set no transmit word yet. -/
theorem after {s t u : State} {g : GroupId} (config : t.group[g].config = s.group[g].config) (scan : t.scan = s.scan)
    (k : t.Transmits u g) : s.Transmits u g where
  config := k.config.trans config
  other := fun p n => (k.other p (config ▸ n)).trans (by rw [scan])
  own := fun p shared protect => k.own p (config ▸ shared) (config ▸ protect)

/-- What sets no transmit word any more. -/
theorem before {s t u : State} {g : GroupId} (h : s.Transmits t g) (group : u.group = t.group) (scan : u.scan = t.scan) : s.Transmits u g where
  config := by rw [group, h.config]
  other := fun p n => by rw [scan, h.other p n]
  own := fun p shared protect => by rw [scan, group, h.own p shared protect]

end State.Transmits

theorem State.formTransmit_transmits (s : State) (heard : Driver) (g : GroupId) : s.Transmits (s.formTransmit heard g) g where
  config := by rw [(s.formTransmit_frame heard g).2.2.2.2.2.1]
  other := fun _ => State.formTransmit_other heard
  own := fun p shared protect => by
    rw [State.formTransmit_shared heard shared protect, (s.formTransmit_frame heard g).2.2.2.2.2.1]
    exact (Claims.bridgeWord_fields _ _).1

theorem State.takeUpdate_transmits (s : State) (heard : Driver) (first : Bool) (g : GroupId) : s.Transmits (s.takeUpdate heard first g) g := by
  have config := (s.takeUpdate_reacts heard first g).config g
  unfold State.takeUpdate at config ⊢
  dsimp only at config ⊢
  rw [(State.formTransmit_frame _ heard g).2.2.2.2.2.1] at config
  refine .after config ?_ (State.formTransmit_transmits _ heard g)
  rw [(State.handConditions_frame _ heard g).2.2.2.2.1]
  split <;> simp only [State.evaluate_frame, State.bringRequests_frame]

theorem State.Transmits.takeOwnReport {a s : State} {g : GroupId} (h : a.Transmits s g) (old heard : Driver) (o : Option ElementId) :
    a.Transmits (s.takeOwnReport old heard g o) g := by
  cases o with
  | none => exact h
  | some e =>
    by_cases made : Driver.reported old heard e = true
    · rw [show s.takeOwnReport old heard g (some e) = _ from if_pos made]
      refine h.trans (.after ?_ (s.noteReport_frame heard g e).2.2.2.2.1 (State.takeUpdate_transmits _ heard false g))
      rw [State.noteReport_group]
    · rw [show s.takeOwnReport old heard g (some e) = _ from if_neg made]
      exact h

theorem State.groupUpdate_transmits (s : State) (first : Bool) (g : GroupId) : s.Transmits (s.groupUpdate first g) g := by
  unfold State.groupUpdate
  obtain ⟨-, -, -, -, scan, -, group, -⟩ := State.reportSelector_frame s (((s.takeUpdate s.driver first g).takeOwnReport s.driver
    (s.driver.hearing (s.takeUpdate s.driver first g).driver (GroupConfig.bridge s.group[g].config)) g
    (GroupConfig.bridge s.group[g].config)).takeOwnReport
    (s.driver.hearing (s.takeUpdate s.driver first g).driver (GroupConfig.bridge s.group[g].config))
    (s.takeUpdate s.driver first g).driver g (GroupConfig.selector s.group[g].config)) g
  exact (((s.takeUpdate_transmits s.driver first g).takeOwnReport _ _ _).takeOwnReport _ _ _).before group scan

/-! ## A group reconfigured, before its update (R77, R100, R106, R122) -/

/-- The record of a group whose configuration was changed from `old`, before its update, its conditions apart. -/
def Group.reconfigured (r : Group) (old : Vector Word 8) (now : Nat) : Group :=
  let x := if newProtocolCase old r.config then (r.changeWorkings old).newProtocol else r.changeWorkings old
  if GroupConfig.revertive old = GroupConfig.revertive r.config then x else x.changeRevertive now

/-- The state in which a group changed from `old` is updated. -/
def State.reconfigured (s : State) (g : GroupId) (old : Vector Word 8) : State :=
  let new := s.group[g].config
  let t := s.setGroup g (s.takeElements old (s.group[g].reconfigured old s.now))
  (if old[6] = new[6] then t else t.handElements g).endTransmit old new

theorem State.groupChanged_eq (s : State) (g : GroupId) (old : Vector Word 8) : s.groupChanged g old
    = if structureChanged old s.group[g].config then ((s.reconfigured g old).updateGroup g).timingGroupChange g
      else (s.reconfigured g old).updateGroup g := rfl

theorem Group.changeRevertive_frame (r : Group) (n : Nat) : r.changeRevertive n
    = { r with entry := (r.changeRevertive n).entry, restoreWait := (r.changeRevertive n).restoreWait } := by
  unfold Group.changeRevertive
  (repeat' split) <;> rfl

theorem State.takeElements_frame (s : State) (old : Vector Word 8) (r : Group) :
    s.takeElements old r = { r with conditions := (s.takeElements old r).conditions } := by
  unfold State.takeElements State.takeSelector
  dsimp only
  (repeat' split) <;> rfl

/-- What a change of configuration brings the record: the flag of R77 changes the entry and its timer alone. -/
theorem Group.reconfigured_frame (r : Group) (old : Vector Word 8) (now : Nat) : r.reconfigured old now
    = { (if newProtocolCase old r.config then (r.changeWorkings old).newProtocol else r.changeWorkings old) with
        entry := (r.reconfigured old now).entry, restoreWait := (r.reconfigured old now).restoreWait } := by
  unfold Group.reconfigured
  dsimp only
  split
  · rfl
  · exact Group.changeRevertive_frame _ _

theorem Group.reconfigured_config (r : Group) (old : Vector Word 8) (now : Nat) :
    (r.reconfigured old now).config = r.config ∧ (r.reconfigured old now).evaluated = r.evaluated := by
  rw [r.reconfigured_frame]
  split <;> exact ⟨rfl, rfl⟩

/-- A channel whose working port changed begins afresh (R77). -/
theorem Group.reconfigured_channel {r : Group} {old : Vector Word 8} {k : ChannelIx} (now : Nat)
    (changed : GroupConfig.working old k ≠ GroupConfig.working r.config k) :
    (r.reconfigured old now).channel[k] = ⟨.clear, none, .clear⟩ := by
  have afresh : (r.changeWorkings old).channel[k] = ⟨.clear, none, .clear⟩ := (Vector.getElem_ofFn _).trans (if_neg changed)
  rw [r.reconfigured_frame]
  split <;> exact afresh

/-- A new protocol begins afresh (R106). -/
theorem Group.reconfigured_protocol {r : Group} {old : Vector Word 8} (now : Nat) (new : newProtocolCase old r.config = true) :
    (r.reconfigured old now).candidate = none ∧ (r.reconfigured old now).run = 0 ∧ (r.reconfigured old now).accepted = none
    ∧ (r.reconfigured old now).invalidWord = false ∧ (r.reconfigured old now).timeout = false
    ∧ (r.reconfigured old now).confirmation = none := by
  rw [r.reconfigured_frame, if_pos new]
  exact ⟨rfl, rfl, rfl, rfl, rfl, rfl⟩

/-- A changed revertive flag of a PAIRED group (R77). -/
theorem Group.reconfigured_entry {r : Group} {old : Vector Word 8} (now : Nat) (paired : GroupConfig.kind r.config = .paired) :
    (GroupConfig.revertive old = false → GroupConfig.revertive r.config = true → r.entry = some .stay →
      (r.reconfigured old now).entry = some (.wait 0)
      ∧ (r.reconfigured old now).restoreWait = if r.evaluated then some (now + 480000 * GroupConfig.restoreWait r.config) else none)
    ∧ (∀ k, GroupConfig.revertive old = true → GroupConfig.revertive r.config = false → r.entry = some (.wait k) →
      (r.reconfigured old now).entry = some .stay ∧ (r.reconfigured old now).restoreWait = none) := by
  obtain ⟨x, is_x⟩ : ∃ x, x = if newProtocolCase old r.config then (r.changeWorkings old).newProtocol else r.changeWorkings old := ⟨_, rfl⟩
  have frame : x.config = r.config ∧ x.entry = r.entry ∧ x.evaluated = r.evaluated := by
    rw [is_x]
    split <;> exact ⟨rfl, rfl, rfl⟩
  obtain ⟨config, entry, evaluated⟩ := frame
  have apart (h : GroupConfig.revertive old ≠ GroupConfig.revertive r.config) : r.reconfigured old now = x.changeRevertive now := by
    rw [is_x]
    exact if_neg h
  refine ⟨fun before after stay => ?_, fun k before after wait => ?_⟩ <;>
    rw [apart (by rw [before, after]; decide), Group.changeRevertive, config, if_pos paired, after, entry]
  · rw [stay, evaluated, ← restoreWaitTime_eq]
    exact ⟨rfl, rfl⟩
  · rw [wait]
    exact ⟨rfl, rfl⟩

end Sys2Proof.Machine

namespace Sys2Proof.Machine

/-- A point handed over as raised is latched, if it was not raised before. -/
theorem State.setPoint_latches (s : State) (pt : Point) : s.pointRaised pt = true ∨ (s.setPoint pt true).pointLatched pt = true := by
  by_cases raised : s.pointRaised pt = true
  · exact .inl raised
  · refine .inr ?_
    rw [(State.setPoint_points s pt true raised pt).2, decide_eq_true rfl, Bool.or_true]

/-- ON PROTECT and SWITCH FAULT found true at a change of the elements are latched, if they were not raised before. -/
theorem State.handElements_latches {s : State} {g : GroupId} :
    (s.group[g].conditions.onProtect = true → s.pointRaised (.group g 1) = true ∨ (s.handElements g).pointLatched (.group g 1) = true)
    ∧ (s.group[g].conditions.switchFault = true →
        s.pointRaised (.group g 5) = true ∨ (s.handElements g).pointLatched (.group g 5) = true) := by
  unfold State.handElements
  refine ⟨fun onProtect => ?_, fun fault => ?_⟩
  · rw [onProtect]
    exact (s.setPoint_latches _).imp_right ((State.setPoint_logs _ _ _).latched _)
  · rw [fault, ← s.setPoint_raised_other (.group g 1) (.group g 5) s.group[g].conditions.onProtect (by simp)]
    exact State.setPoint_latches _ _

theorem State.takeElements_fault {s : State} {old : Vector Word 8} {r : Group}
    (named : GroupConfig.selector old ≠ GroupConfig.selector r.config ∨ GroupConfig.bridge old ≠ GroupConfig.bridge r.config) :
    (s.takeElements old r).conditions.switchFault = s.driver.faultOf r.config := by
  have changed : ¬ (GroupConfig.selector old = GroupConfig.selector r.config ∧ GroupConfig.bridge old = GroupConfig.bridge r.config) :=
    fun same => named.elim (absurd same.1) (absurd same.2)
  by_cases selector : GroupConfig.selector old = GroupConfig.selector r.config
  · unfold State.takeElements
    rw [if_pos selector]
    dsimp only
    rw [if_neg changed]
    rfl
  · unfold State.takeElements
    rw [if_neg selector]
    dsimp only [State.takeSelector]
    rw [if_neg changed]
    rfl

theorem State.takeElements_onProtect {s : State} {old : Vector Word 8} {r : Group}
    (named : GroupConfig.selector old ≠ GroupConfig.selector r.config) : (s.takeElements old r).conditions.onProtect
      = (GroupConfig.selector r.config).any (fun e => (s.report e).onProtect false) := by
  unfold State.takeElements
  rw [if_neg named]
  dsimp only [State.takeSelector]
  rw [if_neg fun same => named same.1]

/-- What is updated after a change of configuration. -/
theorem State.reconfigured_group (s : State) (g : GroupId) (old : Vector Word 8) :
    (s.reconfigured g old).group[g] = s.takeElements old (s.group[g].reconfigured old s.now)
    ∧ (∀ h : GroupId, h ≠ g → (s.reconfigured g old).group[h] = s.group[h])
    ∧ (s.reconfigured g old).sup = s.sup ∧ (s.reconfigured g old).now = s.now := by
  have group : (s.reconfigured g old).group = (s.setGroup g (s.takeElements old (s.group[g].reconfigured old s.now))).group
      ∧ (s.reconfigured g old).sup = s.sup ∧ (s.reconfigured g old).now = s.now := by
    unfold State.reconfigured
    dsimp only
    simp only [State.endTransmit_frame]
    split <;> simp only [State.handElements_frame, State.setGroup_frame, and_self]
  obtain ⟨group, sup, now⟩ := group
  rw [group]
  exact ⟨put_same _ _ _, fun h apart => put_other _ _ _ _ apart.symm, sup, now⟩

/-- A port that stops being the protect port of a SHARED group transmits 0 (R100). -/
theorem State.endTransmit_ends {s : State} {old new : Vector Word 8} {p : Port} (shared : GroupConfig.kind old = .shared)
    (protect : GroupConfig.protect old = some p) (ends : ¬ (GroupConfig.kind new = .shared ∧ GroupConfig.protect new = some p)) :
    (s.endTransmit old new).scan.transmit[p] = 0 := by
  unfold State.endTransmit
  rw [shared, protect]
  dsimp only
  rw [if_neg ends]
  exact put_same _ _ _

theorem State.reconfigured_ends {s : State} {g : GroupId} {old : Vector Word 8} {p : Port} (shared : GroupConfig.kind old = .shared)
    (protect : GroupConfig.protect old = some p)
    (ends : ¬ (GroupConfig.kind s.group[g].config = .shared ∧ GroupConfig.protect s.group[g].config = some p)) :
    (s.reconfigured g old).scan.transmit[p] = 0 := State.endTransmit_ends shared protect ends

/-- The points of newly named elements, found FAULTED or away from position 0 (R93, R122). -/
theorem State.reconfigured_latches {s : State} {g : GroupId} {old : Vector Word 8} (on : s.driver.on = true) (e : ElementId) :
    ((GroupConfig.selector s.group[g].config = some e ∧ GroupConfig.selector old ≠ some e)
        ∨ (GroupConfig.bridge s.group[g].config = some e ∧ GroupConfig.bridge old ≠ some e) → (s.element e).state = .faulted →
      s.pointRaised (.group g 5) = true ∨ (s.reconfigured g old).pointLatched (.group g 5) = true)
    ∧ (GroupConfig.selector s.group[g].config = some e → GroupConfig.selector old ≠ some e → (s.element e).state = .settled →
      (s.element e).commanded ≠ 0 → s.pointRaised (.group g 1) = true ∨ (s.reconfigured g old).pointLatched (.group g 1) = true) := by
  have config := (s.group[g].reconfigured_config old s.now).1
  have handed (changed : old[6] ≠ s.group[g].config[6]) (pt : Point) : (s.reconfigured g old).pointLatched pt
      = ((s.setGroup g (s.takeElements old (s.group[g].reconfigured old s.now))).handElements g).pointLatched pt := by
    unfold State.reconfigured State.pointLatched
    dsimp only
    rw [if_neg changed]
    simp only [State.endTransmit_frame]
  have latches := State.handElements_latches (s := s.setGroup g (s.takeElements old (s.group[g].reconfigured old s.now))) (g := g)
  rw [State.setGroup_group] at latches
  refine ⟨fun named faulted => ?_, fun selector newly settled away => ?_⟩
  · have changed : GroupConfig.selector old ≠ GroupConfig.selector s.group[g].config
        ∨ GroupConfig.bridge old ≠ GroupConfig.bridge s.group[g].config :=
      named.imp (fun h same => h.2 (same.trans h.1)) fun h same => h.2 (same.trans h.1)
    have word : old[6] ≠ s.group[g].config[6] := fun same => by
      unfold GroupConfig.selector GroupConfig.bridge at changed
      rw [same] at changed
      exact changed.elim (absurd rfl) (absurd rfl)
    rw [handed word]
    refine latches.2 ?_
    rw [State.takeElements_fault (by rw [config]; exact changed), config]
    exact Driver.faultOf_iff.mpr ⟨on, e, faulted, named.imp And.left And.left⟩
  · have changed : GroupConfig.selector old ≠ GroupConfig.selector s.group[g].config := fun same => newly (same.trans selector)
    have word : old[6] ≠ s.group[g].config[6] := fun same => changed (congrArg (elementField · 0) same)
    rw [handed word]
    refine latches.1 ?_
    have report : s.report e = .settled (s.element e).commanded := Driver.report_eq_settled_iff.mpr ⟨on, settled, rfl⟩
    rw [State.takeElements_onProtect (by rw [config]; exact changed), config, selector, Option.any_some, report]
    exact decide_eq_true fun zero => away (Fin.ext zero)

/-- What is put after a change of configuration's first part. -/
theorem State.groupChanged_logs (s : State) (g : GroupId) (old : Vector Word 8) : (s.reconfigured g old).Logs (s.groupChanged g old) := by
  rw [s.groupChanged_eq]
  have updated := (s.reconfigured g old).groupUpdate_logs false g
  exact (updated.trans (State.timingGroupChange_logs _ g)).ite updated

/-- A change of configuration is the record's change and an update; the timing unit follows it (R77). -/
theorem State.groupChanged_update (s : State) (g : GroupId) (old : Vector Word 8) :
    (s.groupChanged g old).group = ((s.reconfigured g old).groupUpdate false g).group
    ∧ (s.groupChanged g old).scan = ((s.reconfigured g old).groupUpdate false g).scan
    ∧ (s.groupChanged g old).sup = s.sup := by
  rw [← and_assoc]
  refine ⟨?_, (s.groupChanged_frame g old).2.2.2.2⟩
  obtain ⟨-, -, -, -, scan, -, group, -⟩ := ((s.reconfigured g old).updateGroup g).timingGroupChange_frame g
  rw [s.groupChanged_eq]
  split
  · exact ⟨group, scan⟩
  · exact ⟨rfl, rfl⟩

end Sys2Proof.Machine

namespace Sys2Proof.Claims
open Sys2Proof.Machine

/-! ## What an accepted change of a group brings (R77, R100, R106, R122) -/

theorem newProtocolCase_iff {old new : Vector Word 8} : newProtocolCase old new = true
    ↔ (GroupConfig.kind old = .shared ∨ GroupConfig.kind new = .shared)
      ∧ (GroupConfig.kind old ≠ GroupConfig.kind new ∨ GroupConfig.count old ≠ GroupConfig.count new
        ∨ GroupConfig.protect old ≠ GroupConfig.protect new) := by
  simp only [newProtocolCase, Bool.and_eq_true, Bool.or_eq_true, decide_eq_true_eq, or_assoc]

/-- A channel that begins afresh, brought up to date. -/
theorem channelMet_afresh {s : State} {c : Vector Word 8} {k : ChannelIx} {x : Channel} (met : ChannelMet s c k ⟨.clear, none, .clear⟩ x) :
    (gradeCond s c k = .clear ∨ GroupConfig.holdOff c = 0 → x.raised = gradeCond s c k ∧ x.holdOff = none)
    ∧ (gradeCond s c k ≠ .clear → GroupConfig.holdOff c ≠ 0 →
      x.raised = .clear ∧ x.holdOff = some (s.now + 800 * GroupConfig.holdOff c)) := by
  obtain ⟨clear, -, atOnce, held, -⟩ := met
  have due (some : gradeCond s c k ≠ .clear) : (none : Timer) = none
      ∧ (gradeCond s c k = .fail ∧ Condition.clear ≠ .fail ∨ gradeCond s c k = .degrade ∧ Condition.clear = .clear) := by
    refine ⟨rfl, ?_⟩
    cases cond : gradeCond s c k with
    | clear => exact absurd cond some
    | fail => exact .inl ⟨rfl, nofun⟩
    | degrade => exact .inr ⟨rfl, rfl⟩
  refine ⟨fun h => ?_, fun some wait => held (due some) wait⟩
  by_cases none : gradeCond s c k = .clear
  · rw [none]
    exact clear none
  · exact atOnce (due none) (h.resolve_left none)

/-- The protocol state of a group updated after a new protocol (R106). -/
theorem newProtocol_updated {s : State} {g : GroupId} (candidate : s.group[g].candidate = none) (run : s.group[g].run = 0)
    (accepted : s.group[g].accepted = none) (invalidWord : s.group[g].invalidWord = false) (timeout : s.group[g].timeout = false)
    (confirmation : s.group[g].confirmation = none) : let x := (s.groupUpdate false g).group[g]
    x.candidate = none ∧ x.run = 0 ∧ x.accepted = none ∧ x.invalidWord = false ∧ x.timeout = false
    ∧ ∀ k n, x.confirmation = some (k, n) → n = s.now + 1600 := by
  obtain ⟨-, -, -, -, -, -, drops, keeps⟩ := requestsMet_groupUpdate s false g
  have received : (s.groupUpdate false g).group[g].candidate = none ∧ (s.groupUpdate false g).group[g].run = 0
      ∧ (s.groupUpdate false g).group[g].accepted = none := by
    by_cases deaf : ProtectFailed s s.group[g].config ∨ Unusable s s.group[g].config
    · exact drops deaf
    · obtain ⟨good, usable⟩ := not_or.mp deaf
      have kept := keeps good usable
      rwa [candidate, run, accepted] at kept
  have timed : (s.groupUpdate false g).group[g].timeout = false
      ∧ ∀ k n, (s.groupUpdate false g).group[g].confirmation = some (k, n) → n = s.now + 1600 := by
    cases evaluated : s.group[g].evaluated with
    | false =>
      obtain ⟨-, -, -, same, late⟩ := groupUpdate_waits evaluated
      rw [same, late, confirmation]
      exact ⟨timeout, nofun⟩
    | true =>
      have confirmed := confirmed_groupUpdate (first := false) (.inr evaluated)
      rw [confirmed_eq] at confirmed
      obtain ⟨agreed, late, -, -, starts⟩ := confirmed
      by_cases apart : GroupConfig.kind s.group[g].config = .shared ∧ 1 ≤ (s.groupUpdate false g).group[g].winner.level.val
        ∧ (s.groupUpdate false g).group[g].winner.level.val ≤ 5
        ∧ (s.groupUpdate false g).group[g].farBridged.val ≠ (s.groupUpdate false g).group[g].winner.channel.val
      · refine ⟨(late apart).trans timeout, fun k n runs => ?_⟩
        rw [starts apart timeout (by rw [confirmation]; exact fun _ => nofun)] at runs
        cases runs
        rfl
      · rw [(agreed apart).1, (agreed apart).2]
        exact ⟨rfl, nofun⟩
  exact ⟨received.1, received.2.1, received.2.2, (s.groupUpdate_invalidWord false g).trans invalidWord, timed⟩

/-- An entry stands through an update that ends with a top request below level 2. -/
theorem entry_stands {s : State} {g : GroupId} (low : (s.groupUpdate false g).group[g].top.level.val < 2) (held : s.group[g].entry ≠ none) :
    (s.groupUpdate false g).group[g].entry = s.group[g].entry ∧ (s.groupUpdate false g).group[g].restoreWait = s.group[g].restoreWait := by
  obtain ⟨-, stands, -⟩ := entrySettled_groupUpdate s g
  refine stands (fun ⟨q, is_held, high⟩ => ?_) held
  obtain ⟨on, fault, record⟩ := s.groupUpdate_record false g
  have highest := (updated_highest s false g).2.2
  rw [record] at is_held low
  have below : q.level.val < (s.updated false g).top.level.val
      ∨ (q.level = (s.updated false g).top.level ∧ (s.updated false g).top.channel.val ≤ q.channel.val) :=
    highest q (mem_localRequests_iff.mpr is_held)
  have top : (s.updated false g).top.level.val < 2 := low
  rw [Fin.ext_iff] at below
  omega

/-- A change of a group's configuration, with whatever is put after it. -/
theorem groupChanged_shown {s t : State} {g : GroupId} {old new : Vector Word 8} (config : s.group[g].config = new)
    (group : t.group = (s.groupChanged g old).group) (scan : t.scan = (s.groupChanged g old).scan) (sup : t.sup = s.sup)
    (logs : (s.groupChanged g old).Logs t) : GroupChanged s t g old new := by
  subst config
  obtain ⟨group', scan', -⟩ := s.groupChanged_update g old
  have latched := ((s.groupChanged_logs g old).trans logs).latched
  obtain ⟨config, evaluated⟩ := s.group[g].reconfigured_config old s.now
  obtain ⟨record, others, sup', now⟩ := s.reconfigured_group g old
  rw [State.takeElements_frame] at record
  have ends {p : Port} := State.reconfigured_ends (s := s) (g := g) (old := old) (p := p)
  have elements (on : s.driver.on = true) (e : ElementId) := State.reconfigured_latches (g := g) (old := old) on e
  obtain ⟨u, is_u⟩ : ∃ u, u = s.reconfigured g old := ⟨_, rfl⟩
  rw [← is_u] at group' scan' latched record others sup' now elements ends
  rw [group'] at group
  rw [scan'] at scan
  have own : t.group[g] = (u.groupUpdate false g).group[g] := congrArg (·[g]) group
  have uconfig : u.group[g].config = s.group[g].config := by
    rw [record]
    exact config
  obtain ⟨kept, channels, -, unusable, -⟩ := requestsMet_groupUpdate u false g
  have transmits := u.groupUpdate_transmits false g
  have grades (k : ChannelIx) := gradeCond_congr sup' s.group[g].config k
  rw [uconfig] at channels unusable
  rw [← own] at channels unusable
  refine ⟨by rw [own, kept, uconfig], fun h apart => ?_, sup, fun k changed => ?_, fun shared differs => ?_, fun p shared protect gone => ?_,
    fun p shared protect => ?_, fun paired low => ?_, fun e on named faulted => ?_, fun e on selector newly settled away => ?_⟩
  · rw [group, ((groupUpdate_works u false g).others h apart).1]
    exact others h apart
  · have met := channels k
    rw [record] at met
    have afresh := channelMet_afresh (by rw [← Group.reconfigured_channel s.now changed]; exact met)
    rwa [grades, now] at afresh
  · have afresh := s.group[g].reconfigured_protocol s.now (newProtocolCase_iff.mpr ⟨shared, differs⟩)
    obtain ⟨candidate, run, accepted, invalidWord, timeout, confirmation⟩ := afresh
    obtain ⟨candidate, run, accepted, invalidWord, timeout, confirmation⟩ := newProtocol_updated (s := u) (g := g)
      (by rw [record]; exact candidate) (by rw [record]; exact run) (by rw [record]; exact accepted) (by rw [record]; exact invalidWord)
      (by rw [record]; exact timeout) (by rw [record]; exact confirmation)
    rw [← own, now] at confirmation
    rw [← own] at candidate run accepted invalidWord timeout
    unfold Unusable at unusable
    rw [sup'] at unusable
    exact ⟨candidate, run, accepted, invalidWord, timeout, confirmation, unusable⟩
  · rw [scan, transmits.other p (by rw [uconfig]; exact gone)]
    exact ends shared protect gone
  · rw [scan, own]
    exact transmits.own p (by rw [uconfig]; exact shared) (by rw [uconfig]; exact protect)
  · obtain ⟨waits, stays⟩ := Group.reconfigured_entry (old := old) s.now paired
    have stands (held : (s.group[g].reconfigured old s.now).entry ≠ none) : t.group[g].entry = (s.group[g].reconfigured old s.now).entry
        ∧ t.group[g].restoreWait = (s.group[g].reconfigured old s.now).restoreWait := by
      have entry := entry_stands (s := u) (g := g) (by rw [← own]; exact low) (by rw [record]; exact held)
      rw [← own, record] at entry
      exact entry
    refine ⟨fun before after stay => ?_, fun k before after wait => ?_⟩
    · obtain ⟨entry, timer⟩ := waits before after stay
      rw [entry, timer] at stands
      exact stands nofun
    · obtain ⟨entry, timer⟩ := stays k before after wait
      rw [entry, timer] at stands
      exact stands nofun
  · exact ((elements on e).1 named faulted).imp_right (latched _)
  · exact ((elements on e).2 selector newly settled away).imp_right (latched _)

end Sys2Proof.Claims

namespace Sys2Proof.Claims
open Sys2Proof.Machine

/-- What a change of configuration brings is told of the state before the word was held. -/
theorem GroupChanged.of_held {s h t : State} {g : GroupId} {old new c : Vector Word 8} (changed : GroupChanged h t g old new)
    (record : h.group[g] = { s.group[g] with config := c }) (others : OtherGroups s h g) (sup : h.sup = s.sup) (now : h.now = s.now)
    (driver : h.driver = s.driver) (alarm : h.alarm = s.alarm) : GroupChanged s t g old new := by
  unfold GroupChanged at changed ⊢
  obtain ⟨config, otherGroups, sup', rest⟩ := changed
  refine ⟨config, fun f apart => (otherGroups f apart).trans (others f apart), sup'.trans sup, ?_⟩
  simp only [gradeCond_congr sup, State.element, State.pointRaised, sup, now, driver, alarm, record] at rest ⊢
  exact rest

/-- A taking of a changed group word is the change of the group, and the event of its verdict. -/
theorem take_group {s : State} {g : GroupId} {f : Fin 8} {e : Word} (x : Verdict) (new : e ≠ s.heldWord (.group g f)) :
    GroupChanged s (s.take (.group g f) e x) g s.group[g].config (s.group[g].config.set f.val e f.isLt) := by
  obtain ⟨h, is_h⟩ : ∃ h, h = s.setHeld (.group g f) e := ⟨_, rfl⟩
  have record : h.group[g] = { s.group[g] with config := s.group[g].config.set f.val e f.isLt } := by
    rw [is_h]
    exact put_same _ _ _
  have taken : s.take (.group g f) e x = (h.groupChanged g s.group[g].config).provision (.group g f) x := by
    unfold State.take State.takeHeld
    rw [if_neg new, is_h]
    rfl
  have logs (u : State) : u.Logs (u.provision (.group g f) x) := (State.Logs.refl u).ite (u.putEvent_logs _ _)
  obtain ⟨-, -, -, -, scan, sup, group, -⟩ := State.provision_frame (h.groupChanged g s.group[g].config) (.group g f) x
  rw [taken]
  refine (groupChanged_shown (congrArg Group.config record) group scan (sup.trans (h.groupChanged_frame g _).2.2.2.2) (logs _)).of_held
    record (fun i apart => ?_) ?_ ?_ ?_ ?_ <;> rw [is_h]
  · exact put_other _ _ _ _ apart.symm
  all_goals rfl

theorem GroupChanged.congr {s s' t t' : State} {g : GroupId} {old new : Vector Word 8} (h : GroupChanged s t g old new)
    (regranted : Regranted t t') (before : ∃ p, s = { s' with path := p }) : GroupChanged s' t' g old new := by
  obtain ⟨_, rfl⟩ := before
  obtain ⟨_, rfl⟩ := regranted
  exact h

end Sys2Proof.Claims

namespace Sys2Proof.Proofs
open Sys2Proof.Machine Sys2Proof.Claims

/-- Settles O19: the tests of each word of a group, and the update that a changed word makes. -/
theorem screenGroups : Obligations.ScreenGroups := by
  refine fun s g v => ⟨screen_portField, screen_groupKind, screen_groupElements, screen_groupPolicy,
    fun c f l d e row op free screened new => ?_⟩
  obtain ⟨t, x, run, regranted⟩ := watchedWrite_runs (cycleOf_watchedWrite row) op free screened
  have changed := take_group (s := s.memWrite (s.imageAddr (Watched.group g f).offset) .word e) x new
  exact ⟨t, run, changed.congr regranted ⟨_, rfl⟩⟩

end Sys2Proof.Proofs

namespace Sys2Proof.Machine

/-! ## An element keeps meaning what its state says (R115) -/

/-- A new target settles the element where it is sensed, and else has it travel with its timer running (R117). -/
theorem Element.right.command {x : Element} (h : x.right) (p : Position) (n : Nat) : (x.command p n).right := by
  unfold Element.command
  split
  · exact h
  · split
    next sensed => exact ⟨sensed, rfl⟩
    next other => exact ⟨other, rfl⟩

/-- A sense change starts a settled element, which leaves its target, and settles any other that reaches it (R118, R120). -/
theorem Element.right.senseOn {x : Element} (h : x.right) {v : Option Position} (change : v ≠ x.sensed) (n : Nat) :
    (x.senseOn v n).right := by
  by_cases state : x.state = .settled
  · have leaves : v ≠ some x.commanded := h.settled_iff.mp state ▸ change
    rw [Element.senseOn_leaves n state leaves]
    exact ⟨leaves, rfl⟩
  · by_cases target : v = some x.commanded
    · rw [Element.senseOn_arrives n state target]
      exact ⟨target, rfl⟩
    · rw [Element.senseOn_astray n state target]
      obtain ⟨commanded, sensed, st, travel⟩ := x
      cases st with
      | settled => exact absurd rfl state
      | travelling | faulted => exact ⟨target, h.2⟩

/-- Only a travelling element's timer runs, so an expiry finds the element away from its target (R119). -/
theorem Element.right.expire {x : Element} (h : x.right) {n : Nat} (runs : x.travel = some n) : x.expire.right := by
  obtain ⟨commanded, sensed, st, travel⟩ := x
  cases runs
  cases st with
  | travelling => exact ⟨h.1, rfl⟩
  | settled | faulted => exact nomatch h.2

/-- Adoption needs nothing of the record before it but the sensed position (R123). -/
theorem Element.adopt_right (x : Element) (n : Nat) : (x.adopt n).right := by
  unfold Element.adopt
  split
  · exact ⟨rfl, rfl⟩
  · exact ⟨nofun, rfl⟩

/-! ## The drive from one state to the next -/

/-- `t` follows `s` with the drive as it was, and with every element right while the drive is on that was right before. -/
structure State.Drives (s t : State) : Prop where
  on    : t.driver.on = s.driver.on
  right : s.driver.on = true → ∀ e, (s.element e).right → (t.element e).right

namespace State.Drives

/-- An effect that leaves the switch driver as it was. -/
theorem of_driver {s t : State} (h : t.driver = s.driver) : s.Drives t where
  on := by rw [h]
  right := fun _ e r => by
    unfold State.element
    rw [h]
    exact r

theorem refl (s : State) : s.Drives s := of_driver rfl

theorem trans {s t u : State} (h : s.Drives t) (k : t.Drives u) : s.Drives u where
  on := k.on.trans h.on
  right := fun on e r => k.right (h.on.trans on) e (h.right on e r)

theorem then_driver {s t u : State} (h : s.Drives t) (k : u.driver = t.driver) : s.Drives u := h.trans (of_driver k)

theorem after_driver {s t u : State} (k : t.Drives u) (h : t.driver = s.driver) : s.Drives u := (of_driver h).trans k

theorem ite {s t u : State} {c : Prop} [Decidable c] (h : s.Drives t) (k : s.Drives u) : s.Drives (if c then t else u) := by
  split <;> assumption

theorem iteSelf {s t : State} {c : Prop} [Decidable c] (h : s.Drives t) : s.Drives (if c then t else s) := h.ite (refl s)

theorem foldl {α : Type} {f : State → α → State} (h : ∀ (s : State) (a : α), s.Drives (f s a)) (l : List α) (s : State) :
    s.Drives (l.foldl f s) := by
  induction l generalizing s with
  | nil => exact refl s
  | cons a l ih => exact (h s a).trans (ih _)

end State.Drives

/-! ### The switch driver -/

/-- A record written in place of a right one, where the drive is on. -/
theorem State.setElement_drives {s : State} {e : ElementId} {x : Element}
    (h : s.driver.on = true → (s.element e).right → x.right) : s.Drives (s.setElement e x) where
  on := rfl
  right := fun on f r => by
    by_cases same : e = f
    · subst same
      rw [State.element_setElement]
      exact h on r
    · have stands : (s.setElement e x).element f = s.element f := put_other _ _ _ _ same
      exact stands ▸ r

theorem State.commandElement_drives (s : State) (e : ElementId) (p : Position) : s.Drives (s.commandElement e p) :=
  State.setElement_drives fun _ r => r.command p _

/-! ### The protection controller -/

theorem State.commandGroup_drives (s : State) (g : GroupId) : s.Drives (s.commandGroup g) := by
  have bridged : s.Drives (match s.group[g].bridgeTarget, GroupConfig.bridge s.group[g].config with
      | some p, some e => s.commandElement e p
      | _, _ => s) := by
    split
    · exact s.commandElement_drives _ _
    · exact .refl s
  unfold State.commandGroup
  dsimp only
  split
  · exact bridged.trans (State.commandElement_drives _ _ _)
  · exact bridged

/-- A group's update drives elements by the commands of its evaluation alone (R90, R97). -/
theorem State.groupUpdate_drives (s : State) (first : Bool) (g : GroupId) : s.Drives (s.groupUpdate first g) := by
  refine .then_driver (t := s.takeUpdate s.driver first g) ?_ (s.groupUpdate_group first g).1
  by_cases due : first = true ∨ s.group[g].evaluated = true
  · obtain ⟨u, before, -, -, -, after⟩ := (s.takeUpdate_driver s.driver first g).1 due
    exact ((u.commandGroup_drives g).after_driver before).then_driver after
  · exact .of_driver ((s.takeUpdate_driver s.driver first g).2 due)

theorem State.updateGroup_drives (s : State) (g : GroupId) : s.Drives (s.updateGroup g) := s.groupUpdate_drives false g

/-- An update of a group whose input left the switch driver. -/
theorem State.Drives.update {s u : State} (g : GroupId) (h : u.driver = s.driver) : s.Drives (u.updateGroup g) :=
  (u.updateGroup_drives g).after_driver h

theorem State.takeReport_drives (s : State) (e : ElementId) : s.Drives (s.takeReport e) := by
  unfold State.takeReport
  dsimp only
  refine .then_driver ?_ (State.timingReport_frame _ e).2.2.2.2.2.2.2
  split
  next g _ => exact .update g (by simp only [State.noteReport_frame])
  · exact .refl s

theorem State.takeReportIf_drives (before s : State) (e : ElementId) : s.Drives (State.takeReportIf before s e) :=
  .iteSelf (s.takeReport_drives e)

theorem State.senseChange_drives (s : State) (e : ElementId) (v : Option Position) : s.Drives (s.senseChange e v) := by
  unfold State.senseChange
  dsimp only
  split
  · exact .refl s
  next change =>
    split
    · exact (State.setElement_drives fun _ r => r.senseOn change _).trans (State.takeReportIf_drives _ _ e)
    next off => exact State.setElement_drives fun on => absurd on off

theorem State.travelExpire_drives (s : State) (e : ElementId) : s.Drives (s.travelExpire e) := by
  unfold State.travelExpire
  split
  · exact .refl s
  next n runs =>
    have expired : (s.passTo n).Drives ((s.passTo n).setElement e ((s.passTo n).element e).expire) :=
      State.setElement_drives fun _ r => r.expire runs
    exact (expired.trans (State.takeReportIf_drives _ _ e)).after_driver rfl

theorem State.judgeCandidate_drives (s : State) (g : GroupId) (w : Word) : s.Drives (s.judgeCandidate g w) := by
  unfold State.judgeCandidate
  refine .ite (.ite (.iteSelf (.update g rfl)) (.update g ?_)) (.ite (.refl s) (.update g rfl))
  split
  · exact (State.cancelManual_frame _ g).2.2.2.2.2.2.1
  · rfl

theorem State.takeWord_drives (s : State) (g : GroupId) (w : Word) : s.Drives (s.takeWord g w) :=
  .after_driver (t := s.setGroup g _) (.iteSelf (State.judgeCandidate_drives _ g w)) rfl

theorem State.takeBridgeWord_drives (s : State) (p : Port) (w : Word) : s.Drives (s.takeBridgeWord p w) := by
  unfold State.takeBridgeWord
  split
  · exact .refl s
  · exact .ite (.refl s) (s.takeWord_drives _ w)

theorem State.holdOffExpire_drives (s : State) (g : GroupId) (k : ChannelIx) : s.Drives (s.holdOffExpire g k) := by
  unfold State.holdOffExpire
  split
  · exact .refl s
  · exact .update g rfl

theorem State.restoreWaitExpire_drives (s : State) (g : GroupId) : s.Drives (s.restoreWaitExpire g) := by
  unfold State.restoreWaitExpire
  split
  · exact .refl s
  · exact .update g rfl

theorem State.confirmationExpire_drives (s : State) (g : GroupId) : s.Drives (s.confirmationExpire g) := by
  unfold State.confirmationExpire
  split
  · exact .refl s
  · exact .update g rfl

theorem State.storeCommand_drives (s : State) (c : StoredKind) (o n : Nat) : s.Drives (s.storeCommand c o n).1 := by
  unfold State.storeCommand
  split
  · dsimp only
    split
    · exact .refl s
    · exact .update _ rfl
  · exact .refl s

theorem State.clearGroup_drives (s : State) (o n : Nat) : s.Drives (s.clearGroup o n).1 := by
  unfold State.clearGroup
  split
  · dsimp only
    split
    · exact .update _ rfl
    · exact .refl s
  · exact .refl s

theorem State.reconfigured_driver (s : State) (g : GroupId) (old : Vector Word 8) : (s.reconfigured g old).driver = s.driver := by
  unfold State.reconfigured
  dsimp only
  rw [(State.endTransmit_frame _ _ _).2.2.2.2.2.2.1]
  split
  · rfl
  · exact (State.handElements_frame _ g).2.2.2.2.2.2.2.1

theorem State.groupChanged_drives (s : State) (g : GroupId) (old : Vector Word 8) : s.Drives (s.groupChanged g old) := by
  have updated : s.Drives ((s.reconfigured g old).updateGroup g) := .update g (s.reconfigured_driver g old)
  rw [s.groupChanged_eq]
  exact .ite (updated.then_driver (by simp only [State.timingGroupChange_frame])) updated

/-! ### The port supervisor and the scan controller -/

theorem State.handOver_drives (old s : State) (w : Option (Port × Word)) : s.Drives (State.handOver old s w) := by
  have groups : s.Drives ((List.finRange 12).foldl (fun t g => if State.memberChanged old s g then t.updateGroup g else t) s) :=
    .foldl (fun t g => .iteSelf (t.updateGroup_drives g)) _ s
  have points (t : State) :
      t.Drives ((List.finRange 24).foldl (fun t p => if State.portChanged old s p then t.portPoints p else t) t.retime) :=
    .after_driver (.foldl (fun t p => .iteSelf (.of_driver (by simp only [State.portPoints_frame]))) _ _)
      (by simp only [State.retime_frame])
  unfold State.handOver
  cases w with
  | none => exact groups.trans (points _)
  | some w => exact (groups.trans (State.takeBridgeWord_drives _ _ _)).trans (points _)

theorem State.takeResult_drives (s : State) (p : Port) (a : Option Answer) : s.Drives (s.takeResult p a) :=
  .ite (.refl s) (.after_driver (State.handOver_drives s _ _) (by rfl))

theorem State.roundEnd_drives (s : State) (n : Nat) : s.Drives (s.roundEnd n) := by
  have evaluated : s.Drives (s.firstEvaluations n) := .foldl (fun s g => .iteSelf (s.groupUpdate_drives true g)) _ s
  exact .ite (evaluated.then_driver (by simp only [State.enterFollow_frame])) evaluated

theorem State.drain_drives (s : State) (l : List ProcessedRound) : s.Drives (s.drain l) := by
  induction l generalizing s with
  | nil => exact .of_driver rfl
  | cons r rest ih => exact .ite ((s.roundEnd_drives _).trans (ih _)) (.of_driver rfl)

theorem State.portUpdate_drives (s : State) : s.Drives s.portUpdate := by
  unfold State.portUpdate
  split
  · exact .refl s
  · split
    · exact s.drain_drives _
    · exact (s.takeResult_drives _ _).trans (State.drain_drives _ _)

theorem State.changeMaintenance_drives (s : State) (p : Port) (v : Bool) : s.Drives (s.changeMaintenance p v) :=
  .after_driver (State.handOver_drives s _ none) (by simp only [State.judgeRelays_frame])

theorem State.maint_drives (s : State) (o : Nat) : s.Drives (s.maint o).1 := by
  unfold State.maint
  dsimp only
  (repeat' split)
  case isTrue.isFalse.isFalse.isFalse => exact s.changeMaintenance_drives _ _
  all_goals exact .refl s

theorem State.release_drives (s : State) (o : Nat) : s.Drives (s.release o).1 := by
  unfold State.release
  dsimp only
  (repeat' split)
  case isTrue.isTrue => exact s.changeMaintenance_drives _ _
  all_goals exact .refl s

theorem State.endSlot_drives (s : State) : s.Drives s.endSlot := by
  unfold State.endSlot
  split
  · exact .refl s
  next r _ =>
    split
    · exact .refl s
    · split
      · exact .of_driver rfl
      · have classified := (s.classified_frame (faulted r.gather) (nextRun (faulted r.gather) s.scan.faultedRun)).2.2.1
        by_cases held : faulted r.gather = true ∧ nextRun (faulted r.gather) s.scan.faultedRun ≤ 25
        · rw [State.classifyRound_held rfl rfl held]
          exact .of_driver classified
        · rw [State.classifyRound_processed rfl rfl held]
          exact .after_driver (State.drain_drives _ _) classified

/-! ### The owner of a watched word, and the command unit -/

theorem State.changed_drives (old s : State) (w : Watched) : s.Drives (State.changed old s w) := by
  cases w with
  | port p j => exact .after_driver (State.handOver_drives old _ none) (by rfl)
  | group g j => exact s.groupChanged_drives g _
  | source l =>
    refine .of_driver ?_
    simp only [State.changed, State.retimeFrom_frame]
    split
    · simp only [State.takeDecision_frame]
    · rfl
  | _ => exact .of_driver (by simp only [State.changed, State.judgeRelays_frame, State.retimeFrom_frame])

/-- A taking of a watched word drives elements by the updates of groups it brings. -/
theorem State.take_drives (s : State) (w : Watched) (v : Word) (x : Verdict) : s.Drives (s.take w v x) := by
  have taken : s.Drives (s.takeHeld w v) := by
    unfold State.takeHeld
    exact .ite (.refl s) (.after_driver (State.changed_drives s _ w) (by simp only [State.setHeld_frame]))
  exact taken.then_driver (by simp only [State.take, State.provision_frame])

theorem State.handToOwner_drives (s : State) (c : Command) (o n : Nat) : s.Drives (s.handToOwner c o n).1 := by
  cases c with
  | bar | force | manual => exact s.storeCommand_drives _ o n
  | clear => exact s.clearGroup_drives o n
  | maint => exact s.maint_drives o
  | release => exact s.release_drives o
  | _ =>
    refine .of_driver ?_
    simp only [State.handToOwner, State.forceRef_frame, State.setForce_frame, State.resume_frame, State.cutOff_frame]

theorem State.executeWord_drives (s : State) (c : Command) (w : Word) : s.Drives (s.executeWord c w) :=
  (s.handToOwner_drives c (commandObject w) (commandChannel w)).then_driver (by simp only [State.executeWord, State.recordWord_frame])

theorem State.commandWrite_drives (s : State) (w : Word) : s.Drives (s.commandWrite w) := by
  unfold State.commandWrite State.newCommand
  split
  · split
    · exact .of_driver (by simp only [State.recordResult_frame])
    · split
      · exact .of_driver rfl
      · exact s.executeWord_drives _ w
  · exact .of_driver (by simp only [State.block_frame])
  · exact .refl s
  · exact .of_driver (by simp only [State.recordWord_frame])

theorem State.confirmed_drives (s : State) (w : Word) : s.Drives (s.confirmed w) := by
  unfold State.confirmed
  split
  · exact .of_driver rfl
  · exact .after_driver (State.executeWord_drives _ _ w) (by simp only [State.settleMailbox_frame])
  · exact .of_driver rfl

theorem State.confirmWrite_drives (s : State) (w : Word) : s.Drives (s.confirmWrite w) := by
  unfold State.confirmWrite
  split
  · exact .of_driver (by simp only [State.recordWord_frame])
  · split
    · exact s.confirmed_drives w
    · exact .of_driver (by simp only [State.block_frame])
  · exact .refl s
  · exact .of_driver (by simp only [State.recordWord_frame])

/-! ## The drive and the operating state (R116) -/

/-- `t` follows `s` without harm to the meaning of the element states. -/
def State.KeepsDrive (s t : State) : Prop := s.DriveSound → t.DriveSound

/-- While the drive is off no element need mean anything (R116). -/
theorem State.driveSound_off {s : State} (off : s.driver.on = false) (op : s.path.op ≠ .running) : s.DriveSound where
  on := by simp [off, op]
  elements := fun on => by simp [off] at on

/-- Outside RUNNING the drive is off (R116). -/
theorem State.DriveSound.off {s : State} (h : s.DriveSound) (op : s.path.op ≠ .running) : s.driver.on = false :=
  Bool.eq_false_iff.mpr fun on => op (h.on.mp on)

namespace State.KeepsDrive

theorem trans {s t u : State} (h : s.KeepsDrive t) (k : t.KeepsDrive u) : s.KeepsDrive u := k ∘ h

/-- An effect in one operating state. -/
theorem of_drives {s t : State} (op : t.path.op = s.path.op) (h : s.Drives t) : s.KeepsDrive t := fun sound => {
  on := by rw [h.on, op]; exact sound.on
  elements := fun on e => h.right (h.on ▸ on) e (sound.elements (h.on ▸ on) e) }

/-- An effect in one operating state that leaves the switch driver. -/
theorem of_driver {s t : State} (op : t.path.op = s.path.op) (h : t.driver = s.driver) : s.KeepsDrive t := of_drives op (.of_driver h)

/-- A change of the operating state outside RUNNING. -/
theorem of_stopped {s t : State} (before : s.path.op ≠ .running) (after : t.path.op ≠ .running) (h : t.driver = s.driver) :
    s.KeepsDrive t := fun sound => State.driveSound_off (h ▸ sound.off before) after

end State.KeepsDrive

theorem State.grantAfresh_keepsDrive (s : State) : s.KeepsDrive s.grantAfresh := .of_driver rfl rfl

theorem State.eventDone_keepsDrive (s : State) : s.KeepsDrive s.eventDone := by
  unfold State.eventDone
  split
  · exact s.grantAfresh_keepsDrive
  · exact id

theorem State.holdCycle_keepsDrive (s : State) (c : Cycle) : s.KeepsDrive (s.holdCycle c) := .of_driver rfl rfl

/-! ### Restart, power-on and the start of RUNNING -/

/-- A restart turns the drive off as it begins (R116). -/
theorem State.beginRestart_driveSound (s : State) : s.beginRestart.DriveSound := State.driveSound_off rfl nofun

theorem State.releaseReset_driveSound (s : State) (x : BitVec 2) : (s.releaseReset x).DriveSound := State.driveSound_off rfl nofun

theorem State.beginRunning_op (s : State) : s.beginRunning.path.op = .running := by
  obtain ⟨v, begun, ended⟩ := s.beginRunning_cases
  rw [ended.path, (v.takeRing_frame _).2.2.1, begun.path]

/-- RUNNING begins with the drive on, and with every element as its sensed position adopts it (R123). -/
theorem State.beginRunning_driveSound (s : State) : s.beginRunning.DriveSound := by
  have driver : s.beginRunning.driver = ⟨true, s.driver.element.map (·.adopt (s.now + 400))⟩ :=
    s.beginRunning_parts.2.1.trans s.elementsAdopted_frame.2.2
  refine ⟨by simp [driver, s.beginRunning_op], fun _ e => ?_⟩
  have adopted : s.beginRunning.element e = (s.element e).adopt (s.now + 400) := by
    unfold State.element
    rw [driver]
    exact Vector.getElem_map _ e.isLt
  exact adopted ▸ Element.adopt_right _ _

theorem State.loaderNext_keepsDrive (s : State) : s.KeepsDrive s.loaderNext := by
  rcases s.loaderNext_cases with ⟨-, e⟩ | ⟨-, e⟩ <;> rw [e]
  · exact fun _ => State.beginRunning_driveSound _
  · exact .of_driver rfl rfl

theorem State.take_keepsDrive (s : State) (w : Watched) (v : Word) (x : Verdict) : s.KeepsDrive (s.take w v x) :=
  .of_drives (by rw [s.take_path]) (s.take_drives w v x)

theorem State.loadWord_keepsDrive (s : State) : s.KeepsDrive s.loadWord := by
  by_cases op : s.path.op = .loading
  · rcases s.loadWord_cases op with ⟨e, -⟩ | ⟨w, v, -, -, -, ⟨-, e⟩ | ⟨-, e⟩⟩ <;> rw [e]
    · exact id
    · exact (s.take_keepsDrive w v _).trans (State.loaderNext_keepsDrive _)
    · exact .of_driver rfl rfl
  · rw [State.loadWord_idle op]
    exact id

theorem State.writeBackWord_keepsDrive (s : State) : s.KeepsDrive s.writeBackWord := by
  by_cases op : s.path.op = .loading
  · rcases s.writeBackWord_cases op with ⟨-, e⟩ | ⟨b, -, e⟩ <;> rw [e]
    · exact id
    · have written : s.KeepsDrive (s.memWrite (s.imageAddr b.word.offset) .word b.value) := .of_driver rfl rfl
      exact (written.trans (State.take_keepsDrive _ _ _ _)).trans (State.loaderNext_keepsDrive _)
  · rw [State.writeBackWord_idle op]
    exact id

theorem State.endStartCheck_driver (s : State) : s.endStartCheck.driver = s.driver := by
  unfold State.endStartCheck
  dsimp only
  (repeat' split) <;> simp only [State.enterLoading_frame, State.enterStandby, State.setPoint_frame, State.enterAllAlarm_frame,
    State.handRingFormat_frame]

theorem State.endStartCheck_keepsDrive (s : State) : s.KeepsDrive s.endStartCheck := by
  by_cases op : s.path.op = .startCheck
  · refine .of_stopped (by simp [op]) ?_ s.endStartCheck_driver
    obtain ⟨v, -, e | standby⟩ := s.endStartCheck_cases op
    · rw [e]
      exact nofun
    · rw [standby.path]
      exact nofun
  · rw [State.endStartCheck_idle op]
    exact id

theorem State.readBack_keepsDrive (s : State) : s.KeepsDrive s.readBack := by
  by_cases due : s.path.op = .standby ∧ s.path.readBackOwed = true
  · rcases s.readBack_cases due.1 due.2 with e | e <;> rw [e]
    · exact .of_stopped (by simp [due.1]) nofun rfl
    · exact .of_driver rfl rfl
  · rw [State.readBack_idle due]
    exact id

/-! ### The poster's cycles -/

theorem State.readWord0_keepsDrive (s : State) : s.KeepsDrive s.readWord0 :=
  .of_driver (by simp only [State.readWord0_frame]) (by simp only [State.readWord0_frame])

theorem State.writeWord_keepsDrive (s : State) : s.KeepsDrive s.writeWord := by
  unfold State.writeWord
  split
  case h_4 => exact id
  all_goals exact .of_driver rfl rfl

theorem State.writeWord0_keepsDrive (s : State) : s.KeepsDrive s.writeWord0 := by
  unfold State.writeWord0
  split
  · exact .of_driver (by simp only [State.handRingFormat_frame]; rfl) (by simp only [State.handRingFormat_frame]; rfl)
  · exact id

/-! ### The processor's cycles -/

theorem State.watchedWrite_keepsDrive (s : State) (w : Watched) (l : Lanes) (d : Word) : s.KeepsDrive (s.watchedWrite w l d) := by
  rw [s.watchedWrite_eq]
  exact .trans (t := s.memWrite _ _ _) (.of_driver rfl rfl) (State.take_keepsDrive _ w _ _)

theorem State.confirmCycle_keepsDrive (s : State) (w : Word) : s.KeepsDrive (s.confirmCycle w) := by
  unfold State.confirmCycle
  dsimp only
  split
  · exact fun _ => State.beginRestart_driveSound _
  · exact .of_drives (by simp only [State.confirmWrite_frame]) (s.confirmWrite_drives w)

theorem State.mailboxByte_keepsDrive (s : State) : s.KeepsDrive s.mailboxByte :=
  .of_driver (by simp only [State.mailboxByte_frame]) (by simp only [State.mailboxByte_frame])

theorem State.triggered_keepsDrive (s : State) (t : Trigger) (l : Lanes) (d : Word) : s.KeepsDrive (s.triggered t l d) := by
  unfold State.triggered
  split
  · exact id
  · exact .of_drives (by simp only [State.commandWrite_frame]) (s.commandWrite_drives d)
  · exact s.confirmCycle_keepsDrive d
  · exact s.mailboxByte_keepsDrive
  · exact s.mailboxByte_keepsDrive

theorem State.passCycle_keepsDrive (s : State) (c : Cycle) : s.KeepsDrive (s.passCycle c) := by
  unfold State.passCycle
  split <;> exact .of_driver rfl rfl

theorem State.readLive_keepsDrive (s : State) (v : LiveWord) (l : Lanes) : s.KeepsDrive (s.readLive v l) :=
  .of_driver (by rw [(s.readLive_reacts v l).path]; rfl) (by simp only [State.readLive_frame])

theorem State.serveRunning_keepsDrive (s : State) (c : Cycle) : s.KeepsDrive (s.serveRunning c) := by
  have passed := s.passCycle_keepsDrive c
  unfold State.serveRunning
  split
  · exact passed
  · split
    · exact s.watchedWrite_keepsDrive _ _ _
    · exact passed
  · split
    · exact passed.trans (State.triggered_keepsDrive _ _ _ _)
    · exact passed
  · split
    · exact .of_driver (by simp only [State.writeLive_frame]) (by simp only [State.writeLive_frame])
    · exact s.readLive_keepsDrive _ _
  · split
    · exact id
    · exact .of_driver rfl rfl

theorem State.serveStandby_keepsDrive (s : State) (c : Cycle) : s.KeepsDrive (s.serveStandby c) := by
  have passed := s.passCycle_keepsDrive c
  unfold State.serveStandby
  dsimp only
  split
  · exact s.readLive_keepsDrive _ _
  · split
    · exact s.holdCycle_keepsDrive c
    · split
      · exact passed.trans (.of_driver rfl rfl)
      · exact passed

theorem State.processorCycle_keepsDrive (s : State) (c : Cycle) : s.KeepsDrive (s.processorCycle c) := by
  unfold State.processorCycle
  split
  · exact s.serveRunning_keepsDrive c
  · exact s.serveStandby_keepsDrive c
  · exact s.holdCycle_keepsDrive c
  · exact s.holdCycle_keepsDrive c

theorem State.serve_keepsDrive (s : State) (c : Cycle) : s.KeepsDrive (s.serve c) := by
  unfold State.serve
  split
  · exact s.holdCycle_keepsDrive c
  · exact s.processorCycle_keepsDrive c

theorem State.processor_keepsDrive (s : State) (c : Cycle) : s.KeepsDrive (s.processor c) := by
  have served := s.processorCycle_keepsDrive c
  unfold State.processor
  split
  · split
    · exact served.trans (State.grantAfresh_keepsDrive _)
    · exact s.holdCycle_keepsDrive c
  · exact served.trans (State.eventDone_keepsDrive _)

/-! ### Every command -/

/-- A master cycle's command keeps the meaning of the element states if its effect does: so do the held cycles it lets be served. -/
theorem State.KeepsDrive.finishMaster {s u t : State} {due : Bool} (h : s.KeepsDrive u) (e : u.finishMaster due = .next t) :
    s.KeepsDrive t := by
  unfold State.finishMaster at e
  cases e
  split
  · refine (h.trans fun sound => ?_).trans u.serveHeld.grantAfresh_keepsDrive
    exact State.serveHeld_keeps (I := State.DriveSound) (fun _ _ h => ⟨h.on, h.elements⟩) State.serve_keepsDrive u sound
  · exact h.trans u.eventDone_keepsDrive

/-- An event's command reacts in one operating state. -/
theorem State.KeepsDrive.finish {s u t : State} (h : s.Drives u) (reacts : s.Reacts u) (e : u.finish = .next t) : s.KeepsDrive t := by
  cases e
  exact (State.KeepsDrive.of_drives (by rw [reacts.path]) h).trans u.eventDone_keepsDrive

theorem exec_keepsDrive {c : Instr} {s t : State} (h : exec c s = .next t) : s.KeepsDrive t := by
  cases hy : cycleOf c with
  | some y =>
    rw [exec_of_cycleOf hy] at h
    cases h
    exact s.processor_keepsDrive y
  | none =>
    cases c with
    | powerOn x => cases h; exact fun _ => s.releaseReset_driveSound x
    | startCheck => exact s.endStartCheck_keepsDrive.finishMaster h
    | loaderRead => exact s.loadWord_keepsDrive.finishMaster h
    | loaderWriteBack => exact s.writeBackWord_keepsDrive.finishMaster h
    | imageReadyReadBack => exact s.readBack_keepsDrive.finishMaster h
    | descriptorWord0Read => exact s.readWord0_keepsDrive.finishMaster h
    | descriptorWordWrite => exact s.writeWord_keepsDrive.finishMaster h
    | descriptorWord0Write => exact s.writeWord0_keepsDrive.finishMaster h
    | portSlotEnd => exact .finish s.endSlot_drives s.endSlot_reacts h
    | portUpdate => exact .finish s.portUpdate_drives s.portUpdate_reacts h
    | holdOffExpiry g k => exact .finish (s.holdOffExpire_drives g k) (s.holdOffExpire_reacts g k) h
    | restoreWaitExpiry g => exact .finish (s.restoreWaitExpire_drives g) (s.restoreWaitExpire_reacts g) h
    | confirmationTimerExpiry g => exact .finish (s.confirmationExpire_drives g) (s.confirmationExpire_reacts g) h
    | senseChange e x => exact .finish (s.senseChange_drives e _) (s.senseChange_reacts e _) h
    | travelTimerExpiry e => exact .finish (s.travelExpire_drives e) (s.travelExpire_reacts e) h
    | confirmWindowExpiry => exact .finish (.of_driver (by simp only [State.windowExpire_frame])) s.windowExpire_reacts h
    | shelfTimeAdvance => exact .finish (.of_driver (by simp only [State.advanceShelfTime_frame])) s.advanceShelfTime_reacts h
    | scanRoundStart => exact .finish (.of_driver (by simp only [State.startRound_frame])) s.startRound_reacts h
    | portSlotStart => exact .finish (.of_driver (by simp only [State.startSlot_frame])) s.startSlot_reacts h
    | moduleAnswer k a => exact .finish (.of_driver (by simp only [State.takeAnswer_frame])) (s.takeAnswer_reacts k a) h
    | settleTimerExpiry l => exact .finish (.of_driver (by simp only [State.settleExpire_frame])) (s.settleExpire_reacts l) h
    | slotPulse i => exact .finish (.of_driver (by simp only [State.takePulse_frame])) (s.takePulse_reacts i) h
    | lossWindowExpiry i => exact .finish (.of_driver (by simp only [State.lossExpire_frame])) (s.lossExpire_reacts i) h
    | gateComplete i n => exact .finish (.of_driver (by simp only [State.completeGate_frame])) (s.completeGate_reacts i n) h
    | gateOverrun i => exact .finish (.of_driver (by simp only [State.abandonGate_frame])) (s.abandonGate_reacts i) h
    | qualifyTimerExpiry i => exact .finish (.of_driver (by simp only [State.qualifyExpire_frame])) (s.qualifyExpire_reacts i) h
    | acoInput => exact .finish (.of_driver (by simp only [State.cutOff_frame])) s.cutOff_reacts h
    | _ => cases hy

end Sys2Proof.Machine

namespace Sys2Proof.Proofs
open Sys2Proof.Machine

/-- Settles O57: a target, a sense change and an expiry each keep an element right, adoption makes every element right as the drive
comes on, and no other effect touches the switch driver. -/
theorem driveKept : Obligations.DriveKept := by
  intro s t sound h
  unfold step at h
  split at h
  · cases h
    exact sound
  next c rest _ => exact exec_keepsDrive h ⟨sound.on, sound.elements⟩

end Sys2Proof.Proofs

namespace Sys2Proof.Machine

/-! ## The mailbox's exchange (R126, R128 to R133) -/

/-- What the exchange keeps of the mailbox: its state, the pending command and the confirm window. -/
def Mailbox.exchange (m : Mailbox) : MailboxState × Option Word × Timer := (m.state, m.pending, m.window)

/-- No command is pending and no window runs. -/
structure Mailbox.Quiet (m : Mailbox) : Prop where
  state   : m.state = .ready ∨ m.state = .blocked
  pending : m.pending = none
  window  : m.window = none

theorem Mailbox.settle_quiet (m : Mailbox) {st : MailboxState} (h : st = .ready ∨ st = .blocked) : (m.settle st).Quiet := ⟨h, rfl, rfl⟩

theorem Mailbox.Quiet.congr {m n : Mailbox} (h : m.Quiet) (same : n.exchange = m.exchange) : n.Quiet := by
  obtain ⟨state, pending, window⟩ := h
  simp only [Mailbox.exchange, Prod.mk.injEq] at same
  obtain ⟨st, p, w⟩ := same
  exact ⟨by rwa [st], p.trans pending, w.trans window⟩

/-- A result recorded is no part of the exchange (R134). -/
theorem State.recordResult_exchange (s : State) (c : BitVec 4) (o : Nat) (r : CommandResult) :
    (s.recordResult c o r).mailbox.exchange = s.mailbox.exchange := by
  rw [(s.recordResult_mailbox c o r).1]
  rfl

theorem State.recordWord_exchange (s : State) (w : Word) (r : CommandResult) :
    (s.recordWord w r).mailbox.exchange = s.mailbox.exchange := s.recordResult_exchange _ _ r

/-- Nor is the work of a command's owner. -/
theorem State.executeWord_exchange (s : State) (c : Command) (w : Word) :
    (s.executeWord c w).mailbox.exchange = s.mailbox.exchange := by
  unfold State.executeWord
  rw [State.recordWord_exchange, (s.handToOwner_frame c _ _).2.2.2]

theorem State.completeRestart_exchange (s : State) : s.completeRestart.mailbox.exchange = s.mailbox.exchange := by
  unfold State.completeRestart
  split
  · simp only [State.putEvent_frame]
    rfl
  · rfl

/-- A mailbox that blocks drops the pending command (R129, R131, R132). -/
theorem State.block_quiet (s : State) (w : Word) (r : CommandResult) : (s.block w r).mailbox.Quiet :=
  (s.mailbox.settle_quiet (.inr rfl)).congr (State.recordWord_exchange _ w r)

/-- A word written to CONFIRM in AWAIT-CONFIRM makes the mailbox EXECUTING if it confirms RESTART, and ends the exchange otherwise
(R129, R140). -/
theorem State.confirmWrite_awaited {s : State} (awaits : s.mailbox.state = .awaitConfirm) (w : Word) :
    (s.mailbox.pending = some w ∧ formCheck w = some .restart
      ∧ s.confirmWrite w = { s with mailbox := { s.mailbox with state := .executing, window := none } })
    ∨ (s.confirmWrite w).mailbox.Quiet := by
  have settled : (s.settleMailbox .ready).mailbox.Quiet := s.mailbox.settle_quiet (.inl rfl)
  unfold State.confirmWrite
  rw [awaits]
  dsimp only
  split
  next pending =>
    unfold State.confirmed
    split
    next form => exact .inl ⟨pending, form, rfl⟩
    · exact .inr (settled.congr (State.executeWord_exchange _ _ w))
    · exact .inr settled
  · exact .inr (s.block_quiet _ _)

/-- A word written to CONFIRM in any other state leaves the exchange as it is (R131). -/
theorem State.confirmWrite_unawaited {s : State} (other : s.mailbox.state ≠ .awaitConfirm) (w : Word) :
    (s.confirmWrite w).mailbox.exchange = s.mailbox.exchange := by
  unfold State.confirmWrite
  split
  · exact s.recordWord_exchange w _
  next awaits => exact absurd awaits other
  · rfl
  · exact s.recordWord_exchange w _

/-! ## Every command keeps the mailbox's laws (R126, R140) -/

/-- With nothing pending the mailbox's laws hold in every operating state. -/
theorem Mailbox.Quiet.sound {s : State} (h : s.mailbox.Quiet) : s.MailboxSound := by
  obtain ⟨state, pending, window⟩ := h
  rcases state with st | st <;> constructor <;> simp [st, pending, window]

/-- The laws speak of the exchange, and of the operating state while a restart is under way. -/
theorem State.MailboxSound.congr {s t : State} (h : s.MailboxSound) (same : t.mailbox.exchange = s.mailbox.exchange)
    (op : s.mailbox.state = .executing → s.path.op = .startCheck → t.path.op = .startCheck) : t.MailboxSound := by
  simp only [Mailbox.exchange, Prod.mk.injEq] at same
  obtain ⟨state, pending, window⟩ := same
  obtain ⟨win, pend, operate, executing⟩ := h
  refine ⟨by rw [window, state]; exact win, by rw [pending, state]; exact pend, ?_, fun ex => ?_⟩ <;> rw [pending]
  · rw [state]
    exact operate
  · rw [state] at ex
    exact ⟨op ex (executing ex).1, (executing ex).2⟩

/-- `t` follows `s` without harm to the mailbox's laws. -/
def State.KeepsMailbox (s t : State) : Prop := s.MailboxSound → t.MailboxSound

namespace State.KeepsMailbox

theorem trans {s t u : State} (h : s.KeepsMailbox t) (k : t.KeepsMailbox u) : s.KeepsMailbox u := k ∘ h

/-- An effect that leaves the exchange, and does not end a start check. -/
theorem of_exchange {s t : State} (same : t.mailbox.exchange = s.mailbox.exchange)
    (op : s.path.op = .startCheck → t.path.op = .startCheck) : s.KeepsMailbox t := fun sound => sound.congr same fun _ => op

theorem of_mailbox {s t : State} (same : t.mailbox = s.mailbox) (op : s.path.op = .startCheck → t.path.op = .startCheck) :
    s.KeepsMailbox t := of_exchange (congrArg _ same) op

/-- An effect that cannot fall into a start check. -/
theorem of_started {s t : State} (same : t.mailbox.exchange = s.mailbox.exchange) (op : s.path.op ≠ .startCheck) : s.KeepsMailbox t :=
  of_exchange same fun check => absurd check op

theorem of_quiet {s t : State} (h : t.mailbox.Quiet) : s.KeepsMailbox t := fun _ => h.sound

end State.KeepsMailbox

/-! ### The exchange -/

theorem State.newCommand_keepsMailbox {s : State} (op : s.path.op ≠ .startCheck) (w : Word) : s.KeepsMailbox (s.newCommand w) := by
  unfold State.newCommand
  split
  · exact .of_started (s.recordResult_exchange _ _ _) op
  next c form =>
    split
    next operate => exact fun _ => ⟨by simp, by simp, fun _ => ⟨w, c, rfl, form, operate⟩, nofun⟩
    · exact .of_started (s.executeWord_exchange c w) op

theorem State.commandWrite_keepsMailbox {s : State} (op : s.path.op ≠ .startCheck) (w : Word) : s.KeepsMailbox (s.commandWrite w) := by
  unfold State.commandWrite
  split
  · exact State.newCommand_keepsMailbox op w
  · exact .of_quiet (s.block_quiet _ _)
  · exact id
  · exact .of_started (s.recordWord_exchange w _) op

/-- The confirm that makes the mailbox EXECUTING begins the start check of the restart it confirms (R140). -/
theorem State.confirmCycle_keepsMailbox {s : State} (op : s.path.op ≠ .startCheck) (w : Word) : s.KeepsMailbox (s.confirmCycle w) := by
  unfold State.confirmCycle
  dsimp only
  by_cases awaits : s.mailbox.state = .awaitConfirm
  · rcases State.confirmWrite_awaited awaits w with ⟨pending, form, e⟩ | quiet
    · rw [e, if_pos ⟨awaits, rfl⟩]
      exact fun _ => ⟨by simp, by simp [pending], nofun, fun _ => ⟨rfl, w, pending, form⟩⟩
    · rw [if_neg fun ⟨_, executing⟩ => by rcases quiet.state with st | st <;> rw [st] at executing <;> cases executing]
      exact .of_quiet quiet
  · rw [if_neg fun h => awaits h.1]
    exact .of_started (State.confirmWrite_unawaited awaits w) op

theorem State.mailboxByte_keepsMailbox (s : State) : s.KeepsMailbox s.mailboxByte := by
  unfold State.mailboxByte
  split
  · exact id
  all_goals exact .of_quiet (s.block_quiet _ _)

theorem State.triggered_keepsMailbox {s : State} (op : s.path.op ≠ .startCheck) (t : Trigger) (l : Lanes) (d : Word) :
    s.KeepsMailbox (s.triggered t l d) := by
  unfold State.triggered
  split
  · exact id
  · exact State.commandWrite_keepsMailbox op d
  · exact State.confirmCycle_keepsMailbox op d
  · exact s.mailboxByte_keepsMailbox
  · exact s.mailboxByte_keepsMailbox

theorem State.windowExpire_keepsMailbox (s : State) : s.KeepsMailbox s.windowExpire := by
  unfold State.windowExpire
  split
  · exact .of_quiet ((Mailbox.settle_quiet _ (.inl rfl)).congr (State.recordWord_exchange _ _ _))
  · exact id

/-- The clear bit of STATUS makes a BLOCKED mailbox READY, in which no command is pending either (R133). -/
theorem State.writeStatus_keepsMailbox (s : State) (l : Lanes) (d : Word) : s.KeepsMailbox (s.writeStatus l d) := by
  rw [s.writeStatus_eq]
  split
  next h =>
    obtain ⟨-, -, blocked⟩ := h
    intro sound
    obtain ⟨window, pending, -, -⟩ := sound
    refine Mailbox.Quiet.sound ⟨.inl rfl, ?_, ?_⟩
    · simpa [blocked] using pending
    · simpa [blocked] using window
  · exact id

/-! ### The processor's cycles -/

theorem State.writeLive_keepsMailbox (s : State) (v : LiveWord) (l : Lanes) (d : Word) : s.KeepsMailbox (s.writeLive v l d) := by
  unfold State.writeLive
  split
  · exact .of_mailbox rfl id
  · exact s.writeStatus_keepsMailbox l d
  all_goals exact id

theorem State.serveRunning_keepsMailbox {s : State} (op : s.path.op = .running) (c : Cycle) : s.KeepsMailbox (s.serveRunning c) := by
  have started : s.path.op ≠ .startCheck := by simp [op]
  have passed : s.KeepsMailbox (s.passCycle c) := .of_started (by simp only [State.passCycle_frame]) started
  unfold State.serveRunning
  split
  · exact passed
  · split
    · exact .of_started (by simp only [State.watchedWrite_frame]) started
    · exact passed
  · split
    · refine passed.trans (State.triggered_keepsMailbox ?_ _ _ _)
      unfold State.passCycle
      split <;> exact started
    · exact passed
  · split
    · exact s.writeLive_keepsMailbox _ _ _
    · exact .of_started (by simp only [State.readLive_frame]) started
  · split
    · exact id
    · exact .of_mailbox rfl id

theorem State.holdCycle_keepsMailbox (s : State) (c : Cycle) : s.KeepsMailbox (s.holdCycle c) := .of_mailbox rfl id

theorem State.processorCycle_keepsMailbox (s : State) (c : Cycle) : s.KeepsMailbox (s.processorCycle c) := by
  unfold State.processorCycle
  split
  next op => exact State.serveRunning_keepsMailbox op c
  next op => exact .of_started (by simp only [State.serveStandby_frame]) (by simp [op])
  · exact s.holdCycle_keepsMailbox c
  · exact s.holdCycle_keepsMailbox c

theorem State.serve_keepsMailbox (s : State) (c : Cycle) : s.KeepsMailbox (s.serve c) := by
  unfold State.serve
  split
  · exact s.holdCycle_keepsMailbox c
  · exact s.processorCycle_keepsMailbox c

theorem State.eventDone_keepsMailbox (s : State) : s.KeepsMailbox s.eventDone := by
  unfold State.eventDone
  split <;> exact .of_mailbox rfl id

theorem State.processor_keepsMailbox (s : State) (c : Cycle) : s.KeepsMailbox (s.processor c) := by
  have served := s.processorCycle_keepsMailbox c
  unfold State.processor
  split
  · split
    · exact served.trans (.of_mailbox rfl id)
    · exact s.holdCycle_keepsMailbox c
  · exact served.trans (State.eventDone_keepsMailbox _)

/-! ### Operating states -/

theorem State.beginRunning_exchange (s : State) : s.beginRunning.mailbox.exchange = s.mailbox.exchange := by
  unfold State.beginRunning
  simp only [State.completeRestart_exchange, State.startRing_frame, State.beginRound_frame, State.timingStart_frame, foldl_mailbox,
    State.adoptGroup_frame, State.adoptElements_frame, State.setPoint_frame, implies_true]

theorem State.loaderNext_exchange (s : State) : s.loaderNext.mailbox.exchange = s.mailbox.exchange := by
  rcases s.loaderNext_cases with ⟨-, e⟩ | ⟨-, e⟩ <;> rw [e]
  exact State.beginRunning_exchange _

theorem State.loadWord_keepsMailbox (s : State) : s.KeepsMailbox s.loadWord := by
  by_cases op : s.path.op = .loading
  · have started : s.path.op ≠ .startCheck := by simp [op]
    rcases s.loadWord_cases op with ⟨e, -⟩ | ⟨w, v, -, -, -, ⟨-, e⟩ | ⟨-, e⟩⟩ <;> rw [e]
    · exact id
    · exact .of_started ((State.loaderNext_exchange _).trans (congrArg _ (s.take_mailbox w v _))) started
    · exact .of_mailbox rfl id
  · rw [State.loadWord_idle op]
    exact id

theorem State.writeBackWord_keepsMailbox (s : State) : s.KeepsMailbox s.writeBackWord := by
  by_cases op : s.path.op = .loading
  · have started : s.path.op ≠ .startCheck := by simp [op]
    rcases s.writeBackWord_cases op with ⟨-, e⟩ | ⟨b, -, e⟩ <;> rw [e]
    · exact id
    · exact .of_started ((State.loaderNext_exchange _).trans (congrArg _ (State.take_mailbox _ _ _ _))) started
  · rw [State.writeBackWord_idle op]
    exact id

/-- The start check settles the mailbox and hands RING FORMAT over, and what it enters leaves the mailbox. -/
theorem State.endStartCheck_mailbox {s : State} (op : s.path.op = .startCheck) :
    s.endStartCheck.mailbox = if s.mailbox.state = .executing then s.mailbox.restarted else s.mailbox := by
  have standby (u : State) : u.enterStandby.mailbox = u.mailbox := by
    simp only [State.enterStandby, State.setPoint_frame, State.enterAllAlarm_frame]
  unfold State.endStartCheck
  rw [if_pos op]
  dsimp only
  simp only [apply_ite State.mailbox, State.enterLoading_frame, standby, ite_self, State.handRingFormat_frame]

/-- A restart ends with its start check, and nothing else waits for it (R126, R140). -/
theorem State.endStartCheck_keepsMailbox (s : State) : s.KeepsMailbox s.endStartCheck := by
  by_cases op : s.path.op = .startCheck
  · have mailbox := State.endStartCheck_mailbox op
    by_cases executing : s.mailbox.state = .executing
    · rw [if_pos executing] at mailbox
      refine .of_quiet ?_
      rw [mailbox]
      exact ⟨.inl rfl, rfl, rfl⟩
    · rw [if_neg executing] at mailbox
      exact fun sound => sound.congr (congrArg _ mailbox) fun ex => absurd ex executing
  · rw [State.endStartCheck_idle op]
    exact id

theorem State.readBack_keepsMailbox (s : State) : s.KeepsMailbox s.readBack := by
  by_cases due : s.path.op = .standby ∧ s.path.readBackOwed = true
  · have started : s.path.op ≠ .startCheck := by simp [due.1]
    rcases s.readBack_cases due.1 due.2 with e | e <;> rw [e]
    · exact .of_started rfl started
    · exact .of_mailbox rfl id
  · rw [State.readBack_idle due]
    exact id

theorem State.writeWord_keepsMailbox (s : State) : s.KeepsMailbox s.writeWord := by
  unfold State.writeWord
  split
  case h_4 => exact id
  all_goals exact .of_mailbox rfl id

theorem State.writeWord0_keepsMailbox (s : State) : s.KeepsMailbox s.writeWord0 := by
  unfold State.writeWord0
  split
  · exact .of_mailbox (by simp only [State.handRingFormat_frame]; rfl) (by simp only [State.handRingFormat_frame]; exact id)
  · exact id

/-! ### Every command -/

/-- A master cycle's command keeps the laws if its effect does: so do the held cycles it lets be served. -/
theorem State.KeepsMailbox.finishMaster {s u t : State} {due : Bool} (h : s.KeepsMailbox u) (e : u.finishMaster due = .next t) :
    s.KeepsMailbox t := by
  unfold State.finishMaster at e
  cases e
  split
  · have served : u.KeepsMailbox u.serveHeld := fun sound =>
      State.serveHeld_keeps (I := State.MailboxSound) (fun _ _ h => h.congr rfl fun _ => id) State.serve_keepsMailbox u sound
    exact (h.trans served).trans (.of_mailbox rfl id)
  · exact h.trans u.eventDone_keepsMailbox

/-- An event's command that reacts leaves the mailbox to the exchange. -/
theorem State.KeepsMailbox.finish {s u t : State} (same : u.mailbox = s.mailbox) (reacts : s.Reacts u) (e : u.finish = .next t) :
    s.KeepsMailbox t := by
  cases e
  exact (State.KeepsMailbox.of_mailbox same fun op => by rwa [reacts.path]).trans u.eventDone_keepsMailbox

theorem exec_keepsMailbox {c : Instr} {s t : State} (h : exec c s = .next t) : s.KeepsMailbox t := by
  cases hy : cycleOf c with
  | some y =>
    rw [exec_of_cycleOf hy] at h
    cases h
    exact s.processor_keepsMailbox y
  | none =>
    cases c with
    | powerOn x => cases h; exact .of_quiet ⟨.inl rfl, rfl, rfl⟩
    | startCheck => exact s.endStartCheck_keepsMailbox.finishMaster h
    | loaderRead => exact s.loadWord_keepsMailbox.finishMaster h
    | loaderWriteBack => exact s.writeBackWord_keepsMailbox.finishMaster h
    | imageReadyReadBack => exact s.readBack_keepsMailbox.finishMaster h
    | descriptorWord0Read =>
      exact .finishMaster (.of_mailbox (by simp only [State.readWord0_frame]) (by simp only [State.readWord0_frame]; exact id)) h
    | descriptorWordWrite => exact s.writeWord_keepsMailbox.finishMaster h
    | descriptorWord0Write => exact s.writeWord0_keepsMailbox.finishMaster h
    | confirmWindowExpiry => cases h; exact s.windowExpire_keepsMailbox.trans (State.eventDone_keepsMailbox _)
    | shelfTimeAdvance => exact .finish (by simp only [State.advanceShelfTime_frame]) s.advanceShelfTime_reacts h
    | scanRoundStart => exact .finish (by simp only [State.startRound_frame]) s.startRound_reacts h
    | portSlotStart => exact .finish (by simp only [State.startSlot_frame]) s.startSlot_reacts h
    | moduleAnswer k a => exact .finish (by simp only [State.takeAnswer_frame]) (s.takeAnswer_reacts k a) h
    | portSlotEnd => exact .finish (by simp only [State.endSlot_frame]) s.endSlot_reacts h
    | portUpdate => exact .finish (by simp only [State.portUpdate_frame]) s.portUpdate_reacts h
    | holdOffExpiry g k => exact .finish (by simp only [State.holdOffExpire_frame]) (s.holdOffExpire_reacts g k) h
    | restoreWaitExpiry g => exact .finish (by simp only [State.restoreWaitExpire_frame]) (s.restoreWaitExpire_reacts g) h
    | confirmationTimerExpiry g => exact .finish (by simp only [State.confirmationExpire_frame]) (s.confirmationExpire_reacts g) h
    | senseChange e x => exact .finish (by simp only [State.senseChange_frame]) (s.senseChange_reacts e _) h
    | travelTimerExpiry e => exact .finish (by simp only [State.travelExpire_frame]) (s.travelExpire_reacts e) h
    | settleTimerExpiry l => exact .finish (by simp only [State.settleExpire_frame]) (s.settleExpire_reacts l) h
    | slotPulse i => exact .finish (by simp only [State.takePulse_frame]) (s.takePulse_reacts i) h
    | lossWindowExpiry i => exact .finish (by simp only [State.lossExpire_frame]) (s.lossExpire_reacts i) h
    | gateComplete i n => exact .finish (by simp only [State.completeGate_frame]) (s.completeGate_reacts i n) h
    | gateOverrun i => exact .finish (by simp only [State.abandonGate_frame]) (s.abandonGate_reacts i) h
    | qualifyTimerExpiry i => exact .finish (by simp only [State.qualifyExpire_frame]) (s.qualifyExpire_reacts i) h
    | acoInput => exact .finish (by simp only [State.cutOff_frame]) s.cutOff_reacts h
    | _ => cases hy

end Sys2Proof.Machine

namespace Sys2Proof.Proofs
open Sys2Proof.Machine

/-- Settles O56: a command's word, its confirm and a restart's start check each end in a lawful exchange, and no other effect touches
it. -/
theorem mailboxKept : Obligations.MailboxKept := by
  intro s t sound h
  unfold step at h
  split at h
  · cases h
    exact sound
  next c rest _ => exact exec_keepsMailbox h (sound.congr rfl fun _ => id)

end Sys2Proof.Proofs

namespace Sys2Proof.Machine

/-! ## A command's word and what its form check answers (R127, R187) -/

theorem Command.code_lt (c : Command) : c.code < 16 := by cases c <;> decide

theorem commandOf_code (c : Command) : commandOf c.code = some c := by cases c <;> rfl

/-- The form check asks for a spare field of 0, and for an object and a channel of 0 where the command has none. -/
theorem formCheck_commandWord (c : Command) (o : BitVec 6) (k x : BitVec 3) : formCheck (commandWord c.code o k x)
    = if x = 0 ∧ (c.objectZero → o = 0) ∧ (c.channelZero → k = 0) then some c else none := by
  obtain ⟨code, object, channel, spare⟩ := commandWord_fields c.code_lt o k x
  unfold formCheck
  rw [code, commandOf_code, object, channel, spare]
  simp only [BitVec.toNat_eq]
  rfl

/-- A command's word names the command and its object. -/
theorem commandWord_named (c : Command) (o : BitVec 6) (k x : BitVec 3) :
    (commandWord c.code o k x).extractLsb' 0 4 = BitVec.ofNat 4 c.code ∧ commandObject (commandWord c.code o k x) = o.toNat := by
  obtain ⟨code, object, -, -⟩ := commandWord_fields c.code_lt o k x
  have field (w : Word) : w.extractLsb' 0 4 = BitVec.ofNat 4 (commandCode w) :=
    BitVec.eq_of_toNat_eq (by simp [commandCode, bits])
  exact ⟨(field _).trans (congrArg _ code), object⟩

/-- The object a refused command's word records: 0 for a command without one (R134). -/
theorem refusedObject_commandWord (c : Command) (o : BitVec 6) (k x : BitVec 3) :
    refusedObject (commandWord c.code o k x) = if c.objectZero then 0 else o.toNat := by
  obtain ⟨code, object, -, -⟩ := commandWord_fields c.code_lt o k x
  unfold refusedObject
  rw [code, commandOf_code, object, Option.any_some]

/-- The codes 0 and 12 to 15 name no command (R187). -/
theorem commandOf_unknown {n : Nat} (h : n = 0 ∨ 12 ≤ n) : commandOf n = none := by
  refine List.find?_eq_none.mpr fun c _ => ?_
  have named : 1 ≤ c.code ∧ c.code ≤ 11 := by cases c <;> decide
  simp only [decide_eq_true_eq]
  omega

/-- Where the byte of a lane begins in a word. -/
def laneStart : Lane → Nat
  | .low => 0
  | .high => 8

/-- A byte write writes the byte in its lane, whatever the other lane of the data holds (R8). -/
theorem Memory.writeLanes_laneWord (m : Memory) (a : Addr) {lane : Lane} {b : Byte} {d : Word}
    (h : d.extractLsb' (laneStart lane) 8 = b) :
    m.writeLanes a (laneOf lane) (laneWord lane b) = m.writeLanes a (laneOf lane) d := by
  cases lane with
  | low =>
    change m.write _ ((0 ++ b : BitVec (8 + 8)).extractLsb' 0 8) = m.write _ (d.extractLsb' 0 8)
    rw [low_lane, ← h]
    rfl
  | high =>
    change m.write _ ((b ++ 0 : BitVec (8 + 8)).extractLsb' 8 8) = m.write _ (d.extractLsb' 8 8)
    rw [high_lane, ← h]
    rfl

/-- A word written to CONFIRM that starts no restart is told to the mailbox and nothing more (R129). -/
theorem State.confirmCycle_mailbox {s : State} {w : Word}
    (h : s.mailbox.state = .awaitConfirm → (s.confirmWrite w).mailbox.state ≠ .executing) : s.confirmCycle w = s.confirmWrite w :=
  if_neg fun ⟨awaits, executing⟩ => h awaits executing

end Sys2Proof.Machine

namespace Sys2Proof.Claims
open Sys2Proof.Machine

/-! ## The rows of the command words -/

/-- Every command word's row is a word written to COMMAND, with the code and the object its word names. -/
theorem commandWriteOf_row {i : Instr} {code : BitVec 4} {object : Nat} {w : Word} (h : commandWriteOf i = some (code, object, w)) :
    cycleOf i = some (writeCycle (.trigger (.mailbox .command)) .word w) ∧ w.extractLsb' 0 4 = code ∧ commandObject w = object := by
  cases i with
  | bar o k x => cases h; exact ⟨rfl, commandWord_named .bar o k x⟩
  | force o k x => cases h; exact ⟨rfl, commandWord_named .force o k x⟩
  | manual o k x => cases h; exact ⟨rfl, commandWord_named .manual o k x⟩
  | clear o k x => cases h; exact ⟨rfl, commandWord_named .clear o k x⟩
  | forceRef o k x => cases h; exact ⟨rfl, commandWord_named .forceRef o k x⟩
  | clearRef o k x => cases h; exact ⟨rfl, commandWord_named .clearRef o k x⟩
  | maint o k x => cases h; exact ⟨rfl, commandWord_named .maint o k x⟩
  | release o k x => cases h; exact ⟨rfl, commandWord_named .release o k x⟩
  | resume o k x => cases h; exact ⟨rfl, commandWord_named .resume o k x⟩
  | aco o k x => cases h; exact ⟨rfl, commandWord_named .aco o k x⟩
  | restart o k x => cases h; exact ⟨rfl, commandWord_named .restart o k x⟩
  | unknownCommandWrite d => cases h; exact ⟨rfl, rfl, rfl⟩
  | _ => cases h

/-- An operate command in its right form is a word written to COMMAND that passes the form check as one (R127). -/
theorem operateWord_row {i : Instr} {w : Word} (h : operateWord i = some w) :
    cycleOf i = some (writeCycle (.trigger (.mailbox .command)) .word w) ∧ ∃ c, formCheck w = some c ∧ c.operate = true := by
  have passes (c : Command) (o : BitVec 6) (k : BitVec 3) (operate : c.operate = true) (object : c.objectZero → o = 0)
      (channel : c.channelZero → k = 0) : ∃ c', formCheck (commandWord c.code o k 0) = some c' ∧ c'.operate = true :=
    ⟨c, (formCheck_commandWord c o k 0).trans (if_pos ⟨rfl, object, channel⟩), operate⟩
  cases i <;> simp only [operateWord, Option.ite_none_right_eq_some, Option.some.injEq, reduceCtorEq] at h
  case bar o k x =>
    obtain ⟨rfl, rfl⟩ := h
    exact ⟨rfl, passes .bar o k rfl nofun nofun⟩
  case force o k x =>
    obtain ⟨rfl, rfl⟩ := h
    exact ⟨rfl, passes .force o k rfl nofun nofun⟩
  case manual o k x =>
    obtain ⟨rfl, rfl⟩ := h
    exact ⟨rfl, passes .manual o k rfl nofun nofun⟩
  case forceRef o k x =>
    obtain ⟨⟨rfl, rfl⟩, rfl⟩ := h
    exact ⟨rfl, passes .forceRef o 0 rfl nofun fun _ => rfl⟩
  case maint o k x =>
    obtain ⟨⟨rfl, rfl⟩, rfl⟩ := h
    exact ⟨rfl, passes .maint o 0 rfl nofun fun _ => rfl⟩
  case restart o k x =>
    obtain ⟨⟨rfl, rfl, rfl⟩, rfl⟩ := h
    exact ⟨rfl, passes .restart 0 0 rfl (fun _ => rfl) fun _ => rfl⟩

/-- A command word that fails the form check is a word written to COMMAND that the check refuses, with the code it names and the
object recorded for it (R127, R134). -/
theorem badForm_row {i : Instr} {code : BitVec 4} {object : Nat} {w : Word} (h : badForm i = some (code, object, w)) :
    cycleOf i = some (writeCycle (.trigger (.mailbox .command)) .word w) ∧ formCheck w = none ∧ w.extractLsb' 0 4 = code
    ∧ refusedObject w = object := by
  have fails (c : Command) (o : BitVec 6) (k x : BitVec 3) (bad : ¬ (x = 0 ∧ (c.objectZero → o = 0) ∧ (c.channelZero → k = 0))) :
      formCheck (commandWord c.code o k x) = none ∧ (commandWord c.code o k x).extractLsb' 0 4 = BitVec.ofNat 4 c.code
      ∧ refusedObject (commandWord c.code o k x) = if c.objectZero then 0 else o.toNat :=
    ⟨(formCheck_commandWord c o k x).trans (if_neg bad), (commandWord_named c o k x).1, refusedObject_commandWord c o k x⟩
  cases i <;> simp only [badForm, Option.ite_none_right_eq_some, Option.some.injEq, Prod.mk.injEq, reduceCtorEq] at h <;>
    obtain ⟨bad, rfl, rfl, rfl⟩ := h
  case unknownCommandWrite d =>
    have unknown : commandOf (commandCode d) = none := commandOf_unknown (by simpa [commandCode, bits] using bad)
    refine ⟨rfl, ?_, rfl, ?_⟩
    · unfold formCheck
      rw [unknown]
    · unfold refusedObject
      rw [unknown]
      rfl
  case bar o k x => exact ⟨rfl, fails .bar o k x fun good => bad good.1⟩
  case force o k x => exact ⟨rfl, fails .force o k x fun good => bad good.1⟩
  case manual o k x => exact ⟨rfl, fails .manual o k x fun good => bad good.1⟩
  case clear o k x => exact ⟨rfl, fails .clear o k x fun good => bad good.1⟩
  case forceRef o k x => exact ⟨rfl, fails .forceRef o k x fun ⟨spare, _, channel⟩ => bad.elim (· spare) (· (channel rfl))⟩
  case maint o k x => exact ⟨rfl, fails .maint o k x fun ⟨spare, _, channel⟩ => bad.elim (· spare) (· (channel rfl))⟩
  case release o k x => exact ⟨rfl, fails .release o k x fun ⟨spare, _, channel⟩ => bad.elim (· spare) (· (channel rfl))⟩
  all_goals
    refine ⟨rfl, ?_⟩
    have refuted {c : Command} {o : BitVec 6} {k x : BitVec 3} (none_ : c.objectZero = true ∧ c.channelZero = true)
        (bad : x ≠ 0 ∨ k ≠ 0 ∨ o ≠ 0) : ¬ (x = 0 ∧ (c.objectZero → o = 0) ∧ (c.channelZero → k = 0)) :=
      fun ⟨spare, object, channel⟩ => bad.elim (· spare) (·.elim (· (channel none_.2)) (· (object none_.1)))
  case clearRef o k x => exact fails .clearRef o k x (refuted ⟨rfl, rfl⟩ bad)
  case resume o k x => exact fails .resume o k x (refuted ⟨rfl, rfl⟩ bad)
  case aco o k x => exact fails .aco o k x (refuted ⟨rfl, rfl⟩ bad)
  case restart o k x => exact fails .restart o k x (refuted ⟨rfl, rfl⟩ bad)

/-! ## A mailbox word written in RUNNING with the port free (R8, R128 to R132) -/

/-- A word written to COMMAND reaches memory and is told to the mailbox. -/
theorem command_told {i : Instr} {w : Word} {s : State} (row : cycleOf i = some (writeCycle (.trigger (.mailbox .command)) .word w))
    (op : s.path.op = .running) (free : PortFree s) :
    ∃ t, exec i s = .next t ∧ Regranted ((wrote s 0x20 .word w).commandWrite w) t := by
  have served := exec_served row (s := s) fun _ => free
  rwa [s.processorCycle_running _ op] at served

/-- A word written to CONFIRM reaches memory and is told to the mailbox. -/
theorem confirm_told (w : Word) {s : State} (op : s.path.op = .running) (free : PortFree s)
    (passive : s.mailbox.state = .awaitConfirm → ((wrote s 0x21 .word w).confirmWrite w).mailbox.state ≠ .executing) :
    ∃ t, exec (.confirm w) s = .next t ∧ Regranted ((wrote s 0x21 .word w).confirmWrite w) t := by
  have served := exec_served (c := .confirm w) rfl (s := s) fun _ => free
  rw [s.processorCycle_running _ op] at served
  rw [← State.confirmCycle_mailbox (s := wrote s 0x21 .word w) passive]
  exact served

/-- A byte written to COMMAND or CONFIRM reaches memory in its lane and is told to the mailbox. -/
theorem byte_told (m : MailboxWord) {lane : Lane} {b : Byte} {d : Word} {s : State} (op : s.path.op = .running) (free : PortFree s)
    (h : d.extractLsb' (laneStart lane) 8 = b) :
    ∃ t, exec (.mailboxByteWrite m lane b) s = .next t
      ∧ Regranted (wrote s (Trigger.mailbox m).offset (laneOf lane) d).mailboxByte t := by
  have served := exec_served (c := .mailboxByteWrite m lane b) rfl (s := s) fun _ => free
  rw [s.processorCycle_running _ op] at served
  have told : s.serveRunning (writeCycle (.trigger (.mailbox m)) (laneOf lane) (laneWord lane b))
      = (wrote s (Trigger.mailbox m).offset (laneOf lane) (laneWord lane b)).mailboxByte := by
    cases m <;> cases lane <;> rfl
  rw [told] at served
  unfold wrote State.memWrite at served
  rw [Memory.writeLanes_laneWord _ _ h] at served
  exact served

/-- A result recorded with the word in memory, on a mailbox that has counted no result yet. -/
theorem recordResult_told {s t : State} {offset : Nat} {l : Lanes} {d : Word} {m : Mailbox} {c : BitVec 4} {o : Nat} {r : CommandResult}
    (count : m.count = s.mailbox.count) (h : Regranted (State.recordResult { wrote s offset l d with mailbox := m } c o r) t) :
    Recorded s t c o r ∧ t.mailbox.exchange = m.exchange ∧ MailboxOnly s t offset l d := by
  refine ⟨(recordResult_recorded count c o r).regranted h, ?_, ?_⟩ <;> obtain ⟨g, rfl⟩ := h
  · exact State.recordResult_exchange _ c o r
  · obtain ⟨m', a, p, only⟩ := recordResult_only { wrote s offset l d with mailbox := m } c o r
    exact ⟨m', a, p, g, by rw [only]⟩

/-- A mailbox that blocks records the result given, with the word in memory. -/
theorem block_told {s t : State} {offset : Nat} {l : Lanes} {d w : Word} {r : CommandResult}
    (h : Regranted ((wrote s offset l d).block w r) t) :
    BlockedWith s t (w.extractLsb' 0 4) (commandObject w) r ∧ MailboxOnly s t offset l d := by
  obtain ⟨recorded, exchange, only⟩ := recordResult_told (m := s.mailbox.settle .blocked) rfl h
  simp only [Mailbox.exchange, Prod.mk.injEq] at exchange
  obtain ⟨state, pending, window⟩ := exchange
  exact ⟨⟨state, pending, window, recorded⟩, only⟩

/-- A result recorded in a mailbox that goes on as it is. -/
theorem recordWord_told {s t : State} {offset : Nat} {l : Lanes} {d w : Word} {r : CommandResult}
    (h : Regranted ((wrote s offset l d).recordWord w r) t) :
    Recorded s t (w.extractLsb' 0 4) (commandObject w) r ∧ t.mailbox.state = s.mailbox.state ∧ MailboxOnly s t offset l d := by
  obtain ⟨recorded, exchange, only⟩ := recordResult_told (m := s.mailbox) rfl h
  exact ⟨recorded, congrArg Prod.fst exchange, only⟩

end Sys2Proof.Claims

namespace Sys2Proof.Proofs
open Sys2Proof.Machine Sys2Proof.Claims

/-- Settles O21: the word passes the form check as an operate command. -/
theorem operateAwaits : Obligations.OperateAwaits := by
  intro i w s right op free ready
  obtain ⟨row, c, form, operate⟩ := operateWord_row right
  have told := command_told row op free
  have awaits : (wrote s 0x20 .word w).commandWrite w = { wrote s 0x20 .word w with
      mailbox := { s.mailbox with state := .awaitConfirm, pending := some w, window := some (s.now + 4000) } } := by
    unfold State.commandWrite State.newCommand
    rw [show (wrote s 0x20 .word w).mailbox.state = .ready from ready, form]
    exact if_pos operate
  rwa [awaits] at told

/-- Settles O22: the form check refuses the word, and the refusal is recorded. -/
theorem formRefused : Obligations.FormRefused := by
  intro i code object w s bad op free ready
  obtain ⟨row, form, rfl, rfl⟩ := badForm_row bad
  obtain ⟨t, run, told⟩ := command_told row op free
  have refused : (wrote s 0x20 .word w).commandWrite w
      = (wrote s 0x20 .word w).recordResult (w.extractLsb' 0 4) (refusedObject w) .refusedInvalid := by
    unfold State.commandWrite State.newCommand
    rw [show (wrote s 0x20 .word w).mailbox.state = .ready from ready, form]
  rw [refused] at told
  obtain ⟨recorded, exchange, only⟩ := recordResult_told (m := s.mailbox) rfl told
  simp only [Mailbox.exchange, Prod.mk.injEq] at exchange
  obtain ⟨state, pending, window⟩ := exchange
  exact ⟨t, run, recorded, state.trans ready, pending, window, only⟩

/-- Settles O30: each word is told to the mailbox, which answers by its state. -/
theorem mailboxErrors : Obligations.MailboxErrors := by
  refine ⟨fun w v s op free awaits pending other => ?_, fun i code object w s row op free => ?_, fun w s op free => ?_⟩
  · have mismatch : (wrote s 0x21 .word w).confirmWrite w = (wrote s 0x21 .word w).block s.pendingWord .confirmMismatch := by
      unfold State.confirmWrite
      rw [show (wrote s 0x21 .word w).mailbox = s.mailbox from rfl, awaits, pending]
      exact if_neg fun e => other (Option.some.inj e).symm
    obtain ⟨t, run, told⟩ := confirm_told w op free fun _ => by
      rw [mismatch]
      rcases (State.block_quiet (wrote s 0x21 .word w) s.pendingWord .confirmMismatch).state with st | st <;> rw [st] <;> exact nofun
    rw [mismatch] at told
    exact ⟨t, run, block_told told⟩
  · obtain ⟨cycle, rfl, rfl⟩ := commandWriteOf_row row
    obtain ⟨t, run, told⟩ := command_told cycle op free
    unfold State.commandWrite at told
    refine ⟨fun st => ⟨t, run, ?_⟩, fun st => ⟨t, run, ?_⟩, fun st => ⟨t, run, ?_⟩⟩ <;>
      rw [show (wrote s 0x20 .word w).mailbox.state = _ from st] at told
    · exact block_told told
    · obtain ⟨recorded, state, only⟩ := recordWord_told told
      exact ⟨recorded, state.trans st, only⟩
    · exact told
  · have told (st : s.mailbox.state ≠ .awaitConfirm) := confirm_told w op free fun awaits => absurd awaits st
    unfold State.confirmWrite at told
    refine ⟨fun st => ?_, fun st => ?_, fun st => ?_⟩ <;> obtain ⟨t, run, told⟩ := told (by rw [st]; exact nofun) <;>
      rw [show (wrote s 0x21 .word w).mailbox.state = _ from st] at told
    · obtain ⟨recorded, state, only⟩ := recordWord_told told
      exact ⟨t, run, recorded, state.trans st, only⟩
    · obtain ⟨recorded, state, only⟩ := recordWord_told told
      exact ⟨t, run, recorded, state.trans st, only⟩
    · exact ⟨t, run, told⟩

/-- Settles O31: the byte is told to the mailbox, which blocks in every state but EXECUTING. -/
theorem mailboxByteWrites : Obligations.MailboxByteWrites := by
  intro m lane b s offset l d op free at_ lanes byte
  obtain ⟨t, run, told⟩ := byte_told m op free byte
  rw [show (Trigger.mailbox m).offset = offset by rw [at_]; cases m <;> rfl,
    show laneOf lane = l by rw [lanes]; cases lane <;> rfl] at told
  unfold State.mailboxByte at told
  refine ⟨fun st => ⟨t, run, ?_⟩, fun st => ⟨t, run, ?_⟩, fun st => ⟨t, run, ?_⟩⟩
  · rw [show (wrote s offset l d).mailbox.state = _ from st] at told
    exact block_told told
  · rcases st with st | st <;> rw [show (wrote s offset l d).mailbox.state = _ from st] at told <;> exact block_told told
  · rw [show (wrote s offset l d).mailbox.state = _ from st] at told
    exact told

/-- Settles O32: the mailbox is settled with the clock at the expiry, and the result recorded. -/
theorem windowExpires : Obligations.WindowExpires := by
  intro s n awaits window
  have lapses : s.windowExpire = ((s.passTo n).settleMailbox .ready).recordWord s.pendingWord .lapsed := by
    unfold State.windowExpire
    rw [awaits, window]
  obtain ⟨t, run, regranted⟩ := finish_regranted lapses
  refine ⟨t, run, (recordResult_recorded (u := (s.passTo n).settleMailbox .ready) rfl _ _ _).regranted regranted, ?_⟩
  have exchange := State.recordWord_exchange ((s.passTo n).settleMailbox .ready) s.pendingWord .lapsed
  simp only [Mailbox.exchange, Prod.mk.injEq] at exchange
  obtain ⟨state, pending, idle⟩ := exchange
  obtain ⟨m, a, p, only⟩ := recordResult_only ((s.passTo n).settleMailbox .ready) (s.pendingWord.extractLsb' 0 4)
    (commandObject s.pendingWord) .lapsed
  obtain ⟨g, rfl⟩ := regranted
  exact ⟨state, pending, idle, by simp only [State.recordWord_frame, State.settleMailbox_frame]; rfl, max s.now n, m, a, p, g,
    by rw [State.recordWord, only]; rfl⟩

end Sys2Proof.Proofs

namespace Sys2Proof.Machine

/-! ## The poster word and the summary words (R169, R183, R195, R196) -/

theorem Poster.conditionCode_lt (p : Poster) : p.conditionCode < 8 := by
  have change := bitOf_lt p.ringChange
  have fault := bitOf_lt p.wrapFault
  unfold Poster.conditionCode
  split <;> omega

theorem Poster.queueField_lt {p : Poster} (h : p.queue.length ≤ 16) : p.queueField < 32 := by
  unfold Poster.queueField
  (repeat' split) <;> omega

theorem RelayMode.code_lt (m : RelayMode) : m.code < 3 := by cases m <;> decide

/-- There are 255 points, so a count fits its byte (R162, R169). -/
theorem State.countOf_lt (s : State) (v : Severity) : s.countOf v < 256 := by
  have points : Point.all.length = 255 := by decide +kernel
  exact Nat.lt_of_le_of_lt List.countP_le_length (by omega)

theorem State.suppressed_eq_false_iff {s : State} {pt : Point} :
    s.suppressed pt = false ↔ ∀ (p : Port) (k : Fin 7), pt = .port p k → s.sup.record[p].maintenance = false := by
  cases pt with
  | port p k => exact ⟨fun clear _ _ e => by cases e; exact clear, fun h => h p k rfl⟩
  | _ => exact iff_of_true rfl nofun

/-- The points a count counts (R167). -/
theorem State.counted_iff {s : State} {v : Severity} {pt : Point} : s.counted v pt = true ↔ s.pointRaised pt = true
    ∧ (s.profileOf pt).toNat % 4 = v.code
    ∧ ∀ (p : Port) (k : Fin 7), pt = .port p k → s.sup.record[p].maintenance = false := by
  rw [← State.suppressed_eq_false_iff]
  simp [State.counted, profileSeverity, bits, and_assoc]

end Sys2Proof.Machine

namespace Sys2Proof.Claims
open Sys2Proof.Machine

theorem poster_shown {p : Poster} (index : p.index < 256) (queue : p.queue.length ≤ 16) : PosterShown p p.word := by
  have field := Poster.queueField_lt queue
  have condition := p.conditionCode_lt
  have word : p.word.toNat = p.index + 256 * p.queueField + 8192 * p.conditionCode := wordOf_toNat (by omega)
  have shown : p.word.toNat / 256 % 32 = p.queueField := by omega
  unfold PosterShown
  rw [shown]
  unfold Poster.queueField
  refine ⟨by omega, fun clear => ?_, fun set full => ?_, fun set last => ?_, ?_⟩
  · simp [clear]
  · simp [set, full]
  · simp [set, last]
  · refine Eq.trans (b := p.conditionCode) (by omega) ?_
    unfold Poster.conditionCode
    cases p.state <;> cases p.ringChange <;> cases p.wrapFault <;> rfl

theorem summary_shown (s : State) : SummaryShown s (s.liveWord (.summary 0)) (s.liveWord (.summary 1)) := by
  have critical := s.countOf_lt .critical
  have major := s.countOf_lt .major
  have minor := s.countOf_lt .minor
  have mode := s.alarm.mode.code_lt
  have v2 := bitOf_lt s.alarm.critical.visual
  have v1 := bitOf_lt s.alarm.major.visual
  have v0 := bitOf_lt s.alarm.minor.visual
  have a2 := bitOf_lt s.alarm.critical.audible
  have a1 := bitOf_lt s.alarm.major.audible
  have a0 := bitOf_lt s.alarm.minor.audible
  change SummaryShown s s.summary0 s.summary1
  have word0 : s.summary0.toNat = _ := wordOf_toNat (by omega)
  have word1 : s.summary1.toNat = _ := wordOf_toNat (by omega)
  unfold SummaryShown
  rw [word0, word1]
  refine ⟨by omega, by omega, by omega, getLsbD_wordOf (by decide) (by omega), getLsbD_wordOf (by decide) (by omega),
    getLsbD_wordOf (by decide) (by omega), getLsbD_wordOf (by decide) (by omega), getLsbD_wordOf (by decide) (by omega),
    getLsbD_wordOf (by decide) (by omega), ?_, fun v pt => State.counted_iff⟩
  change _ = s.alarm.mode.code
  omega

end Sys2Proof.Claims

namespace Sys2Proof.Proofs
open Sys2Proof.Machine Sys2Proof.Claims

/-- Settles O49: the word's fields, the two ways of an event put, and what a result leaves in the mailbox. -/
theorem eventsAndResults : Obligations.EventsAndResults := by
  refine ⟨fun s index queue => poster_shown index queue, fun s o d => ?_, fun s c o r _ => ?_⟩
  · rcases s.putEvent_cases o d with ⟨room, e⟩ | ⟨full, e⟩
    · exact ⟨fun _ => e, fun full => by omega⟩
    · exact ⟨fun room => by omega, fun _ => e⟩
  · obtain ⟨mailbox, -, -⟩ := s.recordResult_mailbox c o r
    refine ⟨recordResult_recorded rfl c o r, ?_, ?_, ?_⟩ <;> rw [mailbox]
    exact BitVec.toNat_add _ _

/-- Settles O26: the summary words by their sums, and a cut-off by the line and by the command. -/
theorem audibleCutOff : Obligations.AudibleCutOff := by
  refine ⟨summary_shown, fun s cut a is_cut is_a => ?_⟩
  have same : cut = Relays.cut := funext is_cut
  subst same
  have cutOff (u : State) (h : u.alarm = s.alarm) : u.cutOff = { u with alarm := a } := by
    subst is_a
    unfold State.cutOff
    rw [h]
    split
    · rfl
    · rw [← h]
  refine ⟨finish_regranted (cutOff s rfl), fun op free ready => ?_⟩
  obtain ⟨t, run, h, served⟩ := command_served (i := .aco 0 0 0) (w := 10) (c := .aco) rfl op free ready (by decide) rfl
    (congrArg (·, CommandResult.done) (cutOff (wrote s 0x20 .word 10) rfl))
  refine ⟨t, run, h.recorded, h.ready, ?_, ?_⟩
  · obtain ⟨g, rfl⟩ := served
    exact (State.recordResult_mailbox _ _ _ _).2.1
  · obtain ⟨g, m, a', p, -, rfl⟩ := h.rest
    exact ⟨m, a', p, g, rfl⟩

end Sys2Proof.Proofs

namespace Sys2Proof.Machine

/-! ## RESUME (R138, R182) -/

/-- Taking events neither disables the poster nor ends DISABLED. -/
theorem Poster.Grows.disabled_iff {p q : Poster} (h : p.Grows q) : q.state = .disabled ↔ p.state = .disabled := by
  rcases h.state with ⟨same, -⟩ | ⟨idle, posting, -⟩
  · rw [same]
  · simp [idle, posting]

/-- A poster that is open, and is not IDLE once it took events, is POSTING. -/
theorem Poster.Grows.posting {p q : Poster} (h : p.Grows q) (open_ : p.state = .idle ∨ p.state = .posting) (busy : q.state ≠ .idle) :
    q.state = .posting := by
  rcases h.state with ⟨same, -⟩ | ⟨-, posting, -⟩
  · exact same.trans (open_.resolve_left fun idle => busy (same.trans idle))
  · exact posting

/-- An IDLE poster has room for an event, and is POSTING with it (R179). -/
theorem State.putEvent_not_idle {s : State} (q : s.poster.QueueSound) (o : Nat) (d : Detail) : (s.putEvent o d).poster.state ≠ .idle := by
  intro still
  rcases s.putEvent_cases o d with ⟨-, e⟩ | ⟨full, e⟩ <;> rw [e] at still
  · dsimp only at still
    split at still
    · cases still
    next other => exact other still
  · have empty := q.2.1 still
    simp [empty] at full

theorem State.handRingFormat_raised (s : State) :
    s.handRingFormat.pointRaised (.part 2) = (s.poster.wrapFault || decide (s.poster.state = .disabled)) :=
  s.setPoint_raised .ringFormat _

/-- RESUME hands RING FORMAT over last, and RING BUSY before it when it ends BUSY (R138, R181, R182). -/
theorem State.resume_hands (s : State) : ∃ u v, s.Resumed u ∧ u.Reacts v ∧ s.resume = v.handRingFormat
    ∧ (s.poster.state = .busy → v = u.endBusy) := by
  unfold State.resume
  dsimp only
  split
  next busy =>
    split
    next change => exact ⟨_, _, .changed busy change, State.endBusy_reacts _, rfl, fun _ => rfl⟩
    next same => exact ⟨_, _, .unchanged busy (by simpa using same), State.endBusy_reacts _, rfl, fun _ => rfl⟩
  next disabled => exact ⟨_, _, .disabled disabled, .refl _, rfl, fun busy => by rw [busy] at disabled; cases disabled⟩
  next idle => exact ⟨_, _, .open_ (.inl idle), .refl _, rfl, fun busy => by rw [busy] at idle; cases idle⟩
  next posting => exact ⟨_, _, .open_ (.inr posting), .refl _, rfl, fun busy => by rw [busy] at posting; cases posting⟩

/-- RESUME clears the wrap-fault flag and drops no event (R138). -/
theorem State.Resumed.cleared {s u : State} (h : s.Resumed u) : u.poster.wrapFault = false ∧ u.poster.queue = s.poster.queue := by
  cases h with
  | changed =>
    rcases State.takeRing_cases { s with poster := { s.poster with wrapFault := false } } .posting with ⟨-, e⟩ | ⟨-, e⟩ <;> rw [e] <;>
      exact ⟨rfl, rfl⟩
  | disabled =>
    rcases State.takeRing_cases { s with poster := { s.poster with wrapFault := false } } s.poster.ready with ⟨-, e⟩ | ⟨-, e⟩ <;>
      rw [e] <;> exact ⟨rfl, rfl⟩
  | unchanged | open_ => exact ⟨rfl, rfl⟩

/-- RESUME in BUSY with the ring unchanged goes on with the same descriptor (R182). -/
theorem State.Resumed.same_ring {s u : State} (h : s.Resumed u) (busy : s.poster.state = .busy) (same : s.poster.ringChange = false) :
    u.poster.state = .posting ∧ u.poster.step = .readWord0 ∧ u.poster.index = s.poster.index := by
  cases h with
  | changed _ change => rw [same] at change; cases change
  | unchanged => exact ⟨rfl, rfl, rfl⟩
  | disabled state => rw [busy] at state; cases state
  | open_ state => rw [busy] at state; exact state.elim nofun nofun

/-- A ring taken up is usable and starts at index 0, or disables the poster (R179). -/
theorem State.takeRing_shown (s : State) {x : PosterState} (open_ : x = .idle ∨ x = .posting) : (s.takeRing x).poster.ringChange = false
    ∧ (s.ringOk = true → ((s.takeRing x).poster.state = .idle ∨ (s.takeRing x).poster.state = .posting)
      ∧ (s.takeRing x).poster.index = 0 ∧ (s.takeRing x).poster.step = .readWord0)
    ∧ (s.ringOk = false → (s.takeRing x).poster.state = .disabled) := by
  rcases s.takeRing_cases x with ⟨ok, e⟩ | ⟨bad, e⟩ <;> rw [e]
  · exact ⟨rfl, fun _ => ⟨open_, rfl, rfl⟩, fun bad => absurd (ok.symm.trans bad) nofun⟩
  · exact ⟨rfl, fun ok => absurd (ok.symm.trans bad) nofun, fun _ => rfl⟩

theorem Poster.ready_open (p : Poster) : p.ready = .idle ∨ p.ready = .posting := by
  unfold Poster.ready
  split
  · exact .inl rfl
  · exact .inr rfl

/-- RESUME takes up a changed ring in BUSY and the held ring in DISABLED (R138, R182). -/
theorem State.Resumed.new_ring {s u : State} (h : s.Resumed u)
    (due : (s.poster.state = .busy ∧ s.poster.ringChange = true) ∨ s.poster.state = .disabled) :
    u.poster.ringChange = false
    ∧ (s.ringOk = true → (u.poster.state = .idle ∨ u.poster.state = .posting) ∧ u.poster.index = 0 ∧ u.poster.step = .readWord0)
    ∧ (s.ringOk = false → u.poster.state = .disabled) := by
  cases h with
  | changed => exact State.takeRing_shown { s with poster := { s.poster with wrapFault := false } } (.inr rfl)
  | disabled => exact State.takeRing_shown { s with poster := { s.poster with wrapFault := false } } s.poster.ready_open
  | unchanged busy same => simp [busy, same] at due
  | open_ state => rcases state with state | state <;> simp [state] at due

/-- RESUME in IDLE and in POSTING changes no more than the wrap-fault flag (R138). -/
theorem State.Resumed.already_open {s u : State} (h : s.Resumed u) (open_ : s.poster.state = .idle ∨ s.poster.state = .posting) :
    u = { s with poster := { s.poster with wrapFault := false } } := by
  cases h with
  | open_ => rfl
  | changed busy | unchanged busy | disabled busy => rw [busy] at open_; exact open_.elim nofun nofun

/-- RING BUSY and its attention cause are clear after BUSY ends, and RING FORMAT is another point (R182). -/
theorem State.endBusy_shown (s : State) : s.endBusy.handRingFormat.alarm.ringBusy = false
    ∧ s.endBusy.handRingFormat.pointRaised (.part 1) = false := by
  obtain ⟨busy, -, -⟩ := s.endBusy.setPoint_attention .ringFormat (s.endBusy.poster.wrapFault || s.endBusy.poster.state = .disabled)
  obtain ⟨ended, -, -⟩ := State.setPoint_attention { s with alarm := { s.alarm with ringBusy := false } } .ringBusy false
  refine ⟨busy.trans ended, (State.setPoint_raised_other _ _ _ _ (by decide)).trans ?_⟩
  exact State.setPoint_raised _ .ringBusy false

/-- RESUME touches the alarm unit and the poster alone. -/
theorem State.resume_only (s : State) : ∃ a p, s.resume = { s with alarm := a, poster := p } := by
  obtain ⟨pending, now, path, mailbox, scan, sup, group, driver, timing⟩ := s.resume_frame
  refine ⟨s.resume.alarm, s.resume.poster, ?_⟩
  rw [← pending, ← now, ← path, ← mailbox, ← scan, ← sup, ← group, ← driver, ← timing]

/-- What RESUME hands over, and an event after it, only put events; no such poster is IDLE (R138, R179). -/
theorem State.resume_put {s : State} (sound : s.poster.QueueSound) (o : Nat) (d : Detail) : ∃ u v, s.Resumed u ∧ u.Reacts v
    ∧ s.resume = v.handRingFormat ∧ (s.poster.state = .busy → v = u.endBusy) ∧ v.poster.Grows (s.resume.putEvent o d).poster
    ∧ (s.resume.putEvent o d).poster.state ≠ .idle := by
  obtain ⟨u, v, resumed, reacts, hands, ends⟩ := s.resume_hands
  have handed : v.poster.Grows s.resume.poster := hands ▸ v.handRingFormat_reacts.poster
  have kept := handed.queueSound (reacts.poster.queueSound (resumed.queueSound sound))
  exact ⟨u, v, resumed, reacts, hands, ends, handed.trans (s.resume.putEvent_grows o d), State.putEvent_not_idle kept o d⟩

end Sys2Proof.Machine

namespace Sys2Proof.Proofs
open Sys2Proof.Machine Sys2Proof.Claims

/-- Settles O25: the poster that RESUME leaves took only events since, the last of them the command's own. -/
theorem resumeCommand : Obligations.ResumeCommand := by
  intro s op free ready sound
  obtain ⟨t, run, h, served⟩ := command_served (i := .resume 0 0 0) (w := 9) (c := .resume) rfl op free ready (by decide) rfl rfl
  obtain ⟨u, v, resumed, reacts, hands, ends, since, not_idle⟩ :=
    State.resume_put (s := wrote s 0x20 .word 9) sound 0 (.command 9 .done)
  obtain ⟨alarm, poster⟩ : t.alarm = { (wrote s 0x20 .word 9).resume.alarm with commandDone := true }
      ∧ t.poster = ((wrote s 0x20 .word 9).resume.putEvent 0 (.command 9 .done)).poster := by
    obtain ⟨g, rfl⟩ := served
    exact (State.recordResult_mailbox _ _ _ _).2
  rw [← poster] at since not_idle
  have grows := reacts.poster.trans since
  obtain ⟨cleared, queue⟩ := resumed.cleared
  refine ⟨t, run, h.recorded, h.ready, grows.wrapFault.trans cleared, queue ▸ grows.queue, ?_, fun busy => ?_,
    fun ⟨busy, same⟩ => ?_, fun due => ?_, fun open_ => ?_, ?_⟩
  · obtain ⟨a, p, only⟩ := (wrote s 0x20 .word 9).resume_only
    obtain ⟨g, m, a', p', -, rfl⟩ := h.rest
    exact ⟨m, a', p', g, by rw [only]⟩
  · rw [ends busy] at hands
    obtain ⟨attention, point⟩ := u.endBusy_shown
    rw [← hands] at attention point
    exact ⟨(congrArg Alarm.ringBusy alarm).trans attention, (h.pointRaised _).trans point⟩
  · obtain ⟨state, step, index⟩ := resumed.same_ring busy same
    exact ⟨grows.posting (.inr state) not_idle, grows.step.trans step, grows.index.trans index⟩
  · obtain ⟨change, usable, unusable⟩ := resumed.new_ring due
    refine ⟨grows.ringChange.trans change, fun ok => ?_, fun bad => grows.disabled_iff.mpr (unusable bad)⟩
    obtain ⟨state, index, step⟩ := usable ok
    exact ⟨grows.posting state not_idle, grows.index.trans index, grows.step.trans step⟩
  · rw [resumed.already_open open_] at grows
    exact ⟨grows.posting open_ not_idle, grows.index, grows.step⟩
  · have clear : v.poster.wrapFault = false := reacts.poster.wrapFault.trans cleared
    rw [h.pointRaised, hands, v.handRingFormat_raised, clear, Bool.false_or, decide_eq_true_iff, since.disabled_iff]

end Sys2Proof.Proofs

namespace Sys2Proof.Machine

/-! ## The laws of the timing unit, slot by slot and of the generator alone (R148, R149, R152, R156 to R158) -/

/-- The laws of one slot's record: its last offset in range, a qualify timer in QUALIFYING alone (R149), a gate in progress short of
its 1,000th pulse (R148). -/
structure Slot.Sound (r : Slot) : Prop where
  offset  : inRange r.lastOffset
  qualify : r.qualify ≠ none → r.measured = .qualifying
  gate    : ∀ n, r.gate = some n → n < 1000

/-- The partial interval within the bounds of what its gates added (R158). -/
def Timing.IntervalSound (t : Timing) : Prop :=
  t.partialCount < 480 ∧ -(9999 * (t.partialCount : Int)) ≤ t.partialSum ∧ t.partialSum ≤ 9999 * (t.partialCount : Int)

theorem Timing.IntervalSound.of_empty {t : Timing} (count : t.partialCount = 0) (sum : t.partialSum = 0) : t.IntervalSound := by
  unfold Timing.IntervalSound
  rw [count, sum]
  decide

/-- The laws of the generator that ask nothing of the slots' states (R152, R156 to R158). -/
structure Timing.GeneratorSound (t : Timing) : Prop where
  noted    : t.gen = .bridging → ∃ g, t.noted = some g ∧ g.tracking = true
  idle     : t.gen = .freeRun ∨ t.gen = .holdover → t.selected = none
  freeRun  : t.gen = .freeRun → t.offset = 0
  holdover : t.gen = .holdover → t.history ≠ [] ∧ t.offset = meanToZero t.history
  offset   : inRange t.offset
  history  : t.history.length ≤ 4 ∧ ∀ v ∈ t.history, inRange v
  interval : t.IntervalSound
  learning : t.gen ≠ .lockedFine → t.partialCount = 0

/-- The laws of the timing unit that stand while a step is under way, before its slots are decided afresh. -/
structure Timing.Steady (t : Timing) : Prop where
  slots     : ∀ i : SlotId, t.slot[i].Sound
  generator : t.GeneratorSound

/-- The generator tracks a selected AVAILABLE slot and bridges a selected SETTLING one (R152, R156). -/
structure Timing.Fits (t : Timing) : Prop where
  tracking : t.gen.tracking = true → ∃ i, t.selected = some i ∧ t.slot[i].state = .available
  bridging : t.gen = .bridging → ∃ i, t.selected = some i ∧ t.slot[i].state = .settling

theorem Timing.sound_iff {t : Timing} : t.Sound ↔ t.Steady ∧ t.Fits where
  mp h := ⟨⟨fun i => ⟨h.slots i, h.qualify i, h.gates i⟩, fun b => (h.bridging b).2, h.idle, h.freeRun, h.holdover, h.offset,
    h.history, h.interval, h.learning⟩, h.tracking, fun b => (h.bridging b).1⟩
  mpr h := {
    tracking := h.2.tracking
    bridging := fun b => ⟨h.2.bridging b, h.1.generator.noted b⟩
    idle := h.1.generator.idle
    freeRun := h.1.generator.freeRun
    holdover := h.1.generator.holdover
    offset := h.1.generator.offset
    slots := fun i => (h.1.slots i).offset
    qualify := fun i => (h.1.slots i).qualify
    gates := fun i => (h.1.slots i).gate
    history := h.1.generator.history
    interval := h.1.generator.interval
    learning := h.1.generator.learning }

theorem Timing.Sound.steady {t : Timing} (h : t.Sound) : t.Steady := (Timing.sound_iff.mp h).1

/-! ### Offsets stay in range (R152) -/

/-- A mean rounded toward zero lies where the values do. -/
theorem inRange_tdiv {sum : Int} {n : Nat} (low : -(9999 * (n : Int)) ≤ sum) (high : sum ≤ 9999 * (n : Int)) :
    inRange (Int.tdiv sum n) := by
  have quotient : (Int.tdiv sum n).natAbs = sum.natAbs / n := Int.natAbs_tdiv sum n
  have bound : sum.natAbs / n ≤ 9999 := Nat.div_le_of_le_mul (by omega)
  unfold inRange
  omega

theorem inRange_meanToZero {l : List Int} (h : ∀ v ∈ l, inRange v) : inRange (meanToZero l) := by
  refine inRange_tdiv ?_ ?_ <;>
  · induction l with
    | nil => simp
    | cons v l ih =>
      have first := h v List.mem_cons_self
      have rest := ih fun x mem => h x (List.mem_cons_of_mem _ mem)
      unfold inRange at first
      simp only [List.sum_cons, List.length_cons, Nat.cast_add, Nat.cast_one]
      omega

theorem inRange_clamp (i : Int) : inRange (clampInt (-9999) 9999 i) := by
  unfold inRange clampInt
  omega

/-- A move of at most 5 toward an offset in range stays in range (R153). -/
theorem inRange_steered {a b : Int} (ha : inRange a) (hb : inRange b) : inRange (a + clampInt (-5) 5 (b - a)) := by
  unfold inRange clampInt at *
  omega


/-! ### The generator keeps its laws as it follows a selection (R155 to R157) -/

theorem GenState.tracking_ne {g : GenState} (h : g.tracking = true) : g ≠ .freeRun ∧ g ≠ .holdover ∧ g ≠ .bridging := by
  cases g <;> simp_all [GenState.tracking]

theorem GenState.idle_or_locking (g : GenState) :
    (g = .freeRun ∨ g = .holdover) ∨ ((g = .acquiring ∨ g = .locked ∨ g = .lockedFine) ∨ g = .bridging) := by
  cases g <;> simp

namespace Timing.GeneratorSound

/-- With a tracking generator the laws ask for the ranges and the partial interval alone. -/
theorem of_tracking {t : Timing} (tracking : t.gen.tracking = true) (offset : inRange t.offset)
    (history : t.history.length ≤ 4 ∧ ∀ v ∈ t.history, inRange v) (interval : t.IntervalSound)
    (learning : t.gen ≠ .lockedFine → t.partialCount = 0) : t.GeneratorSound := by
  obtain ⟨running, locking, bridged⟩ := GenState.tracking_ne tracking
  exact ⟨fun b => absurd b bridged, fun i => (i.elim running locking).elim, fun f => absurd f running, fun h => absurd h locking,
    offset, history, interval, learning⟩

theorem acquire {t : Timing} (h : t.GeneratorSound) (new : Option SlotId) :
    (Timing.acquire { t with selected := new }).GeneratorSound :=
  of_tracking rfl h.offset h.history (.of_empty rfl rfl) fun _ => rfl

theorem bridge {t : Timing} (h : t.GeneratorSound) (tracking : t.gen.tracking = true) : t.bridge.GeneratorSound where
  noted := fun _ => ⟨_, rfl, tracking⟩
  idle := nofun
  freeRun := nofun
  holdover := nofun
  offset := h.offset
  history := h.history
  interval := .of_empty rfl rfl
  learning := fun _ => rfl

theorem unbridge {t : Timing} (h : t.GeneratorSound) (bridging : t.gen = .bridging) : t.unbridge.GeneratorSound := by
  obtain ⟨g, noted, tracking⟩ := h.noted bridging
  have empty : t.partialCount = 0 := h.learning (by rw [bridging]; nofun)
  refine of_tracking ?_ h.offset h.history h.interval fun _ => empty
  rw [show t.unbridge.gen = g by simp [Timing.unbridge, noted]]
  exact tracking

/-- What FREE-RUN and HOLDOVER stand on (R152, R157): no slot, and the offset 0 or the mean of the history. -/
theorem of_idle {t : Timing} (selected : t.selected = none) (empty : t.partialCount = 0 ∧ t.partialSum = 0)
    (history : t.history.length ≤ 4 ∧ ∀ v ∈ t.history, inRange v)
    (rests : (t.gen = .freeRun ∧ t.offset = 0) ∨ (t.gen = .holdover ∧ t.history ≠ [] ∧ t.offset = meanToZero t.history)) :
    t.GeneratorSound := by
  obtain ⟨count, sum⟩ := empty
  rcases rests with ⟨gen, zero⟩ | ⟨gen, held, mean⟩
  · refine ⟨fun b => ?_, fun _ => selected, fun _ => zero, fun b => ?_, ?_, history, .of_empty count sum, fun _ => count⟩
    · simp [gen] at b
    · simp [gen] at b
    · simp [zero, inRange]
  · refine ⟨fun b => ?_, fun _ => selected, fun b => ?_, fun _ => ⟨held, mean⟩, ?_, history, .of_empty count sum, fun _ => count⟩
    · simp [gen] at b
    · simp [gen] at b
    · rw [mean]
      exact inRange_meanToZero history.2

/-- What remains of a history without its newest entry. -/
theorem tail_history {t : Timing} (h : t.GeneratorSound) : t.history.tail.length ≤ 4 ∧ ∀ v ∈ t.history.tail, inRange v :=
  ⟨(List.length_tail ▸ Nat.sub_le _ _ : t.history.tail.length ≤ t.history.length).trans h.history.1,
    fun v mem => h.history.2 v (List.mem_of_mem_tail mem)⟩

/-- The loss rule leaves no slot selected, and the mean of what remains of the history (R157). -/
theorem loss {t : Timing} (h : t.GeneratorSound) (none : t.selected = none) : t.loss.GeneratorSound := by
  obtain ⟨empty, history, emptied, held⟩ := t.loss_rule
  refine of_idle (t.loss_kept.2.2.trans none) empty (history ▸ h.tail_history) ?_
  rw [history]
  by_cases last : t.history.tail = []
  · exact .inl (emptied last)
  · exact .inr ⟨(held last).1, last, (held last).2⟩

/-- Naming a slot selected, or none, leaves the laws of a generator that is not idle, or that is left with none. -/
theorem select {t : Timing} (h : t.GeneratorSound) {new : Option SlotId} (fit : t.gen = .freeRun ∨ t.gen = .holdover → new = none) :
    GeneratorSound { t with selected := new } :=
  ⟨h.noted, fit, h.freeRun, h.holdover, h.offset, h.history, h.interval, h.learning⟩

/-- The generator keeps its laws whatever selection it follows (R155 to R157). -/
theorem follow {t : Timing} (h : t.GeneratorSound) (new : Option SlotId) (settling : Bool) : (t.follow new settling).GeneratorSound := by
  cases new with
  | none =>
    rcases t.gen.idle_or_locking with idle | locking
    · rw [Timing.follow_idle settling idle]
      exact h.select fun _ => rfl
    · rw [Timing.follow_lost settling locking]
      exact loss (h.select fun _ => rfl) rfl
  | some i =>
    by_cases fresh : (t.gen = .freeRun ∨ t.gen = .holdover) ∨ t.selected ≠ some i
    · rw [Timing.follow_new settling fresh]
      exact h.acquire _
    · obtain ⟨busy, same⟩ := not_or.mp fresh
      rcases t.gen.idle_or_locking.resolve_left busy with tracks | bridging
      · rw [Timing.follow_tracking settling (not_not.mp same) tracks]
        split
        · exact h.bridge ((GenState.tracking_iff _).mpr tracks)
        · exact h
      · rw [Timing.follow_bridging settling (not_not.mp same) bridging]
        split
        · exact h
        · exact h.unbridge bridging

end Timing.GeneratorSound

/-! ## A steering gate (R153, R154, R158) -/

/-- Judging the lock changes the state and the lock count alone (R154). -/
theorem Timing.judgeLock_frame (t : Timing) (d : Int) :
    t.judgeLock d = { t with gen := (t.judgeLock d).gen, lockCount := (t.judgeLock d).lockCount } := by
  unfold Timing.judgeLock
  cases t.gen <;> simp only [] <;> (repeat' split) <;> rfl

/-- The lock counts one more gate, and the state it waits for comes with the last (R154). -/
theorem Timing.lock_counts {t u : Timing} {n : Nat} {next : GenState}
    (h : u = if t.lockCount + 1 = n then { t with gen := next, lockCount := 0 } else { t with lockCount := t.lockCount + 1 }) :
    (t.lockCount + 1 = n → u.gen = next ∧ u.lockCount = 0) ∧ (t.lockCount + 1 ≠ n → u.gen = t.gen ∧ u.lockCount = t.lockCount + 1) := by
  subst h
  exact ⟨fun e => by rw [if_pos e]; exact ⟨rfl, rfl⟩, fun e => by rw [if_neg e]; exact ⟨rfl, rfl⟩⟩

theorem Timing.judgeLock_acquiring {t : Timing} {d : Int} (h : t.gen = .acquiring) :
    (|d| ≤ 20 → t.lockCount + 1 = 4 → (t.judgeLock d).gen = .locked ∧ (t.judgeLock d).lockCount = 0)
    ∧ (|d| ≤ 20 → t.lockCount + 1 ≠ 4 → (t.judgeLock d).gen = .acquiring ∧ (t.judgeLock d).lockCount = t.lockCount + 1)
    ∧ (20 < |d| → (t.judgeLock d).gen = .acquiring ∧ (t.judgeLock d).lockCount = 0) := by
  have near (le : |d| ≤ 20) := Timing.lock_counts (t := t) (n := 4) (next := .locked) (u := t.judgeLock d)
    (by simp [Timing.judgeLock, h, le])
  refine ⟨fun le => (near le).1, fun le => h ▸ (near le).2, fun lt => ?_⟩
  simp [Timing.judgeLock, h, lt]

theorem Timing.judgeLock_locked {t : Timing} {d : Int} (h : t.gen = .locked) :
    (|d| ≤ 2 → t.lockCount + 1 = 16 → (t.judgeLock d).gen = .lockedFine ∧ (t.judgeLock d).lockCount = 0)
    ∧ (|d| ≤ 2 → t.lockCount + 1 ≠ 16 → (t.judgeLock d).gen = .locked ∧ (t.judgeLock d).lockCount = t.lockCount + 1)
    ∧ (2 < |d| → |d| ≤ 20 → (t.judgeLock d).gen = .locked ∧ (t.judgeLock d).lockCount = 0)
    ∧ (20 < |d| → (t.judgeLock d).gen = .acquiring ∧ (t.judgeLock d).lockCount = 0) := by
  have fine (le : |d| ≤ 2) := Timing.lock_counts (t := t) (n := 16) (next := .lockedFine) (u := t.judgeLock d)
    (by simp [Timing.judgeLock, h, le, le.trans (by decide : (2 : Int) ≤ 20)])
  refine ⟨fun le => (fine le).1, fun le => h ▸ (fine le).2, fun lt le => ?_, fun lt => ?_⟩
  · simp [Timing.judgeLock, h, not_lt.mpr le, not_le.mpr lt]
  · simp [Timing.judgeLock, h, lt]

theorem Timing.judgeLock_lockedFine {t : Timing} {d : Int} (h : t.gen = .lockedFine) :
    (|d| ≤ 2 → (t.judgeLock d).gen = .lockedFine ∧ (t.judgeLock d).lockCount = 0)
    ∧ (2 < |d| → |d| ≤ 20 → t.lockCount + 1 = 4 → (t.judgeLock d).gen = .locked ∧ (t.judgeLock d).lockCount = 0)
    ∧ (2 < |d| → |d| ≤ 20 → t.lockCount + 1 ≠ 4 →
        (t.judgeLock d).gen = .lockedFine ∧ (t.judgeLock d).lockCount = t.lockCount + 1)
    ∧ (20 < |d| → (t.judgeLock d).gen = .acquiring ∧ (t.judgeLock d).lockCount = 0) := by
  have coarse (lt : 2 < |d|) (le : |d| ≤ 20) := Timing.lock_counts (t := t) (n := 4) (next := .locked) (u := t.judgeLock d)
    (by simp [Timing.judgeLock, h, le, not_le.mpr lt])
  refine ⟨fun le => ?_, fun lt le => (coarse lt le).1, fun lt le => h ▸ (coarse lt le).2, fun lt => ?_⟩
  · simp [Timing.judgeLock, h, le, not_lt.mpr (le.trans (by decide : (2 : Int) ≤ 20))]
  · simp [Timing.judgeLock, h, lt]

/-- A tracking generator stays tracking at a steering gate (R154). -/
theorem Timing.judgeLock_tracking {t : Timing} (d : Int) (h : t.gen.tracking = true) : (t.judgeLock d).gen.tracking = true := by
  unfold Timing.judgeLock
  cases gen : t.gen <;> simp only [gen] at h ⊢ <;> (repeat' split) <;> simp_all [GenState.tracking]

/-- The generator after the move of a steering gate (R153). -/
def Timing.moved (t : Timing) (gate : Int) : Timing := { t with offset := t.offset + clampInt (-5) 5 (gate - t.offset) }

/-- The generator after the move and the judgement of a steering gate, before the gate's part in the history (R153, R154). -/
def Timing.lockJudged (t : Timing) (gate : Int) : Timing := (t.moved gate).judgeLock (gate - (t.moved gate).offset)

theorem Timing.lockJudged_kept (t : Timing) (gate : Int) :
    (t.lockJudged gate).offset = t.offset + clampInt (-5) 5 (gate - t.offset)
    ∧ ((t.lockJudged gate).selected = t.selected ∧ (t.lockJudged gate).slot = t.slot ∧ (t.lockJudged gate).config = t.config
      ∧ (t.lockJudged gate).forced = t.forced ∧ (t.lockJudged gate).noted = t.noted)
    ∧ (t.lockJudged gate).partialCount = t.partialCount ∧ (t.lockJudged gate).partialSum = t.partialSum
    ∧ (t.lockJudged gate).history = t.history := by
  have frame : t.lockJudged gate = _ := Timing.judgeLock_frame _ _
  rw [frame]
  exact ⟨rfl, ⟨rfl, rfl, rfl, rfl, rfl⟩, rfl, rfl, rfl⟩

/-- What a steering gate leaves of the partial interval and the history: a gate outside LOCKED-FINE discards the interval, one that
finds and leaves LOCKED-FINE enters it, and one that brings LOCKED-FINE leaves both (R158; log entry 27). -/
theorem Timing.steer_cases (t : Timing) (gate : Int) :
    ((t.lockJudged gate).gen ≠ .lockedFine ∧ t.steer gate = (t.lockJudged gate).dropPartial)
    ∨ ((t.lockJudged gate).gen = .lockedFine ∧ t.gen ≠ .lockedFine ∧ t.steer gate = t.lockJudged gate)
    ∨ ((t.lockJudged gate).gen = .lockedFine ∧ t.gen = .lockedFine ∧ t.steer gate = (t.lockJudged gate).addPartial) := by
  have steer : t.steer gate = if (t.lockJudged gate).gen = .lockedFine then
      (if t.gen = .lockedFine then (t.lockJudged gate).addPartial else t.lockJudged gate) else (t.lockJudged gate).dropPartial := rfl
  rw [steer]
  split
  next fine =>
    split
    next held => exact .inr (.inr ⟨fine, held, rfl⟩)
    next brought => exact .inr (.inl ⟨fine, brought, rfl⟩)
  next other => exact .inl ⟨other, rfl⟩

theorem Timing.addPartial_push {t : Timing} (last : t.partialCount + 1 = 480) : t.addPartial = { t with
    partialCount := 0, partialSum := 0, history := (Int.tdiv (t.partialSum + t.offset) 480 :: t.history).take 4 } := if_pos last

theorem Timing.addPartial_more {t : Timing} (more : t.partialCount + 1 ≠ 480) : t.addPartial = { t with
    partialCount := t.partialCount + 1, partialSum := t.partialSum + t.offset } := if_neg more

/-- The history's part in a gate leaves everything else (R158). -/
theorem Timing.addPartial_kept (t : Timing) : (t.addPartial.gen = t.gen ∧ t.addPartial.lockCount = t.lockCount
      ∧ t.addPartial.offset = t.offset) ∧ t.addPartial.selected = t.selected ∧ t.addPartial.slot = t.slot
    ∧ t.addPartial.config = t.config ∧ t.addPartial.forced = t.forced ∧ t.addPartial.noted = t.noted := by
  by_cases last : t.partialCount + 1 = 480
  · rw [Timing.addPartial_push last]
    exact ⟨⟨rfl, rfl, rfl⟩, rfl, rfl, rfl, rfl, rfl⟩
  · rw [Timing.addPartial_more last]
    exact ⟨⟨rfl, rfl, rfl⟩, rfl, rfl, rfl, rfl, rfl⟩

/-- Steering touches the generator alone, and its state and lock count are as judged (R153, R154). -/
theorem Timing.steer_kept (t : Timing) (gate : Int) :
    ((t.steer gate).gen = (t.lockJudged gate).gen ∧ (t.steer gate).lockCount = (t.lockJudged gate).lockCount
      ∧ (t.steer gate).offset = t.offset + clampInt (-5) 5 (gate - t.offset))
    ∧ (t.steer gate).selected = t.selected ∧ (t.steer gate).slot = t.slot ∧ (t.steer gate).config = t.config
    ∧ (t.steer gate).forced = t.forced ∧ (t.steer gate).noted = t.noted := by
  obtain ⟨offset, kept, -⟩ := t.lockJudged_kept gate
  rcases t.steer_cases gate with ⟨-, e⟩ | ⟨-, -, e⟩ | ⟨-, -, e⟩ <;> rw [e]
  · exact ⟨⟨rfl, rfl, offset⟩, kept⟩
  · exact ⟨⟨rfl, rfl, offset⟩, kept⟩
  · rw [← offset]
    obtain ⟨selected, slot, config, forced, noted⟩ := kept
    rw [← selected, ← slot, ← config, ← forced, ← noted]
    exact (t.lockJudged gate).addPartial_kept

theorem clampInt_eq (lo hi i : Int) (h : lo ≤ hi) : clampInt lo hi i = max lo (min hi i) := by
  unfold clampInt
  omega

end Sys2Proof.Machine

namespace Sys2Proof.Proofs
open Sys2Proof.Machine

/-- Settles O48: the lock as R154's table judges it from each state, and the three things a gate can do to the history. -/
theorem steering : Obligations.Steering := by
  rintro t _ gate _ rfl tracking rfl
  obtain ⟨⟨gen, count, offset⟩, selected, slot, config, forced, noted⟩ := t.steer_kept gate
  obtain ⟨movedOffset, -, partialCount, partialSum, history⟩ := t.lockJudged_kept gate
  have judged : t.lockJudged gate = (t.moved gate).judgeLock (gate - (t.steer gate).offset) := by rw [offset]; rfl
  have fine (after : (t.steer gate).gen = .lockedFine) (before : t.gen = .lockedFine) :
      t.steer gate = (t.lockJudged gate).addPartial := by
    rcases t.steer_cases gate with ⟨other, -⟩ | ⟨-, brought, -⟩ | ⟨-, -, e⟩
    · exact absurd (gen.symm.trans after) other
    · exact absurd before brought
    · exact e
  refine ⟨offset.trans (by rw [clampInt_eq _ _ _ (by decide)]), selected, slot, config, forced, noted, fun h => ?_, fun h => ?_,
    fun h => ?_, fun before after more => ?_, fun before after last => ?_, fun other => ?_⟩
  · rw [gen, count, judged]
    exact Timing.judgeLock_acquiring (t := t.moved gate) h
  · rw [gen, count, judged]
    exact Timing.judgeLock_locked (t := t.moved gate) h
  · rw [gen, count, judged]
    exact Timing.judgeLock_lockedFine (t := t.moved gate) h
  · rw [offset, fine after before, Timing.addPartial_more (by rw [partialCount]; exact more), ← movedOffset, ← partialCount, ← partialSum, ← history]
    exact ⟨rfl, rfl, rfl⟩
  · rw [offset, fine after before, Timing.addPartial_push (by rw [partialCount]; exact last), ← movedOffset, ← partialSum, ← history]
    exact ⟨rfl, rfl, rfl⟩
  · rcases t.steer_cases gate with ⟨-, e⟩ | ⟨is, -⟩ | ⟨is, -⟩
    · rw [e]
      exact ⟨rfl, rfl, history⟩
    · exact absurd (gen.trans is) other
    · exact absurd (gen.trans is) other

end Sys2Proof.Proofs

namespace Sys2Proof.Machine

/-! ### The generator keeps its laws at a steering gate (R152 to R154, R158) -/

theorem Timing.IntervalSound.addPartial {t : Timing} (h : t.IntervalSound) (offset : inRange t.offset) : t.addPartial.IntervalSound := by
  by_cases last : t.partialCount + 1 = 480
  · rw [Timing.addPartial_push last]
    exact .of_empty rfl rfl
  · rw [Timing.addPartial_more last]
    unfold Timing.IntervalSound inRange at *
    dsimp only
    omega

/-- The mean pushed on the history is in range, as the offsets of its gates were (R158). -/
theorem Timing.addPartial_history {t : Timing} (offset : inRange t.offset) (interval : t.IntervalSound)
    (history : t.history.length ≤ 4 ∧ ∀ v ∈ t.history, inRange v) :
    t.addPartial.history.length ≤ 4 ∧ ∀ v ∈ t.addPartial.history, inRange v := by
  by_cases last : t.partialCount + 1 = 480
  · rw [Timing.addPartial_push last]
    refine ⟨List.length_take_le _ _, fun v mem => ?_⟩
    rcases List.mem_cons.mp (List.mem_of_mem_take mem) with rfl | old
    · unfold Timing.IntervalSound at interval
      unfold inRange at offset
      exact inRange_tdiv (n := 480) (by omega) (by omega)
    · exact history.2 v old
  · rw [Timing.addPartial_more last]
    exact history

theorem Timing.GeneratorSound.steer {t : Timing} (h : t.GeneratorSound) (tracking : t.gen.tracking = true) {gate : Int}
    (range : inRange gate) : (t.steer gate).GeneratorSound := by
  obtain ⟨⟨gen, -, offset⟩, -⟩ := t.steer_kept gate
  obtain ⟨judgedOffset, -, count, sum, history⟩ := t.lockJudged_kept gate
  have steered : inRange (t.lockJudged gate).offset := judgedOffset ▸ inRange_steered h.offset range
  have held : (t.lockJudged gate).IntervalSound := by
    have interval := h.interval
    unfold Timing.IntervalSound at interval ⊢
    rwa [count, sum]
  have stack : (t.lockJudged gate).history.length ≤ 4 ∧ ∀ v ∈ (t.lockJudged gate).history, inRange v := history ▸ h.history
  refine of_tracking ?_ (offset.trans judgedOffset.symm ▸ steered) ?_ ?_ fun other => ?_
  · rw [gen]
    exact Timing.judgeLock_tracking (t := t.moved gate) _ tracking
  · rcases t.steer_cases gate with ⟨-, e⟩ | ⟨-, -, e⟩ | ⟨-, -, e⟩ <;> rw [e]
    · exact stack
    · exact stack
    · exact Timing.addPartial_history steered held stack
  · rcases t.steer_cases gate with ⟨-, e⟩ | ⟨-, -, e⟩ | ⟨-, -, e⟩ <;> rw [e]
    · exact .of_empty rfl rfl
    · exact held
    · exact held.addPartial steered
  · rcases t.steer_cases gate with ⟨-, e⟩ | ⟨fine, -⟩ | ⟨fine, -⟩
    · rw [e]
      rfl
    · exact absurd (gen.trans fine) other
    · exact absurd (gen.trans fine) other

/-- A steering gate keeps the laws of the timing unit. -/
theorem Timing.Sound.steer {t : Timing} (h : t.Sound) (tracking : t.gen.tracking = true) {gate : Int} (range : inRange gate) :
    (t.steer gate).Sound := by
  obtain ⟨⟨gen, -⟩, selected, slot, -⟩ := t.steer_kept gate
  obtain ⟨i, chosen, available⟩ := h.tracking tracking
  have tracks : (t.steer gate).gen.tracking = true := by
    rw [gen]
    exact Timing.judgeLock_tracking (t := t.moved gate) _ tracking
  refine Timing.sound_iff.mpr ⟨⟨fun j => ?_, h.steady.generator.steer tracking range⟩, fun _ => ⟨i, selected.trans chosen, ?_⟩, fun b => ?_⟩
  · rw [slot]
    exact h.steady.slots j
  · rw [slot]
    exact available
  · exact absurd b (GenState.tracking_ne tracks).2.2

/-! ### A slot's record keeps its laws (R145 to R149) -/

namespace Slot.Sound

/-- Outside QUALIFYING no qualify timer runs (R149). -/
theorem idle {r : Slot} (h : r.Sound) (m : r.measured ≠ .qualifying) : r.qualify = none := by
  by_contra runs
  exact m (h.qualify runs)

/-- A slot decided afresh (R146): an entry either stops the qualify timer or leaves it with the measured state. -/
theorem decide {r : Slot} (h : r.Sound) (e : SlotEntry) : (r.decide e).Sound := by
  cases e with
  | disabled => exact ⟨h.offset, nofun, nofun⟩
  | lost => exact ⟨h.offset, nofun, h.gate⟩
  | settling => exact ⟨h.offset, h.qualify, h.gate⟩
  | disqualified => exact ⟨h.offset, nofun, h.gate⟩
  | measured => exact ⟨h.offset, h.qualify, h.gate⟩

theorem settleOn {r : Slot} (h : r.Sound) (x : Timer) : (r.settleOn x).Sound := ⟨h.offset, fun q => absurd rfl q, nofun⟩

theorem settleEnd {r : Slot} (h : r.Sound) (s : State) (i : SlotId) : (s.settleEnd i r).Sound where
  offset := h.offset
  qualify := fun runs => by
    by_contra other
    exact runs (if_neg other)
  gate := h.gate

theorem withSource {r : Slot} (h : r.Sound) (p : Option Port) : Slot.Sound { r with source := p } := ⟨h.offset, h.qualify, h.gate⟩

theorem lose {r : Slot} (h : r.Sound) : r.lose.Sound := ⟨h.offset, fun q => absurd rfl q, nofun⟩

theorem qualified {r : Slot} (h : r.Sound) : Slot.Sound { r with measured := .available, qualify := none } :=
  ⟨h.offset, fun q => absurd rfl q, h.gate⟩

/-- A pulse that leaves a gate short of its 1,000th keeps the laws (R147, R148). -/
theorem pulse {r : Slot} (h : r.Sound) (s : State) (i : SlotId) {gate : Option Nat} (short : ∀ n, gate = some n → n < 1000) :
    (s.pulse i gate r).Sound := by
  unfold State.pulse
  dsimp only
  split
  · exact ⟨h.offset, fun _ => rfl, short⟩
  · exact ⟨h.offset, h.qualify, short⟩

/-- A gate judged stops the qualify timer or starts it with QUALIFYING (R149). -/
theorem judgeGate {r : Slot} (h : r.Sound) (s : State) (i : SlotId) {o : Int} (range : inRange o) : (s.judgeGate i o r).Sound := by
  unfold State.judgeGate
  dsimp only
  split
  next m =>
    split
    · exact ⟨range, h.qualify, h.gate⟩
    · exact ⟨range, fun q => absurd rfl q, h.gate⟩
  next m =>
    split
    · exact ⟨range, h.qualify, h.gate⟩
    · exact ⟨range, fun q => absurd (h.idle (by rw [m]; nofun)) q, h.gate⟩
  next m =>
    split
    · exact ⟨range, fun _ => rfl, h.gate⟩
    · exact ⟨range, h.qualify, h.gate⟩
  next => exact ⟨range, h.qualify, h.gate⟩

theorem overrun {r : Slot} (h : r.Sound) : r.overrun.Sound := by
  have range : inRange (-9999) := ⟨by decide, by decide⟩
  unfold Slot.overrun
  dsimp only
  split
  next => exact ⟨range, fun q => absurd rfl q, nofun⟩
  next m => exact ⟨range, fun q => absurd (h.idle (by rw [m]; nofun)) q, nofun⟩
  next => exact ⟨range, h.qualify, nofun⟩
  next => exact ⟨range, h.qualify, nofun⟩

end Slot.Sound

theorem Timing.GeneratorSound.withSlots {t : Timing} (h : t.GeneratorSound) (x : Vector Slot 4) : GeneratorSound { t with slot := x } :=
  ⟨h.noted, h.idle, h.freeRun, h.holdover, h.offset, h.history, h.interval, h.learning⟩

/-- The laws ask nothing of what the timing unit is configured with, nor of a force. -/
theorem Timing.Steady.configured {t : Timing} (h : t.Steady) (c : Vector (Vector Word 3) 4) (d : Vector Word 2) (k : Word)
    (f : Option SlotId) : Steady { t with config := c, sources := d, stationKind := k, forced := f } :=
  ⟨h.slots, h.generator.noted, h.generator.idle, h.generator.freeRun, h.generator.holdover, h.generator.offset, h.generator.history,
    h.generator.interval, h.generator.learning⟩

theorem State.setSlot_steady {s : State} (h : s.timing.Steady) (i : SlotId) {r : Slot} (sound : r.Sound) :
    (s.setSlot i r).timing.Steady where
  slots := fun j => by
    unfold State.setSlot
    rw [put_get]
    split
    · exact sound
    · exact h.slots j
  generator := h.generator.withSlots _

end Sys2Proof.Machine

namespace Sys2Proof.Claims
open Sys2Proof.Machine

/-! ### A step of the timing unit restores its laws (R150 to R157) -/

/-- A slot that a step selects may be selected (R150). -/
theorem Selects.eligible {before : Option SlotId} {t : Timing} {i : SlotId} (h : Selects before t) (selected : t.selected = some i) :
    Eligible before t i := by
  obtain ⟨forced, free⟩ := h
  cases force : t.forced with
  | none => exact ((free force i).mp selected).1
  | some f =>
    obtain ⟨taken, refused⟩ := forced f force
    by_cases eligible : Eligible before t f
    · rw [taken eligible] at selected
      cases selected
      exact eligible
    · rw [refused eligible] at selected
      cases selected

/-- A generator that follows the selection tracks an AVAILABLE slot or bridges a SETTLING one (R155 to R157): a slot newly selected
is AVAILABLE, and one that was selected before and is SETTLING is bridged. -/
theorem Follows.fits {a b : Timing} (follows : Follows a b) (selects : Selects a.selected b) (sound : a.GeneratorSound) : b.Fits := by
  obtain ⟨fresh, tracked, bridged, lost, idle⟩ := follows
  cases chosen : b.selected with
  | none =>
    have quiet : b.gen = .freeRun ∨ b.gen = .holdover := by
      rcases a.gen.idle_or_locking with still | locking
      · rw [(idle chosen still).1]
        exact still
      · obtain ⟨-, -, empty, held⟩ := lost chosen locking
        by_cases last : a.history.tail = []
        · exact .inl (empty last).1
        · exact .inr (held last).1
    exact ⟨fun t => absurd quiet (not_or.mpr ⟨(GenState.tracking_ne t).1, (GenState.tracking_ne t).2.1⟩),
      fun e => by simp [e] at quiet⟩
  | some i =>
    have eligible := selects.eligible chosen
    by_cases new : (a.gen = .freeRun ∨ a.gen = .holdover) ∨ a.selected ≠ some i
    · obtain ⟨gen, -⟩ := fresh i chosen new
      refine ⟨fun _ => ⟨i, chosen, eligible.resolve_right fun ⟨_, before⟩ => ?_⟩, fun e => by simp [gen] at e⟩
      rcases new with still | other
      · rw [sound.idle still] at before
        cases before
      · exact other before
    · obtain ⟨busy, same⟩ := not_or.mp new
      have same := not_not.mp same
      have available (n : b.slot[i].state ≠ .settling) : b.slot[i].state = .available := eligible.resolve_right fun e => n e.1
      by_cases settles : b.slot[i].state = .settling
      · have bridges : b.gen = .bridging := by
          rcases a.gen.idle_or_locking.resolve_left busy with tracks | bridging
          · exact ((tracked i chosen same tracks).1 settles).1
          · exact ((bridged i chosen same bridging).1 settles).1
        exact ⟨fun t => absurd bridges (GenState.tracking_ne t).2.2, fun _ => ⟨i, chosen, settles⟩⟩
      · refine ⟨fun _ => ⟨i, chosen, available settles⟩, fun e => ?_⟩
        rcases a.gen.idle_or_locking.resolve_left busy with tracks | bridging
        · rw [((tracked i chosen same tracks).2 settles).1] at e
          simp [e] at tracks
        · obtain ⟨g, noted, tracking⟩ := sound.noted bridging
          rw [((bridged i chosen same bridging).2 g settles noted).1] at e
          exact absurd e (GenState.tracking_ne tracking).2.2

theorem decideSlots_steady {s : State} (h : s.timing.Steady) : s.decideSlots.timing.Steady where
  slots := fun i => by
    rw [show s.decideSlots.timing.slot[i] = (s.slot i).decide (s.slotEntry i) from Vector.getElem_ofFn i.isLt]
    exact (h.slots i).decide _
  generator := h.generator.withSlots _

theorem reselect_sound {s : State} (h : s.timing.Steady) : s.reselect.timing.Sound := by
  have generator : s.reselect.timing.GeneratorSound := h.generator.follow _ _
  refine Timing.sound_iff.mpr ⟨⟨fun i => ?_, generator⟩, (follows_reselect s).fits (selects_reselect s) h.generator⟩
  rw [show s.reselect.timing.slot = s.timing.slot from (Timing.follow_kept _ _ _).1]
  exact h.slots i

/-- What a step leaves of the timing unit: its slots decided, its selection and its generator. -/
theorem retimeFrom_timing (began s : State) : (State.retimeFrom began s).timing = s.decideSlots.reselect.timing := by
  unfold State.retimeFrom
  simp only [State.timingAlarms_frame, State.timingEvent_frame]

theorem retimeFrom_sound (began : State) {s : State} (h : s.timing.Steady) : (State.retimeFrom began s).timing.Sound := by
  rw [retimeFrom_timing]
  exact reselect_sound (decideSlots_steady h)

end Sys2Proof.Claims

namespace Sys2Proof.Machine
open Sys2Proof.Claims

/-! ## From one state to the next (R145 to R158) -/

/-- `t` follows `s` within a step of the timing unit, without harm to the laws that stand until the slots are decided. -/
def State.StaysSteady (s t : State) : Prop := s.timing.Steady → t.timing.Steady

/-- `t` follows `s` without harm to the laws of the timing unit. -/
def State.KeepsTiming (s t : State) : Prop := s.timing.Sound → t.timing.Sound

namespace State.StaysSteady

theorem refl (s : State) : s.StaysSteady s := id

theorem ite {s t u : State} {c : Prop} [Decidable c] (h : s.StaysSteady t) (k : s.StaysSteady u) :
    s.StaysSteady (if c then t else u) := by
  split <;> assumption

theorem iteSelf {s t : State} {c : Prop} [Decidable c] (h : s.StaysSteady t) : s.StaysSteady (if c then t else s) := h.ite (refl s)

theorem foldl {α : Type} {f : State → α → State} (h : ∀ (s : State) (a : α), s.StaysSteady (f s a)) (l : List α) (s : State) :
    s.StaysSteady (l.foldl f s) := by
  induction l generalizing s with
  | nil => exact id
  | cons a l ih => exact ih _ ∘ h s a

theorem setSlot {s : State} {i : SlotId} {r : Slot} (h : (s.slot i).Sound → r.Sound) : s.StaysSteady (s.setSlot i r) :=
  fun steady => State.setSlot_steady steady i (h (steady.slots i))

/-- The step that ends with the slots decided afresh restores every law. -/
theorem retimed {s u : State} (h : s.StaysSteady u) (began : State) : s.KeepsTiming (State.retimeFrom began u) :=
  fun sound => retimeFrom_sound began (h sound.steady)

end State.StaysSteady

namespace State.KeepsTiming

theorem of_timing {s t : State} (h : t.timing = s.timing) : s.KeepsTiming t := fun sound => h ▸ sound

theorem refl (s : State) : s.KeepsTiming s := id

theorem trans {s t u : State} (h : s.KeepsTiming t) (k : t.KeepsTiming u) : s.KeepsTiming u := k ∘ h

theorem then_timing {s t u : State} (h : s.KeepsTiming t) (k : u.timing = t.timing) : s.KeepsTiming u := h.trans (of_timing k)

theorem after_timing {s t u : State} (k : t.KeepsTiming u) (h : t.timing = s.timing) : s.KeepsTiming u := (of_timing h).trans k

theorem ite {s t u : State} {c : Prop} [Decidable c] (h : s.KeepsTiming t) (k : s.KeepsTiming u) :
    s.KeepsTiming (if c then t else u) := by
  split <;> assumption

theorem iteSelf {s t : State} {c : Prop} [Decidable c] (h : s.KeepsTiming t) : s.KeepsTiming (if c then t else s) := h.ite (refl s)

theorem foldl {α : Type} {f : State → α → State} (h : ∀ (s : State) (a : α), s.KeepsTiming (f s a)) (l : List α) (s : State) :
    s.KeepsTiming (l.foldl f s) := by
  induction l generalizing s with
  | nil => exact id
  | cons a l ih => exact ih _ ∘ h s a

end State.KeepsTiming

/-! ### Sources and SETTLING (R144, R145) -/

theorem State.lineTravels_steady (s : State) (l : LineId) : s.StaysSteady (s.lineTravels l) :=
  .ite (.refl s) (.setSlot fun r => r.settleOn _)

theorem State.lineFaults_steady (s : State) (l : LineId) : s.StaysSteady (s.lineFaults l) :=
  .iteSelf (.setSlot fun r => r.settleEnd s _)

theorem State.takeDecision_steady (s : State) (l : LineId) : s.StaysSteady (s.takeDecision l) := by
  unfold State.takeDecision
  dsimp only
  split
  · exact s.lineTravels_steady l
  · exact s.lineFaults_steady l
  · exact .ite (.setSlot fun r => r.withSource _)
      (.ite (.setSlot fun r => (r.withSource _).settleOn _) (.iteSelf (.setSlot fun r => r.settleEnd s _)))

theorem State.lineReport_steady (s : State) (l : LineId) (e : ElementId) : s.StaysSteady (s.lineReport l e) := by
  unfold State.lineReport
  split
  · exact s.takeDecision_steady l
  · exact s.lineTravels_steady l
  · exact s.lineFaults_steady l
  · exact .refl s

theorem State.startLine_steady (s : State) (l : LineId) : s.StaysSteady (s.startLine l) := by
  have travels (u : State) : u.StaysSteady (if u.selectorTravels l then u.lineTravels l else u) := .iteSelf (u.lineTravels_steady l)
  unfold State.startLine
  split
  · exact travels _ ∘ StaysSteady.setSlot fun r => r.withSource _
  · exact travels s
  · exact travels s

/-! ### Steps of the timing unit (R145 to R151) -/

theorem State.retime_keepsTiming (s : State) : s.KeepsTiming s.retime := (StaysSteady.refl s).retimed s

theorem State.timingReport_keepsTiming (s : State) (e : ElementId) : s.KeepsTiming (s.timingReport e) :=
  (StaysSteady.foldl (fun s l => .iteSelf (s.lineReport_steady l e)) _ s).retimed s

theorem State.timingGroupChange_keepsTiming (s : State) (g : GroupId) : s.KeepsTiming (s.timingGroupChange g) :=
  .iteSelf ((StaysSteady.foldl (fun s l => .iteSelf (s.takeDecision_steady l)) _ s).retimed s)

theorem State.timingStart_keepsTiming (s : State) : s.KeepsTiming s.timingStart :=
  (StaysSteady.foldl State.startLine_steady _ s).retimed s

theorem State.setForce_keepsTiming (s : State) (f : Option SlotId) : s.KeepsTiming (s.setForce f) :=
  StaysSteady.retimed (u := { s with timing := { s.timing with forced := f } }) (fun h => h.configured _ _ _ f) s

/-- A gate in progress that the next pulse does not complete (R148). -/
theorem Slot.Sound.gatePulse {r : Slot} (h : r.Sound) (more : r.gateDue = false) (n : Nat) (counted : gatePulse r.gate = some n) :
    n < 1000 := by
  unfold Machine.gatePulse at counted
  split at counted
  · cases counted
    decide
  next k running =>
    cases counted
    have short := h.gate k running
    have other : k ≠ 999 := by
      rintro rfl
      simp [Slot.gateDue, running, Config.gatePulses] at more
    omega

theorem State.takePulse_keepsTiming (s : State) (i : SlotId) : s.KeepsTiming (s.takePulse i) := by
  unfold State.takePulse
  dsimp only
  split
  next taken =>
    have more : (s.slot i).gateDue = false := by
      rw [Bool.and_eq_true, Bool.not_eq_true'] at taken
      exact taken.2
    exact (StaysSteady.setSlot fun r => r.pulse s i (r.gatePulse more)).retimed s
  · exact .refl s

theorem State.lossExpire_keepsTiming (s : State) (i : SlotId) : s.KeepsTiming (s.lossExpire i) := by
  unfold State.lossExpire
  split
  · exact .refl s
  · exact .after_timing ((StaysSteady.setSlot fun r => r.lose).retimed _) rfl

theorem State.qualifyExpire_keepsTiming (s : State) (i : SlotId) : s.KeepsTiming (s.qualifyExpire i) := by
  unfold State.qualifyExpire
  split
  · exact .after_timing ((StaysSteady.setSlot fun r => r.qualified).retimed _) rfl
  · exact .refl s

theorem State.settleExpire_keepsTiming (s : State) (l : LineId) : s.KeepsTiming (s.settleExpire l) := by
  unfold State.settleExpire
  dsimp only
  split
  · exact .refl s
  · exact .after_timing ((StaysSteady.setSlot fun r => r.settleEnd _ _).retimed _) rfl

theorem State.abandonGate_keepsTiming (s : State) (i : SlotId) : s.KeepsTiming (s.abandonGate i) :=
  .iteSelf ((StaysSteady.setSlot fun r => r.overrun).retimed s)

theorem inRange_gateOffset (m : Nat) : inRange (gateOffset m) := inRange_clamp _

/-- The 1,000th pulse and the judgement of its gate, which starts the next (R148, R149). -/
theorem State.gateJudged_steady (s : State) (i : SlotId) (m : Nat) :
    s.StaysSteady (s.setSlot i (s.judgeGate i (gateOffset m) (s.pulse i (some 0) (s.slot i)))) :=
  .setSlot fun r => (r.pulse s i fun n e => by cases e; decide).judgeGate s i (inRange_gateOffset m)

theorem State.judgedGate_keepsTiming (s : State) (i : SlotId) (m : Nat) : s.KeepsTiming (s.judgedGate i m) := by
  intro sound
  have selected := reselect_sound (decideSlots_steady (s.gateJudged_steady i m sound.steady))
  unfold State.judgedGate
  simp only [State.timingAlarms_frame, State.timingEvent_frame]
  split
  next steers =>
    simp only [Bool.and_eq_true, State.tracks] at steers
    exact selected.steer steers.1.2.1 (inRange_gateOffset m)
  · exact selected

theorem State.completeGate_keepsTiming (s : State) (i : SlotId) (m : Nat) : s.KeepsTiming (s.completeGate i m) :=
  .iteSelf (.ite (s.judgedGate_keepsTiming i m) (s.abandonGate_keepsTiming i))

/-- A restart leaves the generator where it was at rest or to the loss rule, with every slot at rest (R161). -/
theorem Timing.Sound.restart {t : Timing} (h : t.Sound) : t.restart.Sound := by
  have slots (i : SlotId) : t.restart.slot[i].Sound := by
    have fresh : t.restart.slot[i] = Timing.reset.slot[i] := rfl
    rw [fresh]
    exact Timing.reset_sound.steady.slots i
  have rests : (t.restart.gen = .freeRun ∧ t.restart.offset = 0)
      ∨ (t.restart.gen = .holdover ∧ t.restart.history ≠ [] ∧ t.restart.offset = meanToZero t.restart.history) := by
    by_cases quiet : t.gen = .freeRun ∨ t.gen = .holdover
    · obtain ⟨gen, offset, history⟩ := Timing.restart_quiet quiet
      rw [gen, offset, history]
      exact quiet.imp (fun f => ⟨f, h.freeRun f⟩) fun e => ⟨e, h.holdover e⟩
    · obtain ⟨history, emptied, held⟩ := Timing.restart_loss (not_or.mp quiet)
      rw [history]
      by_cases last : t.history.tail = []
      · exact .inl (emptied last)
      · exact .inr ⟨(held last).1, last, (held last).2⟩
  have history : t.restart.history.length ≤ 4 ∧ ∀ v ∈ t.restart.history, inRange v := by
    by_cases quiet : t.gen = .freeRun ∨ t.gen = .holdover
    · exact (Timing.restart_quiet quiet).2.2 ▸ h.history
    · exact (Timing.restart_loss (not_or.mp quiet)).1 ▸ h.steady.generator.tail_history
  have idle : t.restart.gen = .freeRun ∨ t.restart.gen = .holdover := rests.imp And.left And.left
  exact Timing.sound_iff.mpr ⟨⟨slots, .of_idle rfl ⟨rfl, rfl⟩ history rests⟩,
    fun b => absurd idle (not_or.mpr ⟨(GenState.tracking_ne b).1, (GenState.tracking_ne b).2.1⟩), fun b => by simp [b] at idle⟩

end Sys2Proof.Machine

namespace Sys2Proof.Machine

/-! ## Every command keeps the laws of the timing unit (R145 to R161) -/

/-! ### The protection controller and the switch driver: steps of the timing unit by their reports (R77, R121) -/

theorem State.reportSelector_keepsTiming (before s : State) (g : GroupId) : s.KeepsTiming (State.reportSelector before s g) := by
  unfold State.reportSelector
  split
  · exact .iteSelf (s.timingReport_keepsTiming _)
  · exact .refl s

theorem State.groupUpdate_keepsTiming (s : State) (first : Bool) (g : GroupId) : s.KeepsTiming (s.groupUpdate first g) :=
  .after_timing (State.reportSelector_keepsTiming s _ g) (by simp only [State.takeOwnReport_frame, State.takeUpdate_frame])

theorem State.updateGroup_keepsTiming (s : State) (g : GroupId) : s.KeepsTiming (s.updateGroup g) := s.groupUpdate_keepsTiming false g

/-- An update of a group whose input left the timing unit. -/
theorem State.KeepsTiming.update {s u : State} (g : GroupId) (h : u.timing = s.timing) : s.KeepsTiming (u.updateGroup g) :=
  (u.updateGroup_keepsTiming g).after_timing h

theorem State.takeReport_keepsTiming (s : State) (e : ElementId) : s.KeepsTiming (s.takeReport e) := by
  unfold State.takeReport
  dsimp only
  refine .trans ?_ (State.timingReport_keepsTiming _ e)
  split
  next g _ => exact .update g (by simp only [State.noteReport_frame])
  · exact .refl s

theorem State.takeReportIf_keepsTiming (before s : State) (e : ElementId) : s.KeepsTiming (State.takeReportIf before s e) :=
  .iteSelf (s.takeReport_keepsTiming e)

theorem State.senseChange_keepsTiming (s : State) (e : ElementId) (v : Option Position) : s.KeepsTiming (s.senseChange e v) := by
  unfold State.senseChange
  exact .ite (.refl s) (.ite (.after_timing (t := s.setElement e _) (State.takeReportIf_keepsTiming _ _ e) rfl) (.of_timing rfl))

theorem State.travelExpire_keepsTiming (s : State) (e : ElementId) : s.KeepsTiming (s.travelExpire e) := by
  unfold State.travelExpire
  split
  · exact .refl s
  · exact .after_timing (t := (s.passTo _).setElement e _) (State.takeReportIf_keepsTiming _ _ e) rfl

theorem State.judgeCandidate_keepsTiming (s : State) (g : GroupId) (w : Word) : s.KeepsTiming (s.judgeCandidate g w) := by
  unfold State.judgeCandidate
  refine .ite (.ite (.iteSelf (.update g rfl)) (.update g ?_)) (.ite (.refl s) (.update g rfl))
  split
  · simp only [State.cancelManual_frame, State.setGroup_frame]
  · rfl

theorem State.takeBridgeWord_keepsTiming (s : State) (p : Port) (w : Word) : s.KeepsTiming (s.takeBridgeWord p w) := by
  unfold State.takeBridgeWord
  split
  · exact .refl s
  · exact .ite (.refl s) (.after_timing (t := s.setGroup _ _) (.iteSelf (State.judgeCandidate_keepsTiming _ _ w)) rfl)

theorem State.holdOffExpire_keepsTiming (s : State) (g : GroupId) (k : ChannelIx) : s.KeepsTiming (s.holdOffExpire g k) := by
  unfold State.holdOffExpire
  split
  · exact .refl s
  · exact .update g rfl

theorem State.restoreWaitExpire_keepsTiming (s : State) (g : GroupId) : s.KeepsTiming (s.restoreWaitExpire g) := by
  unfold State.restoreWaitExpire
  split
  · exact .refl s
  · exact .update g rfl

theorem State.confirmationExpire_keepsTiming (s : State) (g : GroupId) : s.KeepsTiming (s.confirmationExpire g) := by
  unfold State.confirmationExpire
  split
  · exact .refl s
  · exact .update g rfl

theorem State.storeCommand_keepsTiming (s : State) (c : StoredKind) (o n : Nat) : s.KeepsTiming (s.storeCommand c o n).1 := by
  unfold State.storeCommand
  split
  · dsimp only
    split
    · exact .refl s
    · exact .update _ rfl
  · exact .refl s

theorem State.clearGroup_keepsTiming (s : State) (o n : Nat) : s.KeepsTiming (s.clearGroup o n).1 := by
  unfold State.clearGroup
  split
  · dsimp only
    split
    · exact .update _ rfl
    · exact .refl s
  · exact .refl s

theorem State.reconfigured_timing (s : State) (g : GroupId) (old : Vector Word 8) : (s.reconfigured g old).timing = s.timing := by
  unfold State.reconfigured
  simp only [State.endTransmit_frame, ite_timing, State.handElements_frame, State.setGroup_frame, ite_self]

theorem State.groupChanged_keepsTiming (s : State) (g : GroupId) (old : Vector Word 8) : s.KeepsTiming (s.groupChanged g old) := by
  have updated : s.KeepsTiming ((s.reconfigured g old).updateGroup g) := .update g (s.reconfigured_timing g old)
  rw [s.groupChanged_eq]
  exact .ite (updated.trans (State.timingGroupChange_keepsTiming _ g)) updated

/-! ### The port supervisor and the scan controller -/

theorem State.handOver_keepsTiming (old s : State) (w : Option (Port × Word)) : s.KeepsTiming (State.handOver old s w) := by
  have groups : s.KeepsTiming ((List.finRange 12).foldl (fun t g => if State.memberChanged old s g then t.updateGroup g else t) s) :=
    .foldl (fun t g => .iteSelf (t.updateGroup_keepsTiming g)) _ s
  have points (t : State) :
      t.KeepsTiming ((List.finRange 24).foldl (fun t p => if State.portChanged old s p then t.portPoints p else t) t.retime) :=
    t.retime_keepsTiming.trans (.foldl (fun t p => .iteSelf (.of_timing (by simp only [State.portPoints_frame]))) _ _)
  unfold State.handOver
  cases w with
  | none => exact groups.trans (points _)
  | some w => exact (groups.trans (State.takeBridgeWord_keepsTiming _ _ _)).trans (points _)

theorem State.takeResult_keepsTiming (s : State) (p : Port) (a : Option Answer) : s.KeepsTiming (s.takeResult p a) :=
  .ite (.refl s) (.after_timing (State.handOver_keepsTiming s _ _) (by rfl))

theorem State.drain_keepsTiming (s : State) (l : List ProcessedRound) : s.KeepsTiming (s.drain l) := by
  induction l generalizing s with
  | nil => exact .of_timing rfl
  | cons r rest ih =>
    have evaluated : s.KeepsTiming (s.firstEvaluations r.number) := .foldl (fun s g => .iteSelf (s.groupUpdate_keepsTiming true g)) _ s
    have ended : s.KeepsTiming (s.roundEnd r.number) :=
      .ite (evaluated.then_timing (by simp only [State.enterFollow_frame])) evaluated
    exact .ite (ended.trans (ih _)) (.of_timing rfl)

theorem State.portUpdate_keepsTiming (s : State) : s.KeepsTiming s.portUpdate := by
  unfold State.portUpdate
  split
  · exact .refl s
  · split
    · exact s.drain_keepsTiming _
    · exact (s.takeResult_keepsTiming _ _).trans (State.drain_keepsTiming _ _)

theorem State.changeMaintenance_keepsTiming (s : State) (p : Port) (v : Bool) : s.KeepsTiming (s.changeMaintenance p v) :=
  .after_timing (State.handOver_keepsTiming s _ none) (by simp only [State.judgeRelays_frame])

theorem State.maint_keepsTiming (s : State) (o : Nat) : s.KeepsTiming (s.maint o).1 := by
  unfold State.maint
  dsimp only
  (repeat' split)
  case isTrue.isFalse.isFalse.isFalse => exact s.changeMaintenance_keepsTiming _ _
  all_goals exact .refl s

theorem State.release_keepsTiming (s : State) (o : Nat) : s.KeepsTiming (s.release o).1 := by
  unfold State.release
  dsimp only
  (repeat' split)
  case isTrue.isTrue => exact s.changeMaintenance_keepsTiming _ _
  all_goals exact .refl s

theorem State.endSlot_keepsTiming (s : State) : s.KeepsTiming s.endSlot := by
  unfold State.endSlot
  split
  · exact .refl s
  next r _ =>
    split
    · exact .refl s
    · split
      · exact .of_timing rfl
      · have classified := (s.classified_frame (faulted r.gather) (nextRun (faulted r.gather) s.scan.faultedRun)).2.2.2.1
        by_cases held : faulted r.gather = true ∧ nextRun (faulted r.gather) s.scan.faultedRun ≤ 25
        · rw [State.classifyRound_held rfl rfl held]
          exact .of_timing classified
        · rw [State.classifyRound_processed rfl rfl held]
          exact .after_timing (State.drain_keepsTiming _ _) classified

/-! ### The owner of a watched word, and the command unit -/

/-- What follows from a changed held value: the timing unit's own words end a step of it. -/
theorem State.changed_keepsTiming (old s : State) (w : Watched) : s.KeepsTiming (State.changed old s w) := by
  cases w with
  | port p j => exact .after_timing (State.handOver_keepsTiming old _ none) (by rfl)
  | group g j => exact s.groupChanged_keepsTiming g _
  | slot i j => exact (StaysSteady.refl s).retimed old
  | source l => exact (StaysSteady.iteSelf (s.takeDecision_steady l)).retimed old
  | _ => exact .of_timing (by simp only [State.changed, State.judgeRelays_frame])

/-- The laws ask nothing of the held values of the timing table. -/
theorem State.setHeld_keepsTiming (s : State) (w : Watched) (v : Word) : s.KeepsTiming (s.setHeld w v) := by
  have configured (c : Vector (Vector Word 3) 4) (d : Vector Word 2) (k : Word) (h : s.timing.Sound) :
      Timing.Sound { s.timing with config := c, sources := d, stationKind := k } :=
    Timing.sound_iff.mpr ⟨h.steady.configured c d k s.timing.forced, h.tracking, fun b => (h.bridging b).1⟩
  cases w with
  | slot i j => exact configured _ _ _
  | source l => exact configured _ _ _
  | stationKind => exact configured _ _ _
  | _ => exact .of_timing rfl

theorem State.take_keepsTiming (s : State) (w : Watched) (v : Word) (x : Verdict) : s.KeepsTiming (s.take w v x) := by
  have taken : s.KeepsTiming (s.takeHeld w v) := .ite (.refl s) ((s.setHeld_keepsTiming w v).trans (State.changed_keepsTiming s _ w))
  exact taken.then_timing (by simp only [State.take, State.provision_frame])

theorem State.handToOwner_keepsTiming (s : State) (c : Command) (o n : Nat) : s.KeepsTiming (s.handToOwner c o n).1 := by
  have force (f : Option SlotId) := s.setForce_keepsTiming f
  cases c with
  | bar | force | manual => exact s.storeCommand_keepsTiming _ o n
  | clear => exact s.clearGroup_keepsTiming o n
  | maint => exact s.maint_keepsTiming o
  | release => exact s.release_keepsTiming o
  | clearRef => exact force none
  | forceRef =>
    change s.KeepsTiming (s.forceRef o).1
    unfold State.forceRef
    (repeat' split)
    case isTrue.isFalse => exact force _
    all_goals exact .refl s
  | _ => exact .of_timing (by simp only [State.handToOwner, State.resume_frame, State.cutOff_frame])

theorem State.executeWord_keepsTiming (s : State) (c : Command) (w : Word) : s.KeepsTiming (s.executeWord c w) :=
  (s.handToOwner_keepsTiming c (commandObject w) (commandChannel w)).then_timing
    (by simp only [State.executeWord, State.recordWord_frame])

theorem State.commandWrite_keepsTiming (s : State) (w : Word) : s.KeepsTiming (s.commandWrite w) := by
  unfold State.commandWrite State.newCommand
  split
  · split
    · exact .of_timing (by simp only [State.recordResult_frame])
    · split
      · exact .of_timing rfl
      · exact s.executeWord_keepsTiming _ w
  · exact .of_timing (by simp only [State.block_frame])
  · exact .refl s
  · exact .of_timing (by simp only [State.recordWord_frame])

theorem State.confirmed_keepsTiming (s : State) (w : Word) : s.KeepsTiming (s.confirmed w) := by
  unfold State.confirmed
  split
  · exact .of_timing rfl
  · exact .after_timing (State.executeWord_keepsTiming _ _ w) (by simp only [State.settleMailbox_frame])
  · exact .of_timing rfl

theorem State.confirmWrite_keepsTiming (s : State) (w : Word) : s.KeepsTiming (s.confirmWrite w) := by
  unfold State.confirmWrite
  split
  · exact .of_timing (by simp only [State.recordWord_frame])
  · split
    · exact s.confirmed_keepsTiming w
    · exact .of_timing (by simp only [State.block_frame])
  · exact .refl s
  · exact .of_timing (by simp only [State.recordWord_frame])

/-- A restart begins with the timing unit as the confirm found it (R161). -/
theorem State.confirmCycle_keepsTiming (s : State) (w : Word) : s.KeepsTiming (s.confirmCycle w) := by
  have confirmed := s.confirmWrite_keepsTiming w
  unfold State.confirmCycle
  exact .ite (confirmed.trans fun h => h.restart) confirmed

theorem State.triggered_keepsTiming (s : State) (t : Trigger) (l : Lanes) (d : Word) : s.KeepsTiming (s.triggered t l d) := by
  unfold State.triggered
  split
  · exact .refl s
  · exact s.commandWrite_keepsTiming d
  · exact s.confirmCycle_keepsTiming d
  · exact .of_timing (by simp only [State.mailboxByte_frame])
  · exact .of_timing (by simp only [State.mailboxByte_frame])

/-! ### The memory path -/

theorem State.watchedWrite_keepsTiming (s : State) (w : Watched) (l : Lanes) (d : Word) : s.KeepsTiming (s.watchedWrite w l d) := by
  rw [s.watchedWrite_eq]
  exact .after_timing (t := s.memWrite _ _ _) (State.take_keepsTiming _ w _ _) rfl

theorem State.serveRunning_keepsTiming (s : State) (c : Cycle) : s.KeepsTiming (s.serveRunning c) := by
  have passed : s.KeepsTiming (s.passCycle c) := .of_timing (by simp only [State.passCycle_frame])
  unfold State.serveRunning
  split
  · exact passed
  · exact .ite (s.watchedWrite_keepsTiming _ _ _) passed
  · exact .ite (passed.trans (State.triggered_keepsTiming _ _ _ _)) passed
  · exact .ite (.of_timing (by simp only [State.writeLive_frame])) (.of_timing (by simp only [State.readLive_frame]))
  · exact .ite (.refl s) (.of_timing (by simp only [State.readChange_frame]))

theorem State.processorCycle_keepsTiming (s : State) (c : Cycle) : s.KeepsTiming (s.processorCycle c) := by
  unfold State.processorCycle
  split
  · exact s.serveRunning_keepsTiming c
  · exact .of_timing (by simp only [State.serveStandby_frame])
  · exact .of_timing rfl
  · exact .of_timing rfl

theorem State.serve_keepsTiming (s : State) (c : Cycle) : s.KeepsTiming (s.serve c) :=
  .ite (.of_timing rfl) (s.processorCycle_keepsTiming c)

theorem State.processor_keepsTiming (s : State) (c : Cycle) : s.KeepsTiming (s.processor c) := by
  have served := s.processorCycle_keepsTiming c
  exact .ite (.ite (served.then_timing rfl) (.of_timing rfl)) (served.then_timing (by simp only [State.eventDone_frame]))

theorem State.beginRunning_keepsTiming (s : State) : s.KeepsTiming s.beginRunning := by
  have started : s.groupsAdopted.timing = s.timing := by
    rw [s.groupsAdopted_eq, foldl_timing _ _ _ (fun s g => by simp only [State.adoptGroup_frame])]
    simp only [State.elementsAdopted, State.adoptElements_frame, State.setPoint_frame]
  rw [s.beginRunning_eq]
  exact .then_timing (.after_timing (State.timingStart_keepsTiming _) started)
    (by simp only [State.completeRestart_frame, State.startRing_frame, State.beginRound_frame])

theorem State.loaderNext_keepsTiming (s : State) : s.KeepsTiming s.loaderNext := by
  rcases s.loaderNext_cases with ⟨-, e⟩ | ⟨-, e⟩ <;> rw [e]
  · exact .after_timing (State.beginRunning_keepsTiming _) rfl
  · exact .of_timing rfl

theorem State.loadWord_keepsTiming (s : State) : s.KeepsTiming s.loadWord := by
  by_cases op : s.path.op = .loading
  · rcases s.loadWord_cases op with ⟨e, -⟩ | ⟨w, v, -, -, -, ⟨-, e⟩ | ⟨-, e⟩⟩ <;> rw [e]
    · exact .refl s
    · exact (s.take_keepsTiming w v _).trans (State.loaderNext_keepsTiming _)
    · exact .of_timing rfl
  · rw [State.loadWord_idle op]
    exact .refl s

theorem State.writeBackWord_keepsTiming (s : State) : s.KeepsTiming s.writeBackWord := by
  by_cases op : s.path.op = .loading
  · rcases s.writeBackWord_cases op with ⟨-, e⟩ | ⟨b, -, e⟩ <;> rw [e]
    · exact .refl s
    · exact .after_timing (t := s.memWrite _ _ _) ((State.take_keepsTiming _ _ _ _).trans (State.loaderNext_keepsTiming _)) rfl
  · rw [State.writeBackWord_idle op]
    exact .refl s

theorem State.endStartCheck_timing (s : State) : s.endStartCheck.timing = s.timing := by
  unfold State.endStartCheck
  dsimp only
  (repeat' split) <;> simp only [State.enterLoading_frame, State.enterStandby, State.setPoint_frame, State.enterAllAlarm_frame,
    State.handRingFormat_frame]

theorem State.readBack_timing (s : State) : s.readBack.timing = s.timing := by
  unfold State.readBack
  dsimp only
  (repeat' split) <;> simp only [State.enterLoading_frame]

/-! ### Every command -/

/-- A master cycle's command keeps the laws if its effect does: so do the held cycles that meet the free port. -/
theorem State.KeepsTiming.finishMaster {s u t : State} {due : Bool} (h : s.KeepsTiming u) (e : u.finishMaster due = .next t) :
    s.KeepsTiming t := by
  have held : u.KeepsTiming u.serveHeld :=
    State.serveHeld_keeps (I := fun s => s.timing.Sound) (fun _ _ h => h) State.serve_keepsTiming u
  cases e
  exact .ite ((h.trans held).then_timing rfl) (h.then_timing (by simp only [State.eventDone_frame]))

theorem State.KeepsTiming.finish {s u t : State} (h : s.KeepsTiming u) (e : u.finish = .next t) : s.KeepsTiming t := by
  cases e
  exact h.then_timing (by simp only [State.eventDone_frame])

theorem exec_keepsTiming {c : Instr} {s t : State} (h : exec c s = .next t) : s.KeepsTiming t := by
  cases hy : cycleOf c with
  | some y =>
    rw [exec_of_cycleOf hy] at h
    cases h
    exact s.processor_keepsTiming y
  | none =>
    cases c with
    | powerOn x => cases h; exact fun _ => Timing.reset_sound
    | startCheck => exact .finishMaster (.of_timing s.endStartCheck_timing) h
    | loaderRead => exact s.loadWord_keepsTiming.finishMaster h
    | loaderWriteBack => exact s.writeBackWord_keepsTiming.finishMaster h
    | imageReadyReadBack => exact .finishMaster (.of_timing s.readBack_timing) h
    | descriptorWord0Read => exact .finishMaster (.of_timing (by simp only [State.readWord0_frame])) h
    | descriptorWordWrite => exact .finishMaster (.of_timing (by simp only [State.writeWord_frame])) h
    | descriptorWord0Write => exact .finishMaster (.of_timing (by simp only [State.writeWord0_frame])) h
    | portSlotEnd => exact s.endSlot_keepsTiming.finish h
    | portUpdate => exact s.portUpdate_keepsTiming.finish h
    | holdOffExpiry g k => exact (s.holdOffExpire_keepsTiming g k).finish h
    | restoreWaitExpiry g => exact (s.restoreWaitExpire_keepsTiming g).finish h
    | confirmationTimerExpiry g => exact (s.confirmationExpire_keepsTiming g).finish h
    | senseChange e x => exact (s.senseChange_keepsTiming e _).finish h
    | travelTimerExpiry e => exact (s.travelExpire_keepsTiming e).finish h
    | settleTimerExpiry l => exact (s.settleExpire_keepsTiming l).finish h
    | slotPulse i => exact (s.takePulse_keepsTiming i).finish h
    | lossWindowExpiry i => exact (s.lossExpire_keepsTiming i).finish h
    | gateComplete i n => exact (s.completeGate_keepsTiming i n).finish h
    | gateOverrun i => exact (s.abandonGate_keepsTiming i).finish h
    | qualifyTimerExpiry i => exact (s.qualifyExpire_keepsTiming i).finish h
    | confirmWindowExpiry => exact .finish (.of_timing (by simp only [State.windowExpire_frame])) h
    | shelfTimeAdvance => exact .finish (.of_timing (by simp only [State.advanceShelfTime_frame])) h
    | scanRoundStart => exact .finish (.of_timing (by simp only [State.startRound_frame])) h
    | portSlotStart => exact .finish (.of_timing (by simp only [State.startSlot_frame])) h
    | moduleAnswer k a => exact .finish (.of_timing (by simp only [State.takeAnswer_frame])) h
    | acoInput => exact .finish (.of_timing (by simp only [State.cutOff_frame])) h
    | _ => cases hy

end Sys2Proof.Machine

namespace Sys2Proof.Proofs
open Sys2Proof.Machine

/-- Settles O55: a slot's own change keeps the laws that ask nothing of the selection, and the step it belongs to ends with the
slots decided afresh and the generator following the selection, which restores the others. -/
theorem timingKept : Obligations.TimingKept := by
  intro s t sound h
  unfold step at h
  split at h
  · cases h
    exact sound
  next c rest _ => exact exec_keepsTiming h sound

end Sys2Proof.Proofs

namespace Sys2Proof.Machine

/-! ## The events of a step of the timing unit (R151, R159) -/

/-- `t` follows `s` by ALARM events alone, as long as none was lost. -/
def State.AddsAlarms (s t : State) : Prop := t.poster.overflow = false → s.poster.overflow = false
  ∧ ∃ l : List Event, (∀ e ∈ l, ∃ k v c m, e.detail = .alarm k v c m) ∧ t.poster.queue = s.poster.queue ++ l

namespace State.AddsAlarms

theorem of_poster {s t : State} (h : t.poster = s.poster) : s.AddsAlarms t := by
  unfold State.AddsAlarms
  rw [h]
  exact fun room => ⟨room, [], nofun, (List.append_nil _).symm⟩

theorem trans {s t u : State} (h : s.AddsAlarms t) (k : t.AddsAlarms u) : s.AddsAlarms u := fun room => by
  obtain ⟨room, l, later, queue⟩ := k room
  obtain ⟨room, l', first, queue'⟩ := h room
  refine ⟨room, l' ++ l, fun e mem => (List.mem_append.mp mem).elim (first e) (later e), ?_⟩
  rw [queue, queue', List.append_assoc]

theorem foldl {α : Type} {f : State → α → State} (h : ∀ (s : State) (a : α), s.AddsAlarms (f s a)) (l : List α) (s : State) :
    s.AddsAlarms (l.foldl f s) := by
  induction l generalizing s with
  | nil => exact of_poster rfl
  | cons a l ih => exact (h s a).trans (ih _)

end State.AddsAlarms

theorem State.putEvent_addsAlarms (s : State) (o k : Nat) (v : Bool) (c : Nat) (m : Bool) :
    s.AddsAlarms (s.putEvent o (.alarm k v c m)) := by
  rcases s.putEvent_cases o (.alarm k v c m) with ⟨-, put⟩ | ⟨-, lost⟩
  · rw [put]
    exact fun room => ⟨room, _, fun e mem => ⟨k, v, c, m, by rw [List.mem_singleton.mp mem]⟩, rfl⟩
  · rw [lost]
    exact nofun

theorem State.setPoint_addsAlarms (s : State) (pt : Point) (v : Bool) : s.AddsAlarms (s.setPoint pt v) := by
  unfold State.setPoint
  split
  · exact .of_poster rfl
  · refine .trans ?_ (.of_poster (State.judgeRelays_frame _ _).2.2.2.2.2.2.2.2.2)
    unfold State.reportPoint
    split
    · exact .trans (.of_poster (t := s.latchPoint pt v) rfl) (State.putEvent_addsAlarms _ _ _ _ _ _)
    · exact .of_poster rfl

theorem State.timingAlarms_addsAlarms (s : State) : s.AddsAlarms s.timingAlarms :=
  (AddsAlarms.foldl (fun s _ => .foldl (fun s _ => s.setPoint_addsAlarms _ _) _ s) _ s).trans
    (.foldl (fun s _ => s.setPoint_addsAlarms _ _) _ _)

/-! ## A slot's record through a decision of its state (R146) -/

theorem Slot.decide_lastOffset (r : Slot) (e : SlotEntry) : (r.decide e).lastOffset = r.lastOffset := by
  cases e <;> rfl

theorem Slot.decide_source (r : Slot) (e : SlotEntry) : (r.decide e).source = r.source := by
  cases e <;> rfl

/-- Only a DISABLED slot loses its gate, its SETTLING and its windows to the decision of its state. -/
theorem Slot.decide_kept (r : Slot) {e : SlotEntry} (on : e ≠ .disabled) : (r.decide e).gate = r.gate ∧ (r.decide e).loss = r.loss
    ∧ (r.decide e).settling = r.settling ∧ (r.decide e).settle = r.settle := by
  cases e with
  | disabled => exact absurd rfl on
  | _ => exact ⟨rfl, rfl, rfl, rfl⟩

theorem Slot.decide_qualify {r : Slot} (idle : r.qualify = none) (e : SlotEntry) : (r.decide e).qualify = none := by
  cases e with
  | settling => exact idle
  | measured => exact idle
  | _ => rfl

theorem Slot.decide_loss {r : Slot} (idle : r.loss = none) (e : SlotEntry) : (r.decide e).loss = none := by
  cases e with
  | disabled => rfl
  | _ => exact idle

theorem Slot.decide_gate {r : Slot} (idle : r.gate = none) (e : SlotEntry) : (r.decide e).gate = none := by
  cases e with
  | disabled => rfl
  | _ => exact idle

/-- The decision of a slot's state starts no SETTLING and no settle timer. -/
theorem Slot.decide_settled {r : Slot} (still : r.settling = false) (idle : r.settle = none) (e : SlotEntry) :
    (r.decide e).settling = false ∧ (r.decide e).settle = none := by
  cases e with
  | disabled => exact ⟨rfl, rfl⟩
  | _ => exact ⟨still, idle⟩

theorem Measured.shown_ne_settling (m : Measured) : m.shown ≠ .settling := by
  cases m <;> nofun

theorem Slot.decide_state_ne_settling (r : Slot) {e : SlotEntry} (still : e ≠ .settling) : (r.decide e).state ≠ .settling := by
  cases e with
  | settling => exact absurd rfl still
  | measured => exact r.measured.shown_ne_settling
  | _ => nofun

theorem State.slotEntry_disabled_iff {s : State} {i : SlotId} : s.slotEntry i = .disabled ↔ s.slotDisabled i = true := by
  refine ⟨fun entry => by_contra fun on => ?_, fun off => if_pos off⟩
  unfold State.slotEntry State.lineEntry at entry
  rw [if_neg on] at entry
  dsimp only at entry
  (repeat' split at entry) <;> cases entry

/-- Only a SETTLING slot shows it. -/
theorem State.slotEntry_ne_settling {s : State} {i : SlotId} (still : (s.slot i).settling = false) : s.slotEntry i ≠ .settling := by
  intro entry
  unfold State.slotEntry at entry
  split at entry
  · cases entry
  split at entry
  · cases entry
  split at entry
  · cases entry
  next l line =>
    have at_ : lineSlot l = i := by
      unfold lineOf at line
      split at line
      next two =>
        cases line
        exact Fin.ext (Nat.sub_add_cancel two)
      · cases line
    unfold State.lineEntry at entry
    rw [at_] at entry
    dsimp only at entry
    rw [if_neg (Bool.eq_false_iff.mp still)] at entry
    (repeat' split at entry) <;> cases entry

/-- An enabled station slot in RUNNING shows its measured state. -/
theorem State.slotEntry_station {s : State} {i : SlotId} (on : ¬ s.slotDisabled i = true) (op : s.path.op = .running)
    (station : i.val < 2) : s.slotEntry i = .measured := by
  unfold State.slotEntry
  rw [if_neg on, if_neg (not_not.mpr op), Claims.lineOf_eq_none station]

/-- No source condition disqualifies a station slot. -/
theorem State.slotEntry_station_ne {s : State} {i : SlotId} (station : i.val < 2) : s.slotEntry i ≠ .disqualified := by
  unfold State.slotEntry
  rw [Claims.lineOf_eq_none station]
  split
  · nofun
  · split <;> nofun

theorem Slot.decide_lost {r : Slot} (lost : r.measured = .lost) {e : SlotEntry} (fit : e ≠ .disqualified) :
    (r.decide e).measured = .lost := by
  cases e with
  | disqualified => exact absurd rfl fit
  | settling => exact lost
  | measured => exact lost
  | _ => rfl

/-! ## A change of slot records alone -/

/-- `t` is `s` with other records of the timing unit's slots. -/
def State.Reslotted (s t : State) : Prop := ∃ w : Vector Slot 4, t = { s with timing := { s.timing with slot := w } }

namespace State.Reslotted

theorem trans {s t u : State} (h : s.Reslotted t) (k : t.Reslotted u) : s.Reslotted u := by
  obtain ⟨_, rfl⟩ := h
  obtain ⟨w, rfl⟩ := k
  exact ⟨w, rfl⟩

end State.Reslotted

theorem State.setSlot_reslotted (s : State) (i : SlotId) (r : Slot) : s.Reslotted (s.setSlot i r) := ⟨_, rfl⟩

theorem State.slot_setSlot (s : State) (i : SlotId) (r : Slot) : (s.setSlot i r).slot i = r := put_same _ _ _

theorem State.slot_setSlot_other (s : State) {i j : SlotId} (other : j ≠ i) (r : Slot) : (s.setSlot i r).slot j = s.slot j :=
  put_other _ _ _ _ other.symm

theorem State.setSlot_self (s : State) (i : SlotId) : s.setSlot i (s.slot i) = s := by
  simp [State.setSlot, State.slot, put]

end Sys2Proof.Machine

namespace Sys2Proof.Claims
open Sys2Proof.Machine

/-! ## A step of the timing unit (R146, R150, R151, R155 to R157, R159) -/

/-- Each slot's record is decided by R146's entry for it. -/
theorem retimeFrom_slot (began s : State) (i : SlotId) :
    (State.retimeFrom began s).timing.slot[i] = (s.slot i).decide (s.slotEntry i) := by
  obtain ⟨slot, -, -⟩ := Timing.follow_kept s.decideSlots.timing s.decideSlots.selection
    (s.decideSlots.selection.any fun i => (s.decideSlots.slot i).state = .settling)
  rw [retimeFrom_timing]
  exact (congrArg (·[i]) slot).trans (Vector.getElem_ofFn _)

theorem retimeFrom_decided (began s : State) (i : SlotId) :
    StateDecided s i s.timing.slot[i] (State.retimeFrom began s).timing.slot[i] := by
  rw [retimeFrom_slot]
  exact stateDecided_decide s i

theorem retimeFrom_selects (began s : State) : Selects s.timing.selected (State.retimeFrom began s).timing := by
  rw [retimeFrom_timing]
  exact selects_reselect s.decideSlots

theorem retimeFrom_follows (began s : State) : Follows s.timing (State.retimeFrom began s).timing := by
  rw [retimeFrom_timing]
  exact follows_reselect s.decideSlots

theorem retimeFrom_points (began s : State) : TimingPoints (State.retimeFrom began s) := timingPoints_timingAlarms _

theorem retimeFrom_table (began s : State) : (State.retimeFrom began s).timing.table = s.timing.table := by
  rw [retimeFrom_timing]
  exact Timing.follow_table _ _ _

/-- The TIMING event where the generator's state or the selection changed, and ALARM events after it. -/
theorem timingReported_timingAlarms (began u : State) :
    TimingReported began (State.timingEvent began u).timingAlarms u.poster.queue u.poster.shelfTime := by
  intro room
  obtain ⟨room, l, alarms, queue⟩ := (State.timingEvent began u).timingAlarms_addsAlarms room
  refine ⟨l, alarms, ?_⟩
  rw [queue]
  simp only [State.timingAlarms_frame, State.timingEvent_frame]
  congr 1
  unfold State.timingEvent at room ⊢
  split
  · exact (List.append_nil _).symm
  next changed =>
    rw [if_neg changed] at room
    rcases u.putEvent_cases 0 (.timing u.timing.gen u.timing.selected) with ⟨-, put⟩ | ⟨-, lost⟩
    · rw [put]
    · rw [lost] at room
      cases room

theorem retimeFrom_reported (began s : State) :
    TimingReported began (State.retimeFrom began s) s.poster.queue s.poster.shelfTime :=
  timingReported_timingAlarms began s.decideSlots.reselect

/-- What a step leaves of the slot whose record was brought to it, and of every slot's last offset but that one's (R146, R148). -/
theorem Regranted.retimed {began s t : State} {i : SlotId} {r : Slot}
    (served : Regranted (State.retimeFrom began (s.setSlot i r)) t) :
    t.timing.slot[i] = r.decide ((s.setSlot i r).slotEntry i)
    ∧ ∀ j : SlotId, j ≠ i ∨ r.lastOffset = s.timing.slot[i].lastOffset →
        t.timing.slot[j].lastOffset = s.timing.slot[j].lastOffset := by
  obtain ⟨_, rfl⟩ := served
  have slot := retimeFrom_slot began (s.setSlot i r)
  refine ⟨by rw [slot, State.slot_setSlot], fun j same => ?_⟩
  rw [slot, Slot.decide_lastOffset]
  by_cases own : j = i
  · subst own
    rw [State.slot_setSlot]
    exact same.resolve_left (not_not.mpr rfl)
  · rw [State.slot_setSlot_other _ own]
    rfl

/-- A station slot in RUNNING shows the measured state of the record brought to it. -/
theorem Regranted.retimed_station {began s t : State} {i : SlotId} {r : Slot}
    (served : Regranted (State.retimeFrom began (s.setSlot i r)) t) (on : slotPriority s.timing.config[i] ≠ 0)
    (op : s.path.op = .running) (station : i.val < 2) : t.timing.slot[i] = { r with state := r.measured.shown } := by
  rw [served.retimed.1, State.slotEntry_station (s := s.setSlot i r) (mt decide_eq_true_iff.mp on) op station]
  rfl

end Sys2Proof.Claims

namespace Sys2Proof.Machine

/-! ## The source a line slot's word names (R142, R144) -/

theorem slotQualify_eq (cfg : Vector Word 3) : slotQualify cfg = 8000 * bits cfg[2] 0 6 := by
  unfold slotQualify Config.ms
  omega

theorem lineSource_none {w : Word} (kind : w.toNat % 4 = 0) : lineSource w = .none := by
  unfold lineSource
  rw [Claims.bits_kind, kind]
  rfl

theorem lineSource_port {w : Word} (kind : w.toNat % 4 = 2) {p : Port} (at_ : w.toNat / 1024 = p.val) :
    lineSource w = .port (some p) := by
  have port : bits w 10 6 = p.val := by
    unfold bits
    omega
  unfold lineSource
  rw [Claims.bits_kind, kind]
  exact congrArg LineSource.port ((dif_pos (by omega)).trans (congrArg some (Fin.ext port)))

theorem lineSource_noPort {w : Word} (kind : w.toNat % 4 = 2) (above : 24 ≤ w.toNat / 1024) : lineSource w = .port none := by
  have port : bits w 10 6 = w.toNat / 1024 := by
    unfold bits
    omega
  unfold lineSource
  rw [Claims.bits_kind, kind]
  exact congrArg LineSource.port (dif_neg (by omega))

theorem lineSource_group {w : Word} (kind : w.toNat % 4 = 1) {g : GroupId} {k : ChannelIx} (group : w.toNat / 32 % 16 = g.val)
    (channel : w.toNat / 4 % 8 = k.val + 1) : lineSource w = .group g k := by
  unfold lineSource
  rw [Claims.bits_kind, kind]
  have group' : bits w 5 4 = g.val := group
  have channel' : bits w 2 3 = k.val + 1 := channel
  refine (dif_pos ⟨by omega, by omega, by omega⟩).trans ?_
  congr 1
  · exact Fin.ext group'
  · exact Fin.ext (by simp [channel'])

end Sys2Proof.Machine

namespace Sys2Proof.Claims
open Sys2Proof.Machine

/-! ## A decision of a line slot's source (R144, R145) -/

theorem report_eq_settled_iff {s : State} {e : ElementId} {p : Position} : s.report e = .settled p ↔ SettledAt s e p :=
  Driver.report_eq_settled_iff

theorem report_eq_travelling_iff {s : State} {e : ElementId} : s.report e = .travelling ↔ ShownAs s e .travelling :=
  Driver.report_eq_travelling_iff

theorem selectorTravels_iff {s : State} {l : LineId} :
    s.selectorTravels l = true ↔ ∃ e, s.sourceSelector l = some e ∧ ShownAs s e .travelling := by
  simp [State.selectorTravels, Option.any_eq_true, report_eq_travelling_iff]

/-- The source port R144 gives is the one the timing unit decides. -/
theorem decideSource_of_sourceIs {s : State} {l : LineId} {p : Option Port} (h : SourceIs s l p) : s.decideSource l = .port p := by
  unfold State.decideSource State.lineSourceOf
  rcases h with ⟨kind, rfl⟩ | ⟨kind, ⟨q, at_, rfl⟩ | ⟨above, rfl⟩⟩ | ⟨g, k, c, kind, group, channel, rfl, source⟩
  · rw [lineSource_none kind]
  · rw [lineSource_port kind at_]
  · rw [lineSource_noPort kind above]
  · rw [lineSource_group kind group channel]
    dsimp only
    unfold State.groupSource
    dsimp only
    rcases source with ⟨without, rfl⟩ | ⟨some_, count, working, settled⟩
    · exact if_pos without
    · rw [if_neg (by rintro (none | short | none); exacts [some_ none, absurd short (by omega), working none])]
      rcases settled with ⟨selector, rfl⟩ | ⟨e, x, selector, at_, through⟩
      · rw [selector]
      · rw [selector]
        dsimp only
        rw [report_eq_settled_iff.mpr at_]
        refine congrArg Decision.port ?_
        rcases through with ⟨paired, first, second, beyond⟩ | ⟨shared, own, other⟩
        · rw [paired]
          unfold settledSource
          dsimp only
          split
          next zero => exact (first zero).symm
          next one =>
            split
            next is => exact (second is).symm
            next more => exact (beyond (by omega)).symm
        · rw [shared]
          unfold settledSource
          dsimp only
          split
          next is => exact (own is).symm
          next away => exact (other away).symm

/-- A decision of the source port changes a slot's record as R145 says. -/
theorem decides_takeDecision {s : State} {l : LineId} {p : Option Port} {off travels : Prop} (decided : s.decideSource l = .port p)
    (isOff : off ↔ s.slotDisabled (lineSlot l) = true) (isTravels : travels ↔ s.selectorTravels l = true) :
    Decides (s.slot (lineSlot l)) ((s.takeDecision l).slot (lineSlot l)) off travels p s.now := by
  unfold State.takeDecision
  rw [decided]
  dsimp only
  split
  next disabled =>
    rw [State.slot_setSlot]
    exact ⟨rfl, fun on => absurd (isOff.mpr disabled) on, fun on => absurd (isOff.mpr disabled) on,
      fun on => absurd (isOff.mpr disabled) on⟩
  split
  next other =>
    rw [State.slot_setSlot]
    exact ⟨rfl, fun _ _ => ⟨rfl, rfl, rfl, rfl, rfl⟩, fun _ same => absurd same other, fun _ same => absurd same other⟩
  next same =>
    have same := (not_not.mp same).symm
    split
    next ends =>
      obtain ⟨-, idle, still⟩ := ends
      rw [State.slot_setSlot]
      exact ⟨same, fun _ other => absurd same.symm other, fun _ _ _ _ => ⟨fun t => absurd (isTravels.mp t) still, fun _ => ⟨rfl, rfl⟩⟩,
        fun _ _ runs => absurd idle runs⟩
    next goesOn =>
      refine ⟨same, fun _ other => absurd same.symm other, fun _ _ settling idle => ⟨fun _ => settling, fun still => ?_⟩,
        fun _ _ _ => ⟨rfl, rfl⟩⟩
      exact absurd ⟨settling, idle, mt isTravels.mpr still⟩ goesOn

/-- The decision of a slot's state that follows leaves what R145 decided. -/
theorem Decides.decide {r x : Slot} {off travels : Prop} {p : Option Port} {now : Nat} (h : Decides r x off travels p now)
    {e : SlotEntry} (isOff : e = .disabled → off) : Decides r (x.decide e) off travels p now := by
  obtain ⟨source, fresh, same, waits⟩ := h
  have kept (on : ¬ off) := x.decide_kept (mt isOff on)
  refine ⟨(x.decide_source e).trans source, fun on other => ?_, fun on is settling idle => ?_, fun on is runs => ?_⟩ <;>
    obtain ⟨gate, loss, settles, settle⟩ := kept on
  · obtain ⟨settling, timer, qualify, window, gated⟩ := fresh on other
    exact ⟨settles.trans settling, settle.trans timer, Slot.decide_qualify qualify e, loss.trans window, gate.trans gated⟩
  · obtain ⟨goesOn, ends⟩ := same on is settling idle
    exact ⟨fun t => settles.trans (goesOn t), fun n => ⟨settles.trans (ends n).1, settle.trans (ends n).2⟩⟩
  · exact ⟨settles.trans (waits on is runs).1, settle.trans (waits on is runs).2⟩

end Sys2Proof.Claims

namespace Sys2Proof.Machine

/-! ## A report taken by the timing unit (R121, R145) -/

/-- A line slot's report touches its own record alone. -/
theorem State.lineReport_eq (s : State) (l : LineId) (e : ElementId) :
    s.lineReport l e = s.setSlot (lineSlot l) ((s.lineReport l e).slot (lineSlot l)) := by
  unfold State.lineReport State.takeDecision State.lineTravels State.lineFaults
  dsimp only
  (repeat' split) <;> simp only [State.slot_setSlot, State.setSlot_self]

/-- What a report brings to a line slot does not depend on another slot's record. -/
theorem State.lineReport_setSlot (s : State) (l : LineId) (e : ElementId) {j : SlotId} (other : lineSlot l ≠ j) (y : Slot) :
    ((s.setSlot j y).lineReport l e).slot (lineSlot l) = (s.lineReport l e).slot (lineSlot l) := by
  have own : (s.setSlot j y).slot (lineSlot l) = s.slot (lineSlot l) := s.slot_setSlot_other other y
  have report : (s.setSlot j y).report e = s.report e := rfl
  have decision : (s.setSlot j y).decideSource l = s.decideSource l := rfl
  have disabled : (s.setSlot j y).slotDisabled (lineSlot l) = s.slotDisabled (lineSlot l) := rfl
  have travels : (s.setSlot j y).selectorTravels l = s.selectorTravels l := rfl
  unfold State.lineReport State.takeDecision State.lineTravels State.lineFaults
  dsimp only
  rw [own, report, decision, disabled, travels]
  (repeat' split) <;> simp only [State.slot_setSlot, own] <;> rfl

theorem State.lineReport_travelling {s : State} {l : LineId} {e : ElementId} (on : ¬ s.slotDisabled (lineSlot l) = true)
    (travels : s.report e = .travelling) :
    (s.lineReport l e).slot (lineSlot l) = (s.slot (lineSlot l)).settleOn none := by
  unfold State.lineReport State.lineTravels
  rw [travels]
  exact (congrArg (State.slot · (lineSlot l)) (if_neg on)).trans (s.slot_setSlot _ _)

/-- A FAULTED selector ends SETTLING and keeps the measured source. -/
theorem State.lineReport_faulted {s : State} {l : LineId} {e : ElementId} (faulted : s.report e = .faulted) :
    (s.lineReport l e).slot (lineSlot l)
      = if (s.slot (lineSlot l)).settling then s.settleEnd (lineSlot l) (s.slot (lineSlot l)) else s.slot (lineSlot l) := by
  unfold State.lineReport State.lineFaults
  rw [faulted]
  dsimp only
  split
  · exact s.slot_setSlot _ _
  · rfl

theorem State.lineReport_settled {s : State} {l : LineId} {e : ElementId} {p : Position} (settled : s.report e = .settled p) :
    s.lineReport l e = s.takeDecision l := by
  unfold State.lineReport
  rw [settled]

/-- A report is taken by a line slot whose source's selector is the element. -/
def State.lineHears (s : State) (l : LineId) (e : ElementId) : State :=
  if s.sourceSelector l = some e then s.lineReport l e else s

theorem State.timingReport_eq (s : State) (e : ElementId) :
    s.timingReport e = State.retimeFrom s ((s.lineHears 0 e).lineHears 1 e) := rfl

theorem State.lineHears_eq (s : State) (l : LineId) (e : ElementId) : ∃ r, s.lineHears l e = s.setSlot (lineSlot l) r := by
  unfold State.lineHears
  split
  · exact ⟨_, s.lineReport_eq l e⟩
  · exact ⟨_, (s.setSlot_self _).symm⟩

theorem State.lineHears_reslotted (s : State) (l : LineId) (e : ElementId) : s.Reslotted (s.lineHears l e) := by
  obtain ⟨r, h⟩ := s.lineHears_eq l e
  exact h ▸ s.setSlot_reslotted _ r

/-- The record of a line slot whose selector is reported, whichever of the line slots hear the report. -/
theorem State.lineHears_slot {s : State} {l : LineId} {e : ElementId} (named : s.sourceSelector l = some e) :
    ((s.lineHears 0 e).lineHears 1 e).slot (lineSlot l) = (s.lineReport l e).slot (lineSlot l) := by
  obtain ⟨x, first⟩ := s.lineHears_eq 0 e
  obtain ⟨y, second⟩ := (s.lineHears 0 e).lineHears_eq 1 e
  obtain rfl | rfl := (by decide : ∀ l : LineId, l = 0 ∨ l = 1) l
  · rw [second, State.slot_setSlot_other _ (by decide)]
    unfold State.lineHears
    rw [if_pos named]
  · rw [first]
    have named' : (s.setSlot (lineSlot 0) x).sourceSelector 1 = some e := named
    unfold State.lineHears
    rw [if_pos named']
    exact s.lineReport_setSlot 1 e (by decide) x

/-! ## Pulses and timers (R145, R147, R149) -/

theorem State.takesPulses_iff {s : State} {i : SlotId} : s.takesPulses i = true ↔ s.path.op = .running
    ∧ slotPriority s.timing.config[i] ≠ 0 ∧ s.timing.slot[i].settling = false
    ∧ (i.val < 2 → bits s.timing.stationKind 0 2 ≠ 0) ∧ (2 ≤ i.val → s.timing.slot[i].source ≠ none) := by
  unfold State.takesPulses lineOf State.slotDisabled State.slot
  split
  next line =>
    have station : i.val < 2 := by
      by_contra two
      rw [dif_pos (by omega)] at line
      cases line
    simp [station, show ¬ 2 ≤ i.val by omega, and_assoc]
  next l line =>
    have two : 2 ≤ i.val := by
      by_contra station
      rw [dif_neg station] at line
      cases line
    simp [two, show ¬ i.val < 2 by omega, and_assoc, Option.isSome_iff_ne_none]

theorem Slot.gateDue_iff {r : Slot} : r.gateDue = true ↔ r.gate = some 999 := by
  exact decide_eq_true_iff

/-- A pulse, with the gate it leaves, as R147 says it. -/
theorem State.pulse_eq (s : State) (i : SlotId) (gate : Option Nat) (r : Slot) : s.pulse i gate r = if r.measured = .lost then
      { r with loss := some (s.now + slotLossWindow s.timing.config[i]), gate := gate, measured := .qualifying
               qualify := some (s.now + 8000 * bits s.timing.config[i][2] 0 6) }
    else { r with loss := some (s.now + slotLossWindow s.timing.config[i]), gate := gate } := by
  unfold State.pulse State.after
  rw [slotQualify_eq]

theorem State.pulse_lastOffset (s : State) (i : SlotId) (gate : Option Nat) (r : Slot) :
    (s.pulse i gate r).lastOffset = r.lastOffset := by
  unfold State.pulse
  dsimp only
  split <;> rfl

theorem State.settleEnd_eq (s : State) (i : SlotId) (r : Slot) : s.settleEnd i r = { r with
    settling := false, settle := none, loss := some (s.now + slotLossWindow s.timing.config[i])
    qualify := if r.measured = .qualifying then some (s.now + 8000 * bits s.timing.config[i][2] 0 6) else none } := by
  unfold State.settleEnd State.after
  rw [slotQualify_eq]

end Sys2Proof.Machine

namespace Sys2Proof.Claims
open Sys2Proof.Machine

theorem slotDisabled_iff_priority {s : State} {i : SlotId} : s.slotDisabled i = true ↔ slotPriority s.timing.config[i] = 0 :=
  decide_eq_true_iff

/-! ### Expiries -/

theorem lossExpire_of_runs {s : State} {i : SlotId} {n : Nat} (runs : s.timing.slot[i].loss = some n) :
    s.lossExpire i = State.retimeFrom (s.passTo n) ((s.passTo n).setSlot i s.timing.slot[i].lose) := by
  unfold State.lossExpire
  rw [show (s.slot i).loss = some n from runs]
  rfl

theorem qualifyExpire_of_runs {s : State} {i : SlotId} {n : Nat} (runs : s.timing.slot[i].qualify = some n)
    (qualifying : s.timing.slot[i].measured = .qualifying) : s.qualifyExpire i
      = State.retimeFrom (s.passTo n) ((s.passTo n).setSlot i { s.timing.slot[i] with measured := .available, qualify := none }) := by
  unfold State.qualifyExpire
  rw [show (s.slot i).qualify = some n from runs, show (s.slot i).measured = .qualifying from qualifying]
  rfl

theorem settleExpire_of_runs {s : State} {l : LineId} {n : Nat} (runs : s.timing.slot[lineSlot l].settle = some n) :
    s.settleExpire l = State.retimeFrom (s.passTo n)
      ((s.passTo n).setSlot (lineSlot l) ((s.passTo n).settleEnd (lineSlot l) s.timing.slot[lineSlot l])) := by
  unfold State.settleExpire
  dsimp only
  rw [show (s.slot (lineSlot l)).settle = some n from runs]
  rfl

/-! ## What a step brings to the timing unit, however the records came to it -/

/-- What a step of the timing unit that began at `s` leaves at `t` (R150, R151, R155 to R157, R159). -/
def Retimed (s t : State) : Prop := Selects s.timing.selected t.timing ∧ Follows s.timing t.timing ∧ TimingPoints t
  ∧ TimingReported s t s.poster.queue s.poster.shelfTime

theorem retimeFrom_retimed {s u : State} (h : s.Reslotted u) : Retimed s (State.retimeFrom s u) := by
  obtain ⟨w, rfl⟩ := h
  have selects := retimeFrom_selects s { s with timing := { s.timing with slot := w } }
  have follows := retimeFrom_follows s { s with timing := { s.timing with slot := w } }
  have reported := retimeFrom_reported s { s with timing := { s.timing with slot := w } }
  exact ⟨selects, follows, retimeFrom_points s _, reported⟩

theorem timingReport_retimed (s : State) (e : ElementId) : Retimed s (s.timingReport e) := by
  rw [s.timingReport_eq e]
  exact retimeFrom_retimed ((s.lineHears_reslotted 0 e).trans (State.lineHears_reslotted _ 1 e))

/-- The slots' states are decided on the records the report left. -/
theorem timingReport_slot {s : State} {l : LineId} {e : ElementId} (named : s.sourceSelector l = some e) :
    ∃ u, s.Reslotted u ∧ u.slot (lineSlot l) = (s.lineReport l e).slot (lineSlot l)
      ∧ (s.timingReport e).timing.slot[lineSlot l] = (u.slot (lineSlot l)).decide (u.slotEntry (lineSlot l)) :=
  ⟨_, (s.lineHears_reslotted 0 e).trans (State.lineHears_reslotted _ 1 e), State.lineHears_slot named,
    retimeFrom_slot s _ (lineSlot l)⟩

/-- A line slot's state after a report on its selector is decided on the record the report left it. -/
theorem timingReport_decided {s : State} {l : LineId} {e : ElementId} (named : s.sourceSelector l = some e) :
    StateDecided s (lineSlot l) ((s.lineReport l e).slot (lineSlot l)) (s.timingReport e).timing.slot[lineSlot l] := by
  obtain ⟨_, ⟨w, rfl⟩, record, decided⟩ := timingReport_slot named
  rw [decided, ← record]
  exact stateDecided_decide { s with timing := { s.timing with slot := w } } (lineSlot l)

section
variable {s : State} {l : LineId} {e : ElementId} (named : s.sourceSelector l = some e)
  (on : slotPriority s.timing.config[lineSlot l] ≠ 0)
include named on

/-- The selector begins to travel: SETTLING, with its timers stopped and the measured state kept (R145; log entry 36). -/
theorem timingReport_travelling (op : s.path.op = .running) (shown : ShownAs s e .travelling) : (s.timingReport e).timing.slot[lineSlot l]
    = { (s.slot (lineSlot l)).settleOn none with state := .settling } := by
  obtain ⟨-, -, -, line⟩ := timingReport_decided named
  rw [State.lineReport_travelling (mt slotDisabled_iff_priority.mp on) (report_eq_travelling_iff.mpr shown)] at line
  refine (line l _ _ _ on op rfl Iff.rfl Iff.rfl Iff.rfl).2.1 (fun ⟨k, is, faulted⟩ => ?_) rfl
  rw [named] at is
  cases is
  exact absurd (shown.2.symm.trans faulted.2) (by decide)

/-- The selector is FAULTED: LOST, and SETTLING ends (R145, R146). -/
theorem timingReport_faulted (op : s.path.op = .running) (shown : ShownAs s e .faulted) : (s.timingReport e).timing.slot[lineSlot l]
    = { (if (s.slot (lineSlot l)).settling then s.settleEnd (lineSlot l) (s.slot (lineSlot l)) else s.slot (lineSlot l)) with
        state := .lost, measured := .lost, qualify := none } := by
  obtain ⟨-, -, -, line⟩ := timingReport_decided named
  rw [State.lineReport_faulted (report_eq_faulted_iff.mpr shown)] at line
  exact (line l _ _ _ on op rfl Iff.rfl Iff.rfl Iff.rfl).1 ⟨e, named, shown⟩

/-- The selector settled: the source port is decided and SETTLING follows (R144, R145). -/
theorem timingReport_settled {p : Option Port} (shown : ShownAs s e .settled) (source : SourceIs s l p) :
    Decides (s.slot (lineSlot l)) (s.timingReport e).timing.slot[lineSlot l] False False p s.now := by
  have enabled : ¬ s.slotDisabled (lineSlot l) = true := mt slotDisabled_iff_priority.mp on
  have still : ¬ s.selectorTravels l = true := fun travels => by
    obtain ⟨k, is, moving⟩ := selectorTravels_iff.mp travels
    rw [named] at is
    cases is
    exact absurd (shown.2.symm.trans moving.2) (by decide)
  obtain ⟨_, ⟨w, rfl⟩, record, decided⟩ := timingReport_slot named
  rw [decided, record, State.lineReport_settled (report_eq_settled_iff.mpr ⟨shown.1, shown.2, rfl⟩)]
  exact (decides_takeDecision (decideSource_of_sourceIs source) (iff_of_false id enabled) (iff_of_false id still)).decide
    fun off => enabled (State.slotEntry_disabled_iff (s := { s with timing := { s.timing with slot := w } }).mp off)

end

end Sys2Proof.Claims

namespace Sys2Proof.Proofs
open Sys2Proof.Machine Sys2Proof.Claims

/-- Settles O46: each input is the slot's own change, the decision of its state, and the step that follows. -/
theorem slotTimers : Obligations.SlotTimers := by
  refine ⟨fun s i r x gate hr hgate hx => ?_, fun s u i r n hr hu => ?_, fun began s t h => ?_, fun s t e h => ?_,
    fun s t e l i r x h named at_ on op hr hx => ?_⟩
  · subst hr
    have pulses : (s.takesPulses i && !(s.slot i).gateDue) = true ↔ s.takesPulses i = true ∧ s.timing.slot[i].gate ≠ some 999 := by
      rw [Bool.and_eq_true, Bool.not_eq_true', Bool.eq_false_iff, ne_eq, Slot.gateDue_iff]
      rfl
    refine ⟨fun untaken => finish_regranted (u := s.takePulse i) (if_neg fun taken => ?_), fun op on still more station source => ?_⟩
    · obtain ⟨takes, more⟩ := pulses.mp taken
      obtain ⟨op, on, still, -⟩ := State.takesPulses_iff.mp takes
      rcases untaken with stopped | off | settling | due
      · exact stopped op
      · exact on off
      · rw [settling] at still
        cases still
      · exact more due
    · have counted : gatePulse s.timing.slot[i].gate = gate := by
        rw [hgate]
        rfl
      have pulsed : s.pulse i gate s.timing.slot[i] = x := (s.pulse_eq i gate _).trans hx.symm
      obtain ⟨t, run, served⟩ := finish_regranted (u := s.takePulse i)
        (if_pos (pulses.mpr ⟨State.takesPulses_iff.mpr ⟨op, on, still, station, source⟩, more⟩))
      rw [show gatePulse (s.slot i).gate = gate from counted, show s.pulse i gate (s.slot i) = x from pulsed] at served
      have offsets := served.retimed.2
      refine ⟨t, run, served, fun station => ?_, fun j => offsets j (.inr ?_)⟩
      · exact served.retimed_station on op station
      · rw [← pulsed, State.pulse_lastOffset]
  · subst hr
    obtain rfl : u = s.passTo n := hu
    refine ⟨fun runs => ?_, fun runs qualifying => ?_, fun l at_ runs => ?_⟩
    · obtain ⟨t, run, served⟩ := finish_regranted (lossExpire_of_runs runs)
      obtain ⟨slot, offsets⟩ := served.retimed
      refine ⟨t, run, served, ?_, ?_, ?_, fun station => ?_, fun j => offsets j (.inr rfl)⟩ <;> rw [slot]
      · exact Slot.decide_qualify rfl _
      · exact Slot.decide_loss rfl _
      · exact Slot.decide_gate rfl _
      · exact Slot.decide_lost rfl (State.slotEntry_station_ne station)
    · obtain ⟨t, run, served⟩ := finish_regranted (qualifyExpire_of_runs runs qualifying)
      obtain ⟨slot, offsets⟩ := served.retimed
      refine ⟨t, run, served, fun station op on => ?_, ?_, fun j => offsets j (.inr rfl)⟩
      · exact congrArg Slot.state (served.retimed_station on op station)
      · rw [slot]
        exact Slot.decide_qualify rfl _
    · obtain rfl : i = lineSlot l := Fin.ext at_
      obtain ⟨t, run, served⟩ := finish_regranted (settleExpire_of_runs runs)
      have ended := served.retimed.1
      rw [State.settleEnd_eq] at served
      refine ⟨t, run, served, ?_, ?_, ?_⟩ <;> rw [ended]
      · exact (Slot.decide_settled rfl rfl _).1
      · exact (Slot.decide_settled rfl rfl _).2
      · exact Slot.decide_state_ne_settling _ (State.slotEntry_ne_settling (congrArg Slot.settling (State.slot_setSlot _ _ _)))
  · subst h
    exact ⟨retimeFrom_decided began s, retimeFrom_selects began s, retimeFrom_follows began s, retimeFrom_points began s,
      retimeFrom_reported began s⟩
  · subst h
    exact timingReport_retimed s e
  · obtain rfl : i = lineSlot l := Fin.ext at_
    subst h hr hx
    refine ⟨fun shown => ?_, fun shown => ?_, fun p shown source => timingReport_settled named on shown source⟩
    · rw [timingReport_travelling named on op shown]
      exact ⟨rfl, rfl, rfl, rfl, rfl, rfl, rfl⟩
    · rw [timingReport_faulted named on op shown]
      refine ⟨rfl, rfl, fun settling => ?_⟩
      rw [if_pos (show (s.slot (lineSlot l)).settling = true from settling)]
      exact ⟨rfl, rfl⟩

end Sys2Proof.Proofs

namespace Sys2Proof.Machine

/-! ## The offset of a gate (R148) -/

/-- A gate's offset is the nearest integer to the exact quotient, ties away from zero, clamped. -/
theorem gateOffset_eq {m : Nat} {q : Int} (pos : 0 < m)
    (near : 2 * |q * (m : Int) - (2560000 - (m : Int)) * 10000000| ≤ m)
    (tie : 2 * |q * (m : Int) - (2560000 - (m : Int)) * 10000000| = m → |(2560000 - (m : Int)) * 10000000| < |q * (m : Int)|) :
    gateOffset m = max (-9999) (min 9999 q) := by
  have quotient : roundNearest ((Config.gateNominal - m) * 10000000) m = q := roundNearest_eq (by omega) near tie
  unfold gateOffset
  rw [quotient, clampInt_eq _ _ _ (by decide)]

/-! ## The record of a slot whose gate completes (R147 to R149) -/

/-- The record a completed gate leaves: its pulse has started the next gate, and the offset is judged. -/
def State.gateRecord (s : State) (i : SlotId) (o : Int) : Slot := s.judgeGate i o (s.pulse i (some 0) (s.slot i))

theorem State.judgeGate_kept (s : State) (i : SlotId) (o : Int) (r : Slot) :
    (s.judgeGate i o r).lastOffset = o ∧ (s.judgeGate i o r).gate = r.gate := by
  unfold State.judgeGate
  dsimp only
  (repeat' split) <;> exact ⟨rfl, rfl⟩

theorem State.pulse_gate (s : State) (i : SlotId) (gate : Option Nat) (r : Slot) : (s.pulse i gate r).gate = gate := by
  unfold State.pulse
  dsimp only
  split <;> rfl

theorem State.gateRecord_kept (s : State) (i : SlotId) (o : Int) :
    (s.gateRecord i o).lastOffset = o ∧ (s.gateRecord i o).gate = some 0 := by
  obtain ⟨offset, gate⟩ := s.judgeGate_kept i o (s.pulse i (some 0) (s.slot i))
  exact ⟨offset, gate.trans (s.pulse_gate _ _ _)⟩

/-- The pulse takes a LOST slot to QUALIFYING and leaves the measured state of any other (R147). -/
theorem State.pulse_measured (s : State) (i : SlotId) (gate : Option Nat) (r : Slot) :
    (r.measured = .lost → (s.pulse i gate r).measured = .qualifying)
    ∧ (r.measured ≠ .lost → (s.pulse i gate r).measured = r.measured ∧ (s.pulse i gate r).qualify = r.qualify) := by
  unfold State.pulse
  exact ⟨fun lost => by rw [if_pos lost], fun other => by rw [if_neg other]; exact ⟨rfl, rfl⟩⟩

/-- A gate within the limit keeps AVAILABLE and brings QUALIFYING otherwise (R149). -/
theorem State.judgeGate_within {s : State} {i : SlotId} {o : Int} {r : Slot} (within : |o| ≤ slotLimit s.timing.config[i])
    (present : r.measured ≠ .lost) :
    (s.judgeGate i o r).measured = if r.measured = .available then .available else .qualifying := by
  unfold State.judgeGate
  dsimp only
  rw [decide_eq_true within]
  cases measured : r.measured with
  | lost => exact absurd measured present
  | _ => simp

/-- A gate beyond the limit disqualifies (R149). -/
theorem State.judgeGate_beyond {s : State} {i : SlotId} {o : Int} {r : Slot} (beyond : slotLimit s.timing.config[i] < |o|)
    (present : r.measured ≠ .lost) (idle : r.measured ≠ .qualifying → r.qualify = none) :
    (s.judgeGate i o r).measured = .disqualified ∧ (s.judgeGate i o r).qualify = none := by
  unfold State.judgeGate
  dsimp only
  rw [decide_eq_false (not_le.mpr beyond)]
  cases measured : r.measured with
  | lost => exact absurd measured present
  | qualifying => exact ⟨rfl, rfl⟩
  | available => exact ⟨rfl, idle (by rw [measured]; nofun)⟩
  | disqualified => exact ⟨rfl, idle (by rw [measured]; nofun)⟩

theorem State.gateRecord_within {s : State} {i : SlotId} {o : Int} (within : |o| ≤ slotLimit s.timing.config[i]) :
    (s.gateRecord i o).measured = if s.timing.slot[i].measured = .available then .available else .qualifying := by
  obtain ⟨lost, other⟩ := s.pulse_measured i (some 0) (s.slot i)
  by_cases present : (s.slot i).measured = .lost
  · refine (State.judgeGate_within within (by rw [lost present]; nofun)).trans ?_
    rw [lost present, show s.timing.slot[i].measured = .lost from present]
    rfl
  · refine (State.judgeGate_within within (by rw [(other present).1]; exact present)).trans ?_
    rw [(other present).1]
    rfl

theorem State.gateRecord_beyond {s : State} {i : SlotId} {o : Int} (sound : s.timing.slot[i].Sound)
    (beyond : slotLimit s.timing.config[i] < |o|) :
    (s.gateRecord i o).measured = .disqualified ∧ (s.gateRecord i o).qualify = none := by
  obtain ⟨lost, other⟩ := s.pulse_measured i (some 0) (s.slot i)
  by_cases present : (s.slot i).measured = .lost
  · exact State.judgeGate_beyond beyond (by rw [lost present]; nofun) fun n => absurd (lost present) n
  · obtain ⟨measured, qualify⟩ := other present
    refine State.judgeGate_beyond beyond (by rw [measured]; exact present) fun n => qualify.trans (sound.idle ?_)
    rw [measured] at n
    exact n

/-- A gate abandoned leaves -9999 and disqualifies (R148). -/
theorem Slot.overrun_eq (r : Slot) : r.overrun = { r with
    gate := none, lastOffset := -9999
    measured := if r.measured = .lost then .lost else .disqualified
    qualify := if r.measured = .qualifying then none else r.qualify } := by
  obtain ⟨_, measured, _⟩ := r
  unfold Slot.overrun
  cases measured <;> rfl

/-! ## Steering asks nothing of the slots (R153, R154, R158) -/

theorem Timing.steer_withSlots (t : Timing) (w : Vector Slot 4) (gate : Int) :
    Timing.steer { t with slot := w } gate = { t.steer gate with slot := w } := by
  unfold Timing.steer Timing.judgeLock Timing.addPartial Timing.dropPartial
  dsimp only
  cases t.gen <;> dsimp only <;> (repeat' split) <;> rfl

/-! ## A completed gate (R148 to R153) -/

/-- The step of a completed gate up to its selection. -/
def State.gateSelected (s : State) (i : SlotId) (m : Nat) : State :=
  (s.setSlot i (s.gateRecord i (gateOffset m))).decideSlots.reselect

/-- A completed gate steers: the generator tracked the slot, and the slot is still selected and AVAILABLE (R153). -/
def State.GateSteers (s : State) (i : SlotId) (m : Nat) : Prop :=
  (s.timing.gen.tracking = true ∧ s.timing.selected = some i)
  ∧ ((s.gateSelected i m).timing.gen.tracking = true ∧ (s.gateSelected i m).timing.selected = some i)
  ∧ (s.gateSelected i m).timing.slot[i].state = .available

theorem State.gateSteers_iff {s : State} {i : SlotId} {m : Nat} : s.GateSteers i m
    ↔ (s.tracks i && (s.gateSelected i m).tracks i && ((s.gateSelected i m).slot i).state = .available) = true := by
  unfold State.GateSteers State.tracks State.slot
  simp only [Bool.and_eq_true, decide_eq_true_eq, and_assoc]

theorem State.judgedGate_steers {s : State} {i : SlotId} {m : Nat} (steers : s.GateSteers i m) :
    (s.judgedGate i m).timing = (s.gateSelected i m).timing.steer (gateOffset m) := by
  unfold State.judgedGate
  simp only [State.timingAlarms_frame, State.timingEvent_frame]
  exact congrArg State.timing (if_pos (State.gateSteers_iff.mp steers))

theorem State.judgedGate_follows {s : State} {i : SlotId} {m : Nat} (quiet : ¬ s.GateSteers i m) :
    (s.judgedGate i m).timing = (s.gateSelected i m).timing := by
  unfold State.judgedGate
  simp only [State.timingAlarms_frame, State.timingEvent_frame]
  exact congrArg State.timing (if_neg (mt State.gateSteers_iff.mpr quiet))

/-- Beside the generator a completed gate leaves what its selection left. -/
theorem State.judgedGate_selected (s : State) (i : SlotId) (m : Nat) :
    (s.judgedGate i m).timing.selected = (s.gateSelected i m).timing.selected
    ∧ (s.judgedGate i m).timing.slot = (s.gateSelected i m).timing.slot
    ∧ (s.judgedGate i m).timing.config = (s.gateSelected i m).timing.config
    ∧ (s.judgedGate i m).timing.forced = (s.gateSelected i m).timing.forced := by
  by_cases steers : s.GateSteers i m
  · obtain ⟨-, selected, slot, config, forced, -⟩ := (s.gateSelected i m).timing.steer_kept (gateOffset m)
    rw [State.judgedGate_steers steers]
    exact ⟨selected, slot, config, forced⟩
  · rw [State.judgedGate_follows steers]
    exact ⟨rfl, rfl, rfl, rfl⟩

theorem State.completeGate_of_due {s : State} {i : SlotId} {m : Nat} (takes : s.takesPulses i = true)
    (due : s.timing.slot[i].gate = some 999) (pos : 0 < m) (limit : m ≤ 5120000) : s.completeGate i m = s.judgedGate i m := by
  unfold State.completeGate
  rw [if_pos (by simp [takes, Slot.gateDue_iff.mpr (show (s.slot i).gate = some 999 from due), pos])]
  exact if_pos limit

end Sys2Proof.Machine

namespace Sys2Proof.Claims
open Sys2Proof.Machine

theorem Selects.congr {before : Option SlotId} {t u : Timing} (h : Selects before t) (selected : u.selected = t.selected)
    (slot : u.slot = t.slot) (config : u.config = t.config) (forced : u.forced = t.forced) : Selects before u := by
  unfold Selects Eligible at h ⊢
  rw [selected, slot, config, forced]
  exact h

/-- A completed gate selects as a step of the timing unit that is brought its record does. -/
theorem gateSelected_timing (s : State) (i : SlotId) (m : Nat) : (s.gateSelected i m).timing
    = (State.retimeFrom s (s.setSlot i (s.gateRecord i (gateOffset m)))).timing := (retimeFrom_timing _ _).symm

/-- A generator that tracks a slot still selected and not SETTLING goes on as it was (R156). -/
theorem gateSelected_tracking {s : State} {i : SlotId} {m : Nat} (tracking : s.timing.gen.tracking = true)
    (before : s.timing.selected = some i) (after : (s.gateSelected i m).timing.selected = some i)
    (available : (s.gateSelected i m).timing.slot[i].state = .available) :
    ∃ w : Vector Slot 4, (s.gateSelected i m).timing = { s.timing with slot := w } := by
  generalize hd : (s.setSlot i (s.gateRecord i (gateOffset m))).decideSlots = d
  obtain ⟨w, timing⟩ : ∃ w : Vector Slot 4, d.timing = { s.timing with slot := w } := ⟨_, by rw [← hd]; rfl⟩
  have gated : s.gateSelected i m = d.reselect := congrArg State.reselect hd
  rw [gated] at after available ⊢
  obtain ⟨slot, -, selected⟩ := Timing.follow_kept d.timing d.selection (d.selection.any fun i => (d.slot i).state = .settling)
  have chosen : d.selection = some i := selected.symm.trans after
  have state : (d.slot i).state = .available := (congrArg (fun v : Vector Slot 4 => v[i].state) slot).symm.trans available
  have followed : d.reselect.timing = d.timing.follow (some i) false := by
    unfold State.reselect
    rw [chosen]
    simp [state]
  refine ⟨w, followed.trans ((Timing.follow_tracking false ?_ ?_).trans timing)⟩
  · rw [timing]
    exact before
  · rw [timing]
    exact (GenState.tracking_iff _).mp tracking

end Sys2Proof.Claims

namespace Sys2Proof.Claims
open Sys2Proof.Machine

section
variable (s : State) (i : SlotId) (m : Nat)

theorem judgedGate_selects : Selects s.timing.selected (s.judgedGate i m).timing := by
  obtain ⟨selected, slot, config, forced⟩ := s.judgedGate_selected i m
  rw [gateSelected_timing] at selected slot config forced
  exact (retimeFrom_selects s (s.setSlot i (s.gateRecord i (gateOffset m)))).congr selected slot config forced

theorem judgedGate_points : TimingPoints (s.judgedGate i m) := by
  unfold State.judgedGate
  exact timingPoints_timingAlarms _

/-- The slot's record is decided on what the gate left it, and no other slot's last offset changes. -/
theorem judgedGate_slot :
    (s.judgedGate i m).timing.slot[i] = (s.gateRecord i (gateOffset m)).decide
      ((s.setSlot i (s.gateRecord i (gateOffset m))).slotEntry i)
    ∧ ∀ j : SlotId, j ≠ i → (s.judgedGate i m).timing.slot[j].lastOffset = s.timing.slot[j].lastOffset := by
  obtain ⟨-, slot, -⟩ := s.judgedGate_selected i m
  rw [slot, gateSelected_timing]
  obtain ⟨decided, offsets⟩ := (Regranted.refl (State.retimeFrom s (s.setSlot i (s.gateRecord i (gateOffset m))))).retimed
  exact ⟨decided, fun j other => offsets j (.inl other)⟩

variable {s i m}

/-- A station slot is judged against its acceptance limit (R149). -/
theorem judgedGate_station (sound : s.timing.slot[i].Sound) (on : slotPriority s.timing.config[i] ≠ 0) (op : s.path.op = .running)
    (station : i.val < 2) :
    (|gateOffset m| ≤ slotLimit s.timing.config[i] → s.timing.slot[i].measured = .available →
      (s.judgedGate i m).timing.slot[i].state = .available)
    ∧ (|gateOffset m| ≤ slotLimit s.timing.config[i] → s.timing.slot[i].measured ≠ .available →
      (s.judgedGate i m).timing.slot[i].state = .qualifying)
    ∧ (slotLimit s.timing.config[i] < |gateOffset m| →
      (s.judgedGate i m).timing.slot[i].state = .disqualified ∧ (s.judgedGate i m).timing.slot[i].qualify = none) := by
  have entry : (s.setSlot i (s.gateRecord i (gateOffset m))).slotEntry i = .measured :=
    State.slotEntry_station (mt slotDisabled_iff_priority.mp on) op station
  rw [(judgedGate_slot s i m).1, entry]
  have shown (x : Measured) (measured : (s.gateRecord i (gateOffset m)).measured = x) :
      ((s.gateRecord i (gateOffset m)).decide .measured).state = x.shown := congrArg Measured.shown measured
  refine ⟨fun within available => shown .available ?_, fun within other => shown .qualifying ?_, fun beyond => ?_⟩
  · rw [State.gateRecord_within within, if_pos available]
  · rw [State.gateRecord_within within, if_neg other]
  · obtain ⟨disqualified, idle⟩ := State.gateRecord_beyond sound beyond
    exact ⟨shown .disqualified disqualified, idle⟩

/-- The gate of a slot that stays selected and AVAILABLE steers the generator as it stood (R153, R154, R158). -/
theorem judgedGate_steered (tracking : s.timing.gen.tracking = true) (before : s.timing.selected = some i)
    (after : (s.judgedGate i m).timing.selected = some i) (available : (s.judgedGate i m).timing.slot[i].state = .available) :
    ∃ w : Vector Slot 4, (s.judgedGate i m).timing = { s.timing.steer (gateOffset m) with slot := w } := by
  obtain ⟨selected, slot, -⟩ := s.judgedGate_selected i m
  rw [selected] at after
  rw [slot] at available
  obtain ⟨w, goesOn⟩ := gateSelected_tracking tracking before after available
  have steers : s.GateSteers i m := ⟨⟨tracking, before⟩, ⟨by rw [goesOn]; exact tracking, after⟩, available⟩
  exact ⟨w, by rw [State.judgedGate_steers steers, goesOn, Timing.steer_withSlots]⟩

/-- With any other gate the generator follows the selection (R155 to R157). -/
theorem judgedGate_followed (quiet : s.timing.gen.tracking = false ∨ s.timing.selected ≠ some i
    ∨ (s.judgedGate i m).timing.selected ≠ some i ∨ (s.judgedGate i m).timing.slot[i].state ≠ .available) :
    Follows s.timing (s.judgedGate i m).timing := by
  obtain ⟨selected, slot, -⟩ := s.judgedGate_selected i m
  have still : ¬ s.GateSteers i m := fun ⟨⟨tracking, before⟩, ⟨_, after⟩, available⟩ => by
    rw [selected, slot] at quiet
    rcases quiet with idle | other | left | unfit
    · rw [tracking] at idle
      cases idle
    · exact other before
    · exact left after
    · exact unfit available
  rw [State.judgedGate_follows still, gateSelected_timing]
  exact retimeFrom_follows s (s.setSlot i (s.gateRecord i (gateOffset m)))

end

end Sys2Proof.Claims

namespace Sys2Proof.Proofs
open Sys2Proof.Machine Sys2Proof.Claims

/-- Settles O47: a completed gate is the step of the record it leaves, and then steers or not; a gate abandoned is a step alone. -/
theorem gates : Obligations.Gates := by
  refine ⟨fun s i m q o takes due sound pos limit near tie ho => ?_, fun s i r x takes hr runs hx => ?_⟩
  · obtain rfl : gateOffset m = o := (gateOffset_eq pos near tie).trans ho.symm
    obtain ⟨op, on, -⟩ := State.takesPulses_iff.mp takes
    obtain ⟨t, run, served⟩ := finish_regranted (u := s.completeGate i m) (State.completeGate_of_due takes due pos limit)
    have timing : t.timing = (s.judgedGate i m).timing := by
      obtain ⟨_, rfl⟩ := served
      rfl
    have points : TimingPoints t := (judgedGate_points s i m).congr timing (fun _ _ => served.pointRaised _) fun _ => served.pointRaised _
    obtain ⟨slot, offsets⟩ := judgedGate_slot s i m
    obtain ⟨offset, gate⟩ := s.gateRecord_kept i (gateOffset m)
    have enabled : (s.setSlot i (s.gateRecord i (gateOffset m))).slotEntry i ≠ .disabled :=
      mt State.slotEntry_disabled_iff.mp (mt slotDisabled_iff_priority.mp on)
    refine ⟨t, run, ?_⟩
    rw [timing]
    refine ⟨?_, ?_, offsets, judgedGate_station (sound.steady.slots i) on op, fun tracking before after available => ?_,
      judgedGate_followed, judgedGate_selects s i m, points⟩
    · rw [slot, Slot.decide_lastOffset, offset]
    · rw [slot, (Slot.decide_kept _ enabled).1, gate]
    · obtain ⟨⟨-, -, moved⟩, -⟩ := s.timing.steer_kept (gateOffset m)
      obtain ⟨w, steered⟩ := judgedGate_steered tracking before after available
      rw [steered]
      exact ⟨moved.trans (by rw [clampInt_eq _ _ _ (by decide)]), _, rfl, rfl, rfl, rfl, rfl, rfl⟩
  · subst hr
    have gateRuns : s.gateRuns i = true := by
      unfold State.gateRuns
      rw [takes, Bool.true_and, Option.isSome_iff_ne_none]
      exact runs
    obtain rfl : s.timing.slot[i].overrun = x := (Slot.overrun_eq _).trans hx.symm
    obtain ⟨t, run, served⟩ := finish_regranted (u := s.abandonGate i) (if_pos gateRuns)
    obtain ⟨slot, offsets⟩ := Regranted.retimed served
    refine ⟨t, run, served, ?_, ?_, fun j other => offsets j (.inl other)⟩
    · rw [slot, Slot.decide_lastOffset, Slot.overrun_eq]
    · rw [slot]
      exact Slot.decide_gate (by rw [Slot.overrun_eq]) _

end Sys2Proof.Proofs

namespace Sys2Proof.Machine

/-- A word whose owner refuses it or brings it into its range. -/
theorem State.screen_tested {s : State} {w : Watched} {v e : Word} {bad : Prop} [Decidable bad] (written : v ≠ s.heldWord w)
    (refused : (s.answers w v).refused = true ↔ bad) (prohibited : (s.answers w v).prohibited = false)
    (once : (s.answers w v).onceHeld = false) (value : (s.answers w v).value = e) :
    s.screen w v = if bad then (.refused, s.heldWord w) else Claims.taken e v := by
  split
  next is_bad => exact State.screen_refused written (refused.mpr is_bad)
  next good =>
    rw [State.screen_taken written (eq_false_of_ne_true (mt refused.mp good)) prohibited once, value]

/-! ## The timing table (R142, R143) -/

theorem State.screen_slotPriority {s : State} {i : SlotId} {v : Word} (written : v ≠ s.heldWord (.slot i 0)) :
    s.screen (.slot i 0) v
      = if 4 < v.toNat % 8 then (.refused, s.heldWord (.slot i 0)) else Claims.taken (v &&& 0x0007) v := by
  refine State.screen_tested written (decide_eq_true_iff.trans ?_) rfl rfl rfl
  rw [show bits v 0 3 = v.toNat % 8 by simp [bits]]

theorem State.screen_slotWindows {s : State} {i : SlotId} {v : Word} (written : v ≠ s.heldWord (.slot i 2)) :
    s.screen (.slot i 2) v
      = Claims.taken (wordOf (max 1 (min 60 (v.toNat % 64)) + 256 * max 2 (min 15 (v.toNat / 256 % 16)))) v := by
  have value : clampNat 1 60 (bits v 0 6) + 256 * clampNat 2 15 (bits v 8 4)
      = max 1 (min 60 (v.toNat % 64)) + 256 * max 2 (min 15 (v.toNat / 256 % 16)) := by
    simp only [clampNat, bits]
    omega
  exact State.screen_ranged written (by rw [← value]; rfl)

/-- A source is refused for an unknown kind, a group or channel out of range, or a number that is no port. -/
theorem answerSource_refused {v : Word} : (answerSource v).refused = true ↔ v.toNat % 4 = 3
    ∨ (v.toNat % 4 = 1 ∧ (11 < v.toNat / 32 % 16 ∨ v.toNat / 4 % 8 = 0 ∨ 4 < v.toNat / 4 % 8))
    ∨ (v.toNat % 4 = 2 ∧ 24 ≤ v.toNat / 1024 ∧ v.toNat / 1024 ≠ 63) := by
  have group : bits v 5 4 = v.toNat / 32 % 16 := rfl
  have channel : bits v 2 3 = v.toNat / 4 % 8 := rfl
  have port : bits v 10 6 = v.toNat / 1024 := Nat.mod_eq_of_lt (by omega)
  unfold answerSource
  simp only [Bool.or_eq_true, Bool.and_eq_true, decide_eq_true_eq, Claims.bits_kind, group, channel, port, Nat.lt_one_iff, or_assoc, and_assoc]

theorem State.screen_stationKind {s : State} {v : Word} (written : v ≠ s.timing.stationKind) : s.screen .stationKind v
    = if v.toNat % 4 = 3 then (.refused, s.timing.stationKind)
      else if s.timing.stationKind.toNat % 4 ≠ 0 ∧ v.toNat % 4 ≠ s.timing.stationKind.toNat % 4 then
        (.onceHeld, s.timing.stationKind)
      else Claims.taken (v &&& 0x0003) v := by
  have refused : (s.answers .stationKind v).refused = true ↔ v.toNat % 4 = 3 := by
    rw [← Claims.bits_kind]
    exact decide_eq_true_iff
  have once : (s.answers .stationKind v).onceHeld = true
      ↔ s.timing.stationKind.toNat % 4 ≠ 0 ∧ v.toNat % 4 ≠ s.timing.stationKind.toNat % 4 := by
    rw [← Claims.bits_kind, ← Claims.bits_kind]
    exact (Bool.and_eq_true _ _).to_iff.trans (and_congr decide_eq_true_iff decide_eq_true_iff)
  split
  next is_bad => exact State.screen_refused (w := .stationKind) written (refused.mpr is_bad)
  next good =>
    have admitted := eq_false_of_ne_true (mt refused.mp good)
    split
    next is_held =>
      rw [s.screen_written .stationKind written]
      unfold Answers.verdict
      rw [admitted, once.mpr is_held]
      rfl
    next free => exact State.screen_taken (w := .stationKind) written admitted rfl (eq_false_of_ne_true (mt once.mp free))

/-- A decision touches the line slot's own record alone. -/
theorem State.takeDecision_eq (s : State) (l : LineId) :
    s.takeDecision l = s.setSlot (lineSlot l) ((s.takeDecision l).slot (lineSlot l)) := by
  unfold State.takeDecision State.lineTravels State.lineFaults
  dsimp only
  (repeat' split) <;> simp only [State.slot_setSlot, State.setSlot_self]

/-! ### What an accepted change brings to the timing unit -/

theorem State.take_source_timing {s : State} {l : LineId} {e : Word} (x : Verdict) (op : s.path.op = .running)
    (new : e ≠ s.heldWord (.source l)) : (s.take (.source l) e x).timing
      = (State.retimeFrom s ((s.setHeld (.source l) e).takeDecision l)).timing := by
  unfold State.take State.takeHeld
  rw [if_neg new, (State.provision_frame _ _ _).2.2.2.2.2.2.2.2.1]
  exact congrArg (fun u => (State.retimeFrom s u).timing) (if_pos op)

theorem State.take_slot_timing {s : State} {i : SlotId} {f : Fin 3} {e : Word} (x : Verdict) (new : e ≠ s.heldWord (.slot i f)) :
    (s.take (.slot i f) e x).timing = (State.retimeFrom s (s.setHeld (.slot i f) e)).timing := by
  unfold State.take State.takeHeld
  rw [if_neg new, (State.provision_frame _ _ _).2.2.2.2.2.2.2.2.1]
  rfl

end Sys2Proof.Machine

namespace Sys2Proof.Claims
open Sys2Proof.Machine

/-- A changed source decides the source port, and SETTLING follows (R144, R145). -/
theorem take_source {s : State} {l : LineId} {e : Word} {p : Option Port} (x : Verdict) (op : s.path.op = .running)
    (new : e ≠ s.heldWord (.source l)) (source : SourceIs (s.setHeld (.source l) e) l p) :
    Decides s.timing.slot[lineSlot l] (s.take (.source l) e x).timing.slot[lineSlot l]
        (slotPriority s.timing.config[lineSlot l] = 0)
        (∃ k, (s.setHeld (.source l) e).sourceSelector l = some k ∧ ShownAs s k .travelling) p s.now
      ∧ Selects s.timing.selected (s.take (.source l) e x).timing := by
  rw [State.take_source_timing x op new]
  have decides := decides_takeDecision (s := s.setHeld (.source l) e) (decideSource_of_sourceIs source) slotDisabled_iff_priority.symm
    selectorTravels_iff.symm
  have record := State.takeDecision_eq (s.setHeld (.source l) e) l
  generalize (s.setHeld (.source l) e).takeDecision l = u at decides record ⊢
  refine ⟨?_, ?_⟩
  · rw [retimeFrom_slot]
    refine decides.decide fun off => ?_
    have disabled := State.slotEntry_disabled_iff.mp off
    rw [record] at disabled
    exact slotDisabled_iff_priority.mp disabled
  · have selects := retimeFrom_selects s u
    rwa [show u.timing.selected = s.timing.selected by rw [record]; rfl] at selects

/-- A changed slot configuration decides every slot's state and the selection afresh (R146, R150). -/
theorem take_slot {s : State} {i : SlotId} {f : Fin 3} {e : Word} (x : Verdict) (new : e ≠ s.heldWord (.slot i f)) :
    (s.take (.slot i f) e x).timing.config = (s.setHeld (.slot i f) e).timing.config
      ∧ (∀ j : SlotId, StateDecided (s.setHeld (.slot i f) e) j s.timing.slot[j] (s.take (.slot i f) e x).timing.slot[j])
      ∧ Selects s.timing.selected (s.take (.slot i f) e x).timing := by
  rw [State.take_slot_timing x new]
  exact ⟨congrArg Prod.fst (retimeFrom_table _ _), retimeFrom_decided s (s.setHeld (.slot i f) e),
    retimeFrom_selects s (s.setHeld (.slot i f) e)⟩

end Sys2Proof.Claims

namespace Sys2Proof.Proofs
open Sys2Proof.Machine Sys2Proof.Claims

/-- Settles O20: the tests of each word of the timing table, and the step of the timing unit that a changed word makes. -/
theorem screenTiming : Obligations.ScreenTiming := by
  refine fun s v => ⟨fun i => ⟨State.screen_slotPriority, State.screen_slotWindows⟩,
    fun l written => State.screen_tested written answerSource_refused rfl rfl rfl, State.screen_stationKind,
    fun l i b d e u p at_ op free screened new hu source => ?_, fun i f b d e u op free screened new hu => ?_⟩
  · obtain rfl : i = lineSlot l := Fin.ext at_
    subst hu
    obtain ⟨t, x, run, served⟩ := watchedWrite_runs (c := .slotSourceWrite l b d) rfl op free screened
    obtain ⟨decides, selects⟩ := take_source (s := s.memWrite (s.imageAddr (Watched.source l).offset) .word e) x op new source
    obtain ⟨_, rfl⟩ := served
    exact ⟨_, run, decides, selects⟩
  · subst hu
    obtain ⟨t, x, run, served⟩ := watchedWrite_runs (c := .slotConfigurationWrite i f b d) rfl op free screened
    obtain ⟨config, decided, selects⟩ := take_slot (s := s.memWrite (s.imageAddr (Watched.slot i f).offset) .word e) x new
    obtain ⟨_, rfl⟩ := served
    exact ⟨_, run, config, decided, selects⟩

end Sys2Proof.Proofs

namespace Sys2Proof.Machine

/-! ## What the relays are judged from (R167, R169 to R171) -/

/-- Relays driven from a count are right for it, whatever the cut-off (R170, R171). -/
theorem relaysFollowing_right (count : Nat) (cutOff : Bool) : (relaysFollowing count cutOff).right count := by
  unfold relaysFollowing Relays.right
  by_cases none_ : count = 0 <;> cases cutOff <;> simp [none_]

/-- A cut-off silences the audible relay of a severity that is counted, and touches no other (R171). -/
theorem Relays.right.cut {r : Relays} {count : Nat} (h : r.right count) : r.cut.right count := by
  obtain ⟨visual, audible, cutOff⟩ := h
  unfold Relays.cut
  split
  next sounds =>
    have shown := (audible.mp sounds).1
    exact ⟨visual, by simp, fun _ => visual.mp shown⟩
  · exact ⟨visual, audible, cutOff⟩

/-- The ports in maintenance. -/
def Supervisor.maintained (u : Supervisor) (p : Port) : Bool := u.record[p].maintenance

/-- The counts follow from the points, the profile and the ports in maintenance (R167). -/
theorem State.countOf_congr {s t : State} (raised : t.alarm.raised = s.alarm.raised) (profile : t.alarm.profile = s.alarm.profile)
    (maintained : t.sup.maintained = s.sup.maintained) : t.countOf = s.countOf := by
  have suppressed : t.suppressed = s.suppressed := by
    funext pt
    cases pt with
    | port p _ => exact congrFun maintained p
    | _ => rfl
  have counted : t.counted = s.counted := by
    funext v pt
    unfold State.counted State.pointRaised State.profileOf
    rw [raised, profile, suppressed]
  funext v
  simp only [State.countOf, counted]

/-! ### The ports in maintenance through the work of the port supervisor -/

/-- A record written with its maintenance as it was. -/
theorem Supervisor.setRecord_maintained {u : Supervisor} {p : Port} {r : PortRecord} (h : r.maintenance = u.record[p].maintenance) :
    (u.setRecord p r).maintained = u.maintained := by
  funext q
  by_cases same : q = p
  · subst same
    exact (congrArg PortRecord.maintenance (u.setRecord_record q r)).trans h
  · exact congrArg PortRecord.maintenance (u.setRecord_other r same)

theorem Supervisor.promote_maintained (u : Supervisor) (id : Word) : (u.promote id).maintained = u.maintained := by
  unfold Supervisor.promote
  split
  · rfl
  next q _ => exact Supervisor.setRecord_maintained (u := u.setFarEnd q (some id)) rfl

theorem Supervisor.giveUp_maintained (u : Supervisor) (p : Port) : (u.giveUp p).maintained = u.maintained := by
  unfold Supervisor.giveUp
  split
  · rfl
  next id _ => exact (u.setFarEnd p none).promote_maintained id

theorem Supervisor.yield_maintained {u : Supervisor} {p : Port} {r : PortRecord} (h : r.maintenance = u.record[p].maintenance) :
    (u.yield p r).maintained = u.maintained :=
  (Supervisor.giveUp_maintained _ p).trans (Supervisor.setRecord_maintained h)

theorem Supervisor.dropTrace_maintained (u : Supervisor) (p : Port) (x : TraceState) (c : Bool) :
    (u.dropTrace p x c).maintained = u.maintained := by
  rw [u.dropTrace_eq]
  exact Supervisor.yield_maintained rfl

theorem Supervisor.acceptTrace_maintained (u : Supervisor) (p : Port) (id : Word) : (u.acceptTrace p id).maintained = u.maintained := by
  obtain ⟨x, e, accepted⟩ := u.acceptTrace_cases p id
  have own : (u.accepting p id).record[p].maintenance = u.record[p].maintenance := by rw [(u.accepting_self p id).1]
  rw [accepted]
  have written := Supervisor.setRecord_maintained (u := (u.accepting p id).setFarEnd p e) (p := p)
    (r := { u.record[p] with accepted := some id, trace := x }) own.symm
  exact written.trans (Supervisor.yield_maintained rfl)

theorem Supervisor.awaitTrace_maintained (u : Supervisor) (p : Port) : (u.awaitTrace p).maintained = u.maintained := by
  rw [u.awaitTrace_eq]
  exact Supervisor.setRecord_maintained rfl

theorem Supervisor.receiveTrace_maintained (u : Supervisor) (p : Port) (w : Word) : (u.receiveTrace p w).maintained = u.maintained := by
  have received := Supervisor.setRecord_maintained (u := u) (p := p)
    (r := u.record[p].received (PortConfig.persistence u.config[p]) (receivedTrace w)) rfl
  by_cases accepts : u.record[p].accepts (PortConfig.persistence u.config[p]) (receivedTrace w)
  · rw [Supervisor.receiveTrace_accepted accepts]
    exact (Supervisor.acceptTrace_maintained _ p _).trans received
  · rw [Supervisor.receiveTrace_waits accepts]
    exact (Supervisor.awaitTrace_maintained _ p).trans received

theorem Supervisor.traceWork_maintained (u : Supervisor) (p : Port) (a : Answer) : (u.traceWork p a).maintained = u.maintained := by
  unfold Supervisor.traceWork
  split
  · split
    · exact u.dropTrace_maintained p _ _
    · exact u.receiveTrace_maintained p _
  · exact u.dropTrace_maintained p _ _
  · exact u.dropTrace_maintained p _ _
  · rfl

theorem Supervisor.missed_maintained (u : Supervisor) (p : Port) : (u.missed p).maintained = u.maintained := by
  unfold Supervisor.missed
  split
  · exact Supervisor.setRecord_maintained rfl
  · exact (Supervisor.dropTrace_maintained _ p _ _).trans (Supervisor.setRecord_maintained rfl)
  · rfl

/-- No update of a port touches its maintenance (R25 to R30). -/
theorem Supervisor.updated_maintained (u : Supervisor) (p : Port) (a : Option Answer) : (u.updated p a).maintained = u.maintained := by
  cases a with
  | none => exact u.missed_maintained p
  | some a =>
    refine (Supervisor.traceWork_maintained _ p a).trans (Supervisor.setRecord_maintained ?_)
    rw [PortRecord.answered_eq]

theorem Supervisor.kindChanged_maintained (u : Supervisor) (p : Port) (k : MonitorKind) : (u.kindChanged p k).maintained = u.maintained := by
  have dropped {r : PortRecord} (x : TraceState) (h : r.maintenance = u.record[p].maintenance) :
      ((u.setRecord p r).dropTrace p x true).maintained = u.maintained :=
    (Supervisor.dropTrace_maintained _ p x true).trans (Supervisor.setRecord_maintained h)
  unfold Supervisor.kindChanged
  dsimp only
  split
  case h_6 => rfl
  case h_7 => rfl
  all_goals exact dropped _ rfl

theorem Supervisor.expectedChanged_maintained (u : Supervisor) (p : Port) : (u.expectedChanged p).maintained = u.maintained := by
  unfold Supervisor.expectedChanged
  dsimp only
  split
  case h_4 => rfl
  all_goals exact Supervisor.setRecord_maintained rfl

/-- No change of a port's configuration touches maintenance (R31 to R34). -/
theorem Supervisor.portChanged_maintained (u : Supervisor) (p : Port) (f : Fin 8) (old : Vector Word 8) :
    (u.portChanged p f old).maintained = u.maintained := by
  unfold Supervisor.portChanged
  split
  · split
    · rfl
    · exact u.kindChanged_maintained p _
  · exact u.expectedChanged_maintained p
  case h_7 => exact Supervisor.setRecord_maintained rfl
  case h_8 => exact Supervisor.setRecord_maintained rfl
  all_goals rfl

theorem Supervisor.calibrationChanged_maintained (u : Supervisor) (n : Fin 8) : (u.calibrationChanged n).maintained = u.maintained := by
  funext q
  unfold Supervisor.maintained
  rw [Claims.Supervisor.calibrationChanged_record]
  split <;> rfl

end Sys2Proof.Machine

namespace Sys2Proof.Machine

/-! ## The laws of the alarm unit through a change of it (R165, R166, R168, R170 to R172) -/

/-- What the laws of the alarm unit speak of: all of it but the mask and the attention causes of other units. -/
def Alarm.board (a : Alarm) :
    Vector Word 22 × BitVec 256 × BitVec 256 × Bool × RelayMode × Relays × Relays × Relays :=
  (a.profile, a.raised, a.latched, a.alarmChange, a.mode, a.critical, a.major, a.minor)

theorem State.AlarmSound.congr {s t : State} (h : s.AlarmSound) (board : t.alarm.board = s.alarm.board)
    (maintained : t.sup.maintained = s.sup.maintained) : t.AlarmSound := by
  simp only [Alarm.board, Prod.mk.injEq] at board
  obtain ⟨profile, raised, latched, alarmChange, mode, critical, major, minor⟩ := board
  obtain ⟨change, follow, allAlarm, spare⟩ := h
  constructor
  · rwa [alarmChange, latched]
  · rwa [mode, critical, major, minor, State.countOf_congr raised profile maintained]
  · rwa [mode, critical, major, minor]
  · rwa [raised, latched]

/-- The laws of the alarm unit but for those of FOLLOW, which judging the relays restores. -/
structure State.PointsSound (s : State) : Prop where
  change   : s.alarm.alarmChange = true ↔ s.alarm.latched ≠ 0
  allAlarm : s.alarm.mode = .allAlarm →
    s.alarm.critical = Relays.alarm ∧ s.alarm.major = Relays.alarm ∧ s.alarm.minor = Relays.alarm
  spare    : s.alarm.raised.getLsbD 255 = false ∧ s.alarm.latched.getLsbD 255 = false

theorem State.AlarmSound.points {s : State} (h : s.AlarmSound) : s.PointsSound := ⟨h.change, h.allAlarm, h.spare⟩

/-- Relays judged afresh are right for what is counted now, whatever was counted before (R170, R171). -/
theorem State.PointsSound.judged {s : State} (h : s.PointsSound) (old : State) : (State.judgeRelays old s).AlarmSound := by
  unfold State.judgeRelays
  split
  next follow =>
    exact ⟨h.change, fun _ => ⟨relaysFollowing_right _ _, relaysFollowing_right _ _, relaysFollowing_right _ _⟩,
      fun all => absurd (follow.symm.trans all) nofun, h.spare⟩
  next other => exact ⟨h.change, fun follow => absurd follow other, h.allAlarm, h.spare⟩

/-- No point stands at place 255 (R168). -/
theorem pointBit_spare (pt : Point) : (pointBit pt).getLsbD 255 = false := by
  have low := pt.index_lt
  simp [pointBit]
  omega

/-- A point replaced raises ALARM-CHANGE with its latch (R166, R172). -/
theorem State.PointsSound.latchPoint {s : State} (h : s.PointsSound) (pt : Point) (v : Bool) : (s.latchPoint pt v).PointsSound := by
  obtain ⟨raised, latched⟩ := h.spare
  refine ⟨iff_of_true rfl fun clear => ?_, h.allAlarm, ?_, ?_⟩
  · have set : (s.latchPoint pt v).alarm.latched.getLsbD pt.index = true := by
      simp [State.latchPoint, getLsbD_pointBit]
    rw [clear] at set
    simp at set
  · cases v
    · exact (BitVec.getLsbD_and ..).trans (by rw [raised, Bool.false_and])
    · exact (BitVec.getLsbD_or ..).trans (by rw [raised, pointBit_spare, Bool.or_self])
  · exact (BitVec.getLsbD_or ..).trans (by rw [latched, pointBit_spare, Bool.or_self])

/-! ### From one state to the next -/

/-- `t` follows `s` without harm to the laws of the alarm unit. -/
def State.KeepsAlarms (s t : State) : Prop := s.AlarmSound → t.AlarmSound

namespace State.KeepsAlarms

theorem refl (s : State) : s.KeepsAlarms s := id

theorem trans {s t u : State} (h : s.KeepsAlarms t) (k : t.KeepsAlarms u) : s.KeepsAlarms u := k ∘ h

theorem ite {s t u : State} {c : Prop} [Decidable c] (h : s.KeepsAlarms t) (k : s.KeepsAlarms u) :
    s.KeepsAlarms (if c then t else u) := by
  split <;> assumption

theorem iteSelf {s t : State} {c : Prop} [Decidable c] (h : s.KeepsAlarms t) : s.KeepsAlarms (if c then t else s) := h.ite (refl s)

theorem foldl {α : Type} {f : State → α → State} (h : ∀ (s : State) (a : α), s.KeepsAlarms (f s a)) (l : List α) (s : State) :
    s.KeepsAlarms (l.foldl f s) := by
  induction l generalizing s with
  | nil => exact id
  | cons a l ih => exact (h s a).trans (ih _)

/-- An effect that leaves what the laws speak of. -/
theorem of_board {s t : State} (board : t.alarm.board = s.alarm.board) (maintained : t.sup.maintained = s.sup.maintained) :
    s.KeepsAlarms t := fun sound => sound.congr board maintained

/-- An effect on neither the alarm unit nor the port supervisor. -/
theorem of_frame {s t : State} (h : t.alarm = s.alarm ∧ t.sup = s.sup) : s.KeepsAlarms t :=
  of_board (by rw [h.1]) (by rw [h.2])

theorem then_frame {s t u : State} (h : s.KeepsAlarms t) (k : u.alarm = t.alarm ∧ u.sup = t.sup) : s.KeepsAlarms u :=
  h.trans (of_frame k)

theorem after_frame {s t u : State} (k : t.KeepsAlarms u) (h : t.alarm = s.alarm ∧ t.sup = s.sup) : s.KeepsAlarms u :=
  (of_frame h).trans k

end State.KeepsAlarms

/-! ### The alarm unit -/

theorem State.setPoint_keepsAlarms (s : State) (pt : Point) (v : Bool) : s.KeepsAlarms (s.setPoint pt v) := by
  refine .ite (.refl s) fun sound => State.PointsSound.judged ?_ s
  have latched := sound.points.latchPoint pt v
  have alarm : ((s.latchPoint pt v).reportPoint pt v).alarm = (s.latchPoint pt v).alarm := by simp only [State.reportPoint_frame]
  exact ⟨alarm ▸ latched.change, alarm ▸ latched.allAlarm, alarm ▸ latched.spare⟩

theorem State.putEvent_keepsAlarms (s : State) (o : Nat) (d : Detail) : s.KeepsAlarms (s.putEvent o d) :=
  .of_frame (by simp only [State.putEvent_frame, and_self])

/-- A cut-off leaves the relays right (R171). -/
theorem State.cutOff_keepsAlarms (s : State) : s.KeepsAlarms s.cutOff := by
  unfold State.cutOff
  split
  next follow =>
    intro sound
    obtain ⟨critical, major, minor⟩ := sound.follow follow
    exact ⟨sound.change, fun _ => ⟨critical.cut, major.cut, minor.cut⟩, fun all => absurd (follow.symm.trans all) nofun, sound.spare⟩
  · exact .refl s

theorem State.enterAllAlarm_keepsAlarms (s : State) : s.KeepsAlarms s.enterAllAlarm := fun sound =>
  ⟨sound.change, nofun, fun _ => ⟨rfl, rfl, rfl⟩, sound.spare⟩

theorem State.enterFollow_keepsAlarms (s : State) : s.KeepsAlarms s.enterFollow := fun sound =>
  ⟨sound.change, fun _ => ⟨relaysFollowing_right _ _, relaysFollowing_right _ _, relaysFollowing_right _ _⟩, nofun, sound.spare⟩

/-- ALARM-CHANGE clears with the last latch a read clears (R10, R172). -/
theorem State.readChange_keepsAlarms (s : State) (w : Fin 16) (l : Lanes) : s.KeepsAlarms (s.readChange w l) := by
  intro sound
  obtain ⟨raised, latched⟩ := sound.spare
  refine ⟨?_, sound.follow, sound.allAlarm, raised, ?_⟩
  · simp [State.readChange, Alarm.changeRead]
  · exact ((BitVec.getLsbD_and ..).trans (congrArg (· && _) latched)).trans (Bool.false_and _)

/-- A read of IDENTIFICATION clears a cause of another unit at most (R174). -/
theorem Alarm.identificationRead_board (a : Alarm) (l : Lanes) : (a.identificationRead l).board = a.board := by
  unfold Alarm.identificationRead
  (repeat' split) <;> rfl

theorem State.readLive_keepsAlarms (s : State) (v : LiveWord) (l : Lanes) : s.KeepsAlarms (s.readLive v l) :=
  .ite (.of_board (Alarm.identificationRead_board _ l) rfl) (.of_frame ⟨rfl, rfl⟩)

end Sys2Proof.Machine

namespace Sys2Proof.Machine

/-! ## Every command keeps the laws of the alarm unit (R165 to R172) -/

/-! ### The timing unit -/

theorem State.timingEvent_keepsAlarms (began s : State) : s.KeepsAlarms (State.timingEvent began s) :=
  .ite (.refl s) (s.putEvent_keepsAlarms _ _)

theorem State.timingAlarms_keepsAlarms (s : State) : s.KeepsAlarms s.timingAlarms :=
  .trans (.foldl (fun s _ => .foldl (fun s _ => s.setPoint_keepsAlarms _ _) _ s) _ s)
    (.foldl (fun s _ => s.setPoint_keepsAlarms _ _) _ _)

/-- A step of the timing unit touches the alarm unit by its points alone (R159). -/
theorem State.retimeFrom_keepsAlarms (began s : State) : s.KeepsAlarms (State.retimeFrom began s) := by
  have chosen : s.KeepsAlarms s.decideSlots.reselect :=
    .of_frame (by simp only [State.reselect_frame, State.decideSlots_frame, and_self])
  exact (chosen.trans (State.timingEvent_keepsAlarms began _)).trans (State.timingAlarms_keepsAlarms _)

theorem State.retime_keepsAlarms (s : State) : s.KeepsAlarms s.retime := State.retimeFrom_keepsAlarms s s

theorem State.timingReport_keepsAlarms (s : State) (e : ElementId) : s.KeepsAlarms (s.timingReport e) :=
  .trans (.foldl (fun _ _ => .iteSelf (.of_frame (by simp only [State.lineReport_frame, and_self]))) _ s)
    (State.retimeFrom_keepsAlarms s _)

theorem State.timingGroupChange_keepsAlarms (s : State) (g : GroupId) : s.KeepsAlarms (s.timingGroupChange g) :=
  .iteSelf (.trans (.foldl (fun _ _ => .iteSelf (.of_frame (by simp only [State.takeDecision_frame, and_self]))) _ s)
    (State.retimeFrom_keepsAlarms s _))

theorem State.timingStart_keepsAlarms (s : State) : s.KeepsAlarms s.timingStart :=
  .trans (.foldl (fun _ _ => .of_frame (by simp only [State.startLine_frame, and_self])) _ s) (State.retimeFrom_keepsAlarms s _)

theorem State.setForce_keepsAlarms (s : State) (f : Option SlotId) : s.KeepsAlarms (s.setForce f) :=
  .after_frame (State.retimeFrom_keepsAlarms s _) ⟨rfl, rfl⟩

/-- A step of the timing unit that begins with a slot's record, at a time of its own. -/
theorem State.setSlot_retimed (s : State) (n : Nat) (i : SlotId) (r : Slot) (began : State) :
    s.KeepsAlarms (State.retimeFrom began ((s.passTo n).setSlot i r)) :=
  .after_frame (State.retimeFrom_keepsAlarms began _) ⟨rfl, rfl⟩

theorem State.takePulse_keepsAlarms (s : State) (i : SlotId) : s.KeepsAlarms (s.takePulse i) :=
  .iteSelf (.after_frame (State.retimeFrom_keepsAlarms s _) ⟨rfl, rfl⟩)

theorem State.lossExpire_keepsAlarms (s : State) (i : SlotId) : s.KeepsAlarms (s.lossExpire i) := by
  unfold State.lossExpire
  split
  · exact .refl s
  · exact s.setSlot_retimed _ i _ _

theorem State.qualifyExpire_keepsAlarms (s : State) (i : SlotId) : s.KeepsAlarms (s.qualifyExpire i) := by
  unfold State.qualifyExpire
  split
  · exact s.setSlot_retimed _ i _ _
  · exact .refl s

theorem State.settleExpire_keepsAlarms (s : State) (l : LineId) : s.KeepsAlarms (s.settleExpire l) := by
  unfold State.settleExpire
  dsimp only
  split
  · exact .refl s
  · exact s.setSlot_retimed _ _ _ _

theorem State.abandonGate_keepsAlarms (s : State) (i : SlotId) : s.KeepsAlarms (s.abandonGate i) :=
  .iteSelf (.after_frame (State.retimeFrom_keepsAlarms s _) ⟨rfl, rfl⟩)

theorem State.judgedGate_keepsAlarms (s : State) (i : SlotId) (m : Nat) : s.KeepsAlarms (s.judgedGate i m) := by
  unfold State.judgedGate
  dsimp only
  refine .trans (.trans ?_ (State.timingEvent_keepsAlarms s _)) (State.timingAlarms_keepsAlarms _)
  refine .trans (.of_frame ?_) (.iteSelf (.of_frame ⟨rfl, rfl⟩))
  simp only [State.reselect_frame, State.decideSlots_frame, State.setSlot_frame, and_self]

theorem State.completeGate_keepsAlarms (s : State) (i : SlotId) (m : Nat) : s.KeepsAlarms (s.completeGate i m) :=
  .iteSelf (.ite (s.judgedGate_keepsAlarms i m) (s.abandonGate_keepsAlarms i))

/-! ### The protection controller and the switch driver -/

theorem State.handConditions_keepsAlarms (s : State) (heard : Driver) (g : GroupId) : s.KeepsAlarms (s.handConditions heard g) :=
  .after_frame (t := s.setGroup g _) (.foldl (fun s _ => s.setPoint_keepsAlarms _ _) _ _) ⟨rfl, rfl⟩

/-- Handing the conditions over and forming the transmit word, the end of every update. -/
theorem State.handed_keepsAlarms (s : State) (heard : Driver) (g : GroupId) :
    s.KeepsAlarms ((s.handConditions heard g).formTransmit heard g) :=
  (s.handConditions_keepsAlarms heard g).then_frame (by simp only [State.formTransmit_frame, and_self])

theorem State.takeUpdate_keepsAlarms (s : State) (heard : Driver) (first : Bool) (g : GroupId) :
    s.KeepsAlarms (s.takeUpdate heard first g) := by
  have brought : s.KeepsAlarms (s.bringRequests g) := .of_frame (by simp only [State.bringRequests_frame, and_self])
  have evaluated (u : State) : u.KeepsAlarms (u.evaluate first g) := .of_frame (by simp only [State.evaluate_frame, and_self])
  exact (brought.trans (.iteSelf (evaluated _))).trans (State.handed_keepsAlarms _ heard g)

theorem State.takeOwnReport_keepsAlarms (s : State) (old heard : Driver) (g : GroupId) (e : Option ElementId) :
    s.KeepsAlarms (s.takeOwnReport old heard g e) := by
  cases e with
  | none => exact .refl s
  | some e =>
    exact .iteSelf (.after_frame (State.takeUpdate_keepsAlarms _ heard false g) (by simp only [State.noteReport_frame, and_self]))

theorem State.reportSelector_keepsAlarms (before s : State) (g : GroupId) : s.KeepsAlarms (State.reportSelector before s g) := by
  unfold State.reportSelector
  split
  · exact .iteSelf (s.timingReport_keepsAlarms _)
  · exact .refl s

theorem State.groupUpdate_keepsAlarms (s : State) (first : Bool) (g : GroupId) : s.KeepsAlarms (s.groupUpdate first g) :=
  (((s.takeUpdate_keepsAlarms s.driver first g).trans (State.takeOwnReport_keepsAlarms _ _ _ g _)).trans
    (State.takeOwnReport_keepsAlarms _ _ _ g _)).trans (State.reportSelector_keepsAlarms s _ g)

theorem State.updateGroup_keepsAlarms (s : State) (g : GroupId) : s.KeepsAlarms (s.updateGroup g) := s.groupUpdate_keepsAlarms false g

/-- An update of a group whose input left the alarm unit and the port supervisor. -/
theorem State.KeepsAlarms.update {s u : State} (g : GroupId) (h : u.alarm = s.alarm ∧ u.sup = s.sup) : s.KeepsAlarms (u.updateGroup g) :=
  (u.updateGroup_keepsAlarms g).after_frame h

theorem State.takeReport_keepsAlarms (s : State) (e : ElementId) : s.KeepsAlarms (s.takeReport e) := by
  unfold State.takeReport
  dsimp only
  refine .trans ?_ (State.timingReport_keepsAlarms _ e)
  split
  next g _ => exact .update g (by simp only [State.noteReport_frame, and_self])
  · exact .refl s

theorem State.takeReportIf_keepsAlarms (before s : State) (e : ElementId) : s.KeepsAlarms (State.takeReportIf before s e) :=
  .iteSelf (s.takeReport_keepsAlarms e)

theorem State.senseChange_keepsAlarms (s : State) (e : ElementId) (v : Option Position) : s.KeepsAlarms (s.senseChange e v) := by
  have reported := State.takeReportIf_keepsAlarms s (s.setElement e ((s.element e).senseOn v (s.after Config.travelTime))) e
  unfold State.senseChange
  exact .ite (.refl s) (.ite (reported.after_frame ⟨rfl, rfl⟩) (.of_frame ⟨rfl, rfl⟩))

theorem State.travelExpire_keepsAlarms (s : State) (e : ElementId) : s.KeepsAlarms (s.travelExpire e) := by
  unfold State.travelExpire
  split
  · exact .refl s
  · exact .after_frame (t := (s.passTo _).setElement e _) (State.takeReportIf_keepsAlarms _ _ e) ⟨rfl, rfl⟩

theorem State.judgeCandidate_keepsAlarms (s : State) (g : GroupId) (w : Word) : s.KeepsAlarms (s.judgeCandidate g w) := by
  have judged (r : Group) : s.KeepsAlarms ((s.setGroup g r).updateGroup g) := .update g ⟨rfl, rfl⟩
  unfold State.judgeCandidate
  refine .ite (.ite (.iteSelf (judged _)) (.update g ?_)) (.ite (.refl s) (judged _))
  split
  · simp only [State.cancelManual_frame, State.setGroup_frame, and_self]
  · exact ⟨rfl, rfl⟩

theorem State.takeBridgeWord_keepsAlarms (s : State) (p : Port) (w : Word) : s.KeepsAlarms (s.takeBridgeWord p w) := by
  unfold State.takeBridgeWord
  split
  · exact .refl s
  · exact .ite (.refl s) (.after_frame (t := s.setGroup _ _) (.iteSelf (State.judgeCandidate_keepsAlarms _ _ w)) ⟨rfl, rfl⟩)

theorem State.holdOffExpire_keepsAlarms (s : State) (g : GroupId) (k : ChannelIx) : s.KeepsAlarms (s.holdOffExpire g k) := by
  unfold State.holdOffExpire
  split
  · exact .refl s
  · exact .update g ⟨rfl, rfl⟩

theorem State.restoreWaitExpire_keepsAlarms (s : State) (g : GroupId) : s.KeepsAlarms (s.restoreWaitExpire g) := by
  unfold State.restoreWaitExpire
  split
  · exact .refl s
  · exact .update g ⟨rfl, rfl⟩

theorem State.confirmationExpire_keepsAlarms (s : State) (g : GroupId) : s.KeepsAlarms (s.confirmationExpire g) := by
  unfold State.confirmationExpire
  split
  · exact .refl s
  · exact .update g ⟨rfl, rfl⟩

theorem State.storeCommand_keepsAlarms (s : State) (c : StoredKind) (o n : Nat) : s.KeepsAlarms (s.storeCommand c o n).1 := by
  unfold State.storeCommand
  split
  · dsimp only
    split
    · exact .refl s
    · exact .update _ ⟨rfl, rfl⟩
  · exact .refl s

theorem State.clearGroup_keepsAlarms (s : State) (o n : Nat) : s.KeepsAlarms (s.clearGroup o n).1 := by
  unfold State.clearGroup
  split
  · dsimp only
    split
    · exact .update _ ⟨rfl, rfl⟩
    · exact .refl s
  · exact .refl s

theorem State.handElements_keepsAlarms (s : State) (g : GroupId) : s.KeepsAlarms (s.handElements g) :=
  (s.setPoint_keepsAlarms _ _).trans (State.setPoint_keepsAlarms _ _ _)

/-- A group reconfigured hands over the points of newly named elements before its update (R93, R122). -/
theorem State.reconfigured_keepsAlarms (s : State) (g : GroupId) (old : Vector Word 8) : s.KeepsAlarms (s.reconfigured g old) := by
  have placed (r : Group) : s.KeepsAlarms (s.setGroup g r) := .of_frame ⟨rfl, rfl⟩
  have ended (u : State) (new : Vector Word 8) : u.KeepsAlarms (u.endTransmit old new) :=
    .of_frame (by simp only [State.endTransmit_frame, and_self])
  unfold State.reconfigured
  refine .trans ?_ (ended _ _)
  exact .ite (placed _) ((placed _).trans (State.handElements_keepsAlarms _ g))

theorem State.groupChanged_keepsAlarms (s : State) (g : GroupId) (old : Vector Word 8) : s.KeepsAlarms (s.groupChanged g old) := by
  have updated := (s.reconfigured_keepsAlarms g old).trans (State.updateGroup_keepsAlarms _ g)
  rw [s.groupChanged_eq]
  exact .ite (updated.trans (State.timingGroupChange_keepsAlarms _ g)) updated

theorem State.adoptGroup_keepsAlarms (s : State) (g : GroupId) : s.KeepsAlarms (s.adoptGroup g) :=
  .after_frame (t := s.setGroup g _) (State.handed_keepsAlarms _ _ g) ⟨rfl, rfl⟩

/-! ### The port supervisor and the scan controller -/

theorem State.portPoints_keepsAlarms (s : State) (p : Port) : s.KeepsAlarms (s.portPoints p) :=
  .foldl (fun s _ => s.setPoint_keepsAlarms _ _) _ s

theorem State.handOver_keepsAlarms (old s : State) (w : Option (Port × Word)) : s.KeepsAlarms (State.handOver old s w) := by
  have groups : s.KeepsAlarms ((List.finRange 12).foldl (fun t g => if State.memberChanged old s g then t.updateGroup g else t) s) :=
    .foldl (fun t g => .iteSelf (t.updateGroup_keepsAlarms g)) _ s
  have points (t : State) :
      t.KeepsAlarms ((List.finRange 24).foldl (fun t p => if State.portChanged old s p then t.portPoints p else t) t.retime) :=
    t.retime_keepsAlarms.trans (.foldl (fun t p => .iteSelf (t.portPoints_keepsAlarms p)) _ _)
  unfold State.handOver
  cases w with
  | none => exact groups.trans (points _)
  | some w => exact (groups.trans (State.takeBridgeWord_keepsAlarms _ _ _)).trans (points _)

/-- A change of the port supervisor's records that leaves maintenance, handed over. -/
theorem State.KeepsAlarms.handed {s : State} {u : Supervisor} (h : u.maintained = s.sup.maintained) (old : State)
    (w : Option (Port × Word)) : s.KeepsAlarms (State.handOver old { s with sup := u } w) :=
  .trans (.of_board (t := { s with sup := u }) rfl h) (State.handOver_keepsAlarms old _ w)

theorem State.takeResult_keepsAlarms (s : State) (p : Port) (a : Option Answer) : s.KeepsAlarms (s.takeResult p a) :=
  .ite (.refl s) (.handed (s.sup.updated_maintained p a) s _)

/-- The end of a round evaluates groups for the first time, and the first complete one begins FOLLOW (R96, R170). -/
theorem State.roundEnd_keepsAlarms (s : State) (n : Nat) : s.KeepsAlarms (s.roundEnd n) := by
  have evaluated : s.KeepsAlarms (s.firstEvaluations n) := .foldl (fun s g => .iteSelf (s.groupUpdate_keepsAlarms true g)) _ s
  exact .ite (evaluated.trans (State.enterFollow_keepsAlarms _)) evaluated

theorem State.drain_keepsAlarms (s : State) (l : List ProcessedRound) : s.KeepsAlarms (s.drain l) := by
  have waits (s : State) (l : List ProcessedRound) : s.KeepsAlarms { s with sup := { s.sup with rounds := l } } := .of_board rfl rfl
  induction l generalizing s with
  | nil => exact waits s []
  | cons r rest ih => exact .ite ((s.roundEnd_keepsAlarms _).trans (ih _)) (waits s _)

theorem State.portUpdate_keepsAlarms (s : State) : s.KeepsAlarms s.portUpdate := by
  unfold State.portUpdate
  split
  · exact .refl s
  · split
    · exact s.drain_keepsAlarms _
    · exact (s.takeResult_keepsAlarms _ _).trans (State.drain_keepsAlarms _ _)

/-- A change of maintenance changes what is counted, and the relays are judged by it (R167, R170). -/
theorem State.changeMaintenance_keepsAlarms (s : State) (p : Port) (v : Bool) : s.KeepsAlarms (s.changeMaintenance p v) := by
  have judged : s.KeepsAlarms (State.judgeRelays s { s with sup := s.sup.setMaintenance p v }) := fun sound =>
    State.PointsSound.judged (s := { s with sup := s.sup.setMaintenance p v }) ⟨sound.change, sound.allAlarm, sound.spare⟩ s
  exact judged.trans (State.handOver_keepsAlarms s _ none)

theorem State.maint_keepsAlarms (s : State) (o : Nat) : s.KeepsAlarms (s.maint o).1 := by
  unfold State.maint
  dsimp only
  (repeat' split)
  case isTrue.isFalse.isFalse.isFalse => exact s.changeMaintenance_keepsAlarms _ _
  all_goals exact .refl s

theorem State.release_keepsAlarms (s : State) (o : Nat) : s.KeepsAlarms (s.release o).1 := by
  unfold State.release
  dsimp only
  (repeat' split)
  case isTrue.isTrue => exact s.changeMaintenance_keepsAlarms _ _
  all_goals exact .refl s

theorem State.endSlot_keepsAlarms (s : State) : s.KeepsAlarms s.endSlot := by
  have classified (fault : Bool) (run : Nat) : s.KeepsAlarms (s.classified fault run) :=
    .after_frame (State.setPoint_keepsAlarms _ _ _) ⟨rfl, rfl⟩
  unfold State.endSlot
  split
  · exact .refl s
  next r _ =>
    split
    · exact .refl s
    · split
      · exact .of_frame ⟨rfl, rfl⟩
      · by_cases held : faulted r.gather = true ∧ nextRun (faulted r.gather) s.scan.faultedRun ≤ 25
        · rw [State.classifyRound_held rfl rfl held]
          exact classified _ _
        · rw [State.classifyRound_processed rfl rfl held]
          exact (classified _ _).trans (.after_frame (State.drain_keepsAlarms _ _) ⟨rfl, rfl⟩)

end Sys2Proof.Machine

namespace Sys2Proof.Machine

/-! ### The poster and the start of RUNNING -/

theorem State.handRingFormat_keepsAlarms (s : State) : s.KeepsAlarms s.handRingFormat := s.setPoint_keepsAlarms _ _

theorem State.takeRing_keepsAlarms (s : State) (x : PosterState) : s.KeepsAlarms (s.takeRing x) :=
  .of_frame (by simp only [State.takeRing_frame, and_self])

theorem State.startRing_keepsAlarms (s : State) : s.KeepsAlarms s.startRing :=
  (s.takeRing_keepsAlarms _).trans (State.handRingFormat_keepsAlarms _)

/-- An effect on the poster and the attention causes alone. -/
theorem State.KeepsAlarms.of_poster (s : State) (p : Poster) {a : Alarm} (h : a.board = s.alarm.board) :
    s.KeepsAlarms { s with poster := p, alarm := a } := of_board h rfl

theorem State.enterBusy_keepsAlarms (s : State) : s.KeepsAlarms s.enterBusy :=
  .trans (.of_poster s { s.poster with state := .busy } (a := { s.alarm with ringBusy := true }) rfl)
    (State.setPoint_keepsAlarms _ _ _)

theorem State.endBusy_keepsAlarms (s : State) : s.KeepsAlarms s.endBusy :=
  .trans (.of_poster s s.poster (a := { s.alarm with ringBusy := false }) rfl) (State.setPoint_keepsAlarms _ _ _)

theorem State.readWord0_keepsAlarms (s : State) : s.KeepsAlarms s.readWord0 := by
  unfold State.readWord0
  split
  · exact .refl s
  · exact .ite (.of_poster s _ rfl) s.enterBusy_keepsAlarms

theorem State.writeWord0_keepsAlarms (s : State) : s.KeepsAlarms s.writeWord0 := by
  unfold State.writeWord0
  split
  next b _ _ =>
    exact .trans (.of_board (t := { State.memWrite s _ _ _ with
      poster := s.poster.posted b, alarm := { s.alarm with eventPosted := true } }) rfl rfl) (State.handRingFormat_keepsAlarms _)
  · exact .refl s

theorem State.resume_keepsAlarms (s : State) : s.KeepsAlarms s.resume := by
  have ended (u : State) : u.KeepsAlarms u.endBusy.handRingFormat :=
    u.endBusy_keepsAlarms.trans (State.handRingFormat_keepsAlarms _)
  have cleared : s.KeepsAlarms { s with poster := { s.poster with wrapFault := false } } := .of_poster s _ rfl
  unfold State.resume
  refine cleared.trans ?_
  dsimp only
  split
  · refine .trans ?_ (ended _)
    exact .ite (State.takeRing_keepsAlarms _ _) (.of_frame ⟨rfl, rfl⟩)
  · exact (State.takeRing_keepsAlarms _ _).trans (State.handRingFormat_keepsAlarms _)
  · exact State.handRingFormat_keepsAlarms _
  · exact State.handRingFormat_keepsAlarms _

theorem State.completeRestart_keepsAlarms (s : State) : s.KeepsAlarms s.completeRestart := by
  have owed : s.KeepsAlarms { s with mailbox := { s.mailbox with restartOwed := false } } := .of_frame ⟨rfl, rfl⟩
  exact .iteSelf ((owed.trans (State.putEvent_keepsAlarms _ _ _)).trans (.of_board rfl rfl))

theorem State.beginRunning_keepsAlarms (s : State) : s.KeepsAlarms s.beginRunning := by
  have pointed : s.KeepsAlarms (State.setPoint { s with path := { s.path with op := .running } } .imageNotReady false) :=
    .after_frame (State.setPoint_keepsAlarms _ _ _) ⟨rfl, rfl⟩
  have elements : s.KeepsAlarms s.elementsAdopted := pointed.then_frame ⟨rfl, rfl⟩
  have groups : s.KeepsAlarms s.groupsAdopted := elements.trans (.foldl State.adoptGroup_keepsAlarms _ _)
  have round : s.KeepsAlarms s.groupsAdopted.timingStart.beginRound :=
    (groups.trans (State.timingStart_keepsAlarms _)).then_frame ⟨rfl, rfl⟩
  rw [s.beginRunning_eq]
  exact (round.trans (State.startRing_keepsAlarms _)).trans (State.completeRestart_keepsAlarms _)

/-! ### The owner of a watched word -/

/-- What follows from a changed held value that counts no point otherwise. -/
theorem State.changed_keepsAlarms (old s : State) {w : Watched} (other : ∀ k, w ≠ .profile k) : s.KeepsAlarms (State.changed old s w) := by
  cases w with
  | profile k => exact absurd rfl (other k)
  | port p j => exact .handed (s.sup.portChanged_maintained p j _) old none
  | calibration n j => exact .of_board (t := { s with sup := s.sup.calibrationChanged n }) rfl (s.sup.calibrationChanged_maintained n)
  | group g j => exact s.groupChanged_keepsAlarms g _
  | slot i j => exact State.retimeFrom_keepsAlarms old s
  | source l =>
    have decided : s.KeepsAlarms (if s.path.op = .running then s.takeDecision l else s) :=
      .iteSelf (.of_frame (by simp only [State.takeDecision_frame, and_self]))
    exact decided.trans (State.retimeFrom_keepsAlarms old _)
  | ringBase | ringSize => exact .of_frame ⟨rfl, rfl⟩
  | shelfNumber | attentionMask | stationKind => exact .refl s

/-- A held value is none of what the laws speak of, but for a profile word. -/
theorem State.setHeld_keepsAlarms (s : State) {w : Watched} (v : Word) (other : ∀ k, w ≠ .profile k) : s.KeepsAlarms (s.setHeld w v) := by
  cases w with
  | profile k => exact absurd rfl (other k)
  | _ => exact .of_board rfl rfl

/-- The owner of a new value: a profile word changes what is counted, and the relays are judged by it (R163, R167). -/
theorem State.takeHeld_keepsAlarms (s : State) (w : Watched) (v : Word) : s.KeepsAlarms (s.takeHeld w v) := by
  refine .ite (.refl s) ?_
  cases w with
  | profile k => exact fun sound => State.PointsSound.judged (s := s.setHeld (.profile k) v) ⟨sound.change, sound.allAlarm, sound.spare⟩ s
  | _ =>
    exact (s.setHeld_keepsAlarms v (fun _ => Watched.noConfusion)).trans (State.changed_keepsAlarms s _ (fun _ => Watched.noConfusion))

theorem State.take_keepsAlarms (s : State) (w : Watched) (v : Word) (x : Verdict) : s.KeepsAlarms (s.take w v x) :=
  (s.takeHeld_keepsAlarms w v).then_frame (by simp only [State.take, State.provision_frame, and_self])

theorem State.watchedWrite_keepsAlarms (s : State) (w : Watched) (l : Lanes) (d : Word) : s.KeepsAlarms (s.watchedWrite w l d) := by
  rw [s.watchedWrite_eq]
  exact .after_frame (State.take_keepsAlarms _ w _ _) ⟨rfl, rfl⟩

/-! ### The command unit -/

theorem State.recordWord_keepsAlarms (s : State) (w : Word) (r : CommandResult) : s.KeepsAlarms (s.recordWord w r) := by
  refine .of_board ?_ (by simp only [State.recordWord_frame])
  unfold State.recordWord
  rw [(s.recordResult_mailbox _ _ r).2.1]
  rfl

theorem State.block_keepsAlarms (s : State) (w : Word) (r : CommandResult) : s.KeepsAlarms (s.block w r) :=
  .after_frame (State.recordWord_keepsAlarms _ w r) ⟨rfl, rfl⟩

theorem State.handToOwner_keepsAlarms (s : State) (c : Command) (o n : Nat) : s.KeepsAlarms (s.handToOwner c o n).1 := by
  cases c with
  | bar | force | manual => exact s.storeCommand_keepsAlarms _ o n
  | clear => exact s.clearGroup_keepsAlarms o n
  | maint => exact s.maint_keepsAlarms o
  | release => exact s.release_keepsAlarms o
  | resume => exact s.resume_keepsAlarms
  | aco => exact s.cutOff_keepsAlarms
  | restart => exact .refl s
  | clearRef => exact s.setForce_keepsAlarms none
  | forceRef =>
    change s.KeepsAlarms (s.forceRef o).1
    unfold State.forceRef
    (repeat' split)
    case isTrue.isFalse => exact s.setForce_keepsAlarms _
    all_goals exact .refl s

theorem State.executeWord_keepsAlarms (s : State) (c : Command) (w : Word) : s.KeepsAlarms (s.executeWord c w) :=
  (s.handToOwner_keepsAlarms c (commandObject w) (commandChannel w)).trans (State.recordWord_keepsAlarms _ w _)

theorem State.newCommand_keepsAlarms (s : State) (w : Word) : s.KeepsAlarms (s.newCommand w) := by
  unfold State.newCommand
  split
  · refine .of_board ?_ (by simp only [State.recordResult_frame])
    rw [(s.recordResult_mailbox _ _ _).2.1]
    rfl
  · exact .ite (.of_frame ⟨rfl, rfl⟩) (s.executeWord_keepsAlarms _ w)

theorem State.commandWrite_keepsAlarms (s : State) (w : Word) : s.KeepsAlarms (s.commandWrite w) := by
  unfold State.commandWrite
  split
  · exact s.newCommand_keepsAlarms w
  · exact s.block_keepsAlarms _ _
  · exact .refl s
  · exact s.recordWord_keepsAlarms w _

theorem State.confirmed_keepsAlarms (s : State) (w : Word) : s.KeepsAlarms (s.confirmed w) := by
  unfold State.confirmed
  split
  · exact .of_frame ⟨rfl, rfl⟩
  · exact .after_frame (State.executeWord_keepsAlarms _ _ w) ⟨rfl, rfl⟩
  · exact .of_frame ⟨rfl, rfl⟩

theorem State.confirmWrite_keepsAlarms (s : State) (w : Word) : s.KeepsAlarms (s.confirmWrite w) := by
  unfold State.confirmWrite
  split
  · exact s.recordWord_keepsAlarms w _
  · exact .ite (s.confirmed_keepsAlarms w) (s.block_keepsAlarms _ _)
  · exact .refl s
  · exact s.recordWord_keepsAlarms w _

/-- A restart begins with no point raised or latched, and with the relays held as they stand (R165, R170). -/
theorem State.beginRestart_alarmSound (s : State) : s.beginRestart.AlarmSound := by
  refine ⟨?_, nofun, nofun, ?_⟩ <;> simp [State.beginRestart, Alarm.reset]

theorem State.confirmCycle_keepsAlarms (s : State) (w : Word) : s.KeepsAlarms (s.confirmCycle w) :=
  .ite (fun _ => State.beginRestart_alarmSound _) (s.confirmWrite_keepsAlarms w)

theorem State.mailboxByte_keepsAlarms (s : State) : s.KeepsAlarms s.mailboxByte := by
  unfold State.mailboxByte
  split
  · exact .refl s
  all_goals exact s.block_keepsAlarms _ _

theorem State.windowExpire_keepsAlarms (s : State) : s.KeepsAlarms s.windowExpire := by
  unfold State.windowExpire
  split
  · exact .after_frame (State.recordWord_keepsAlarms _ _ _) ⟨rfl, rfl⟩
  · exact .refl s

theorem State.triggered_keepsAlarms (s : State) (t : Trigger) (l : Lanes) (d : Word) : s.KeepsAlarms (s.triggered t l d) := by
  unfold State.triggered
  split
  · exact .refl s
  · exact s.commandWrite_keepsAlarms d
  · exact s.confirmCycle_keepsAlarms d
  · exact s.mailboxByte_keepsAlarms
  · exact s.mailboxByte_keepsAlarms

/-! ### The memory path -/

theorem State.passCycle_keepsAlarms (s : State) (c : Cycle) : s.KeepsAlarms (s.passCycle c) :=
  .of_frame (by simp only [State.passCycle_frame, and_self])

theorem State.serveRunning_keepsAlarms (s : State) (c : Cycle) : s.KeepsAlarms (s.serveRunning c) := by
  have passed := s.passCycle_keepsAlarms c
  unfold State.serveRunning
  split
  · exact passed
  · exact .ite (s.watchedWrite_keepsAlarms _ _ _) passed
  · exact .ite (passed.trans (State.triggered_keepsAlarms _ _ _ _)) passed
  · exact .ite (.of_frame (by simp only [State.writeLive_frame, and_self])) (s.readLive_keepsAlarms _ _)
  · exact .ite (.refl s) (s.readChange_keepsAlarms _ _)

theorem State.serveStandby_keepsAlarms (s : State) (c : Cycle) : s.KeepsAlarms (s.serveStandby c) := by
  have passed := s.passCycle_keepsAlarms c
  exact .ite (s.readLive_keepsAlarms _ _) (.ite (.of_frame ⟨rfl, rfl⟩) (.ite (passed.then_frame ⟨rfl, rfl⟩) passed))

theorem State.processorCycle_keepsAlarms (s : State) (c : Cycle) : s.KeepsAlarms (s.processorCycle c) := by
  unfold State.processorCycle
  split
  · exact s.serveRunning_keepsAlarms c
  · exact s.serveStandby_keepsAlarms c
  · exact .of_frame ⟨rfl, rfl⟩
  · exact .of_frame ⟨rfl, rfl⟩

theorem State.eventDone_keepsAlarms (s : State) : s.KeepsAlarms s.eventDone :=
  .of_frame (by simp only [State.eventDone_frame, and_self])

theorem State.serve_keepsAlarms (s : State) (c : Cycle) : s.KeepsAlarms (s.serve c) :=
  .ite (.of_frame ⟨rfl, rfl⟩) (s.processorCycle_keepsAlarms c)

theorem State.processor_keepsAlarms (s : State) (c : Cycle) : s.KeepsAlarms (s.processor c) := by
  have served := s.processorCycle_keepsAlarms c
  exact .ite (.ite (served.then_frame ⟨rfl, rfl⟩) (.of_frame ⟨rfl, rfl⟩)) (served.trans (State.eventDone_keepsAlarms _))

theorem State.loaderNext_keepsAlarms (s : State) : s.KeepsAlarms s.loaderNext := by
  rcases s.loaderNext_cases with ⟨-, e⟩ | ⟨-, e⟩ <;> rw [e]
  · exact .after_frame (State.beginRunning_keepsAlarms _) ⟨rfl, rfl⟩
  · exact .of_frame ⟨rfl, rfl⟩

theorem State.loadWord_keepsAlarms (s : State) : s.KeepsAlarms s.loadWord := by
  by_cases op : s.path.op = .loading
  · rcases s.loadWord_cases op with ⟨e, -⟩ | ⟨w, v, -, -, -, ⟨-, e⟩ | ⟨-, e⟩⟩ <;> rw [e]
    · exact .refl s
    · exact (s.take_keepsAlarms w v _).trans (State.loaderNext_keepsAlarms _)
    · exact .of_frame ⟨rfl, rfl⟩
  · rw [State.loadWord_idle op]
    exact .refl s

theorem State.writeBackWord_keepsAlarms (s : State) : s.KeepsAlarms s.writeBackWord := by
  by_cases op : s.path.op = .loading
  · rcases s.writeBackWord_cases op with ⟨-, e⟩ | ⟨b, -, e⟩ <;> rw [e]
    · exact .refl s
    · exact .after_frame ((State.take_keepsAlarms _ _ _ _).trans (State.loaderNext_keepsAlarms _)) ⟨rfl, rfl⟩
  · rw [State.writeBackWord_idle op]
    exact .refl s

/-- The start check ends with RING FORMAT handed over, and in STANDBY with ALL-ALARM and IMAGE NOT READY (R15, R170, R181). -/
theorem State.endStartCheck_keepsAlarms (s : State) : s.KeepsAlarms s.endStartCheck := by
  have loading (u : State) : u.KeepsAlarms u.enterLoading := .of_frame ⟨rfl, rfl⟩
  have standby (u : State) : u.KeepsAlarms u.enterStandby :=
    .after_frame (t := { u with path := { u.path with op := .standby } })
      ((State.enterAllAlarm_keepsAlarms _).trans (State.setPoint_keepsAlarms _ _ _)) ⟨rfl, rfl⟩
  have settled : s.KeepsAlarms (if s.mailbox.state = .executing then { s with mailbox := s.mailbox.restarted } else s) :=
    .iteSelf (.of_frame ⟨rfl, rfl⟩)
  have handed := settled.trans (State.handRingFormat_keepsAlarms _)
  exact .iteSelf (.ite (handed.trans (loading _)) (handed.trans (standby _)))

theorem State.readBack_keepsAlarms (s : State) : s.KeepsAlarms s.readBack := by
  by_cases due : s.path.op = .standby ∧ s.path.readBackOwed = true
  · rcases s.readBack_cases due.1 due.2 with e | e <;> rw [e] <;> exact .of_frame ⟨rfl, rfl⟩
  · rw [State.readBack_idle due]
    exact .refl s

/-! ### Every command -/

/-- A master cycle's command keeps the laws if its effect does: so do the held cycles that meet the free port. -/
theorem State.KeepsAlarms.finishMaster {s u t : State} {due : Bool} (h : s.KeepsAlarms u) (e : u.finishMaster due = .next t) :
    s.KeepsAlarms t := by
  have held : u.KeepsAlarms u.serveHeld :=
    State.serveHeld_keeps (I := State.AlarmSound) (fun _ _ h => h.congr rfl rfl) State.serve_keepsAlarms u
  cases e
  exact .ite ((h.trans held).then_frame ⟨rfl, rfl⟩) (h.trans u.eventDone_keepsAlarms)

theorem State.KeepsAlarms.finish {s u t : State} (h : s.KeepsAlarms u) (e : u.finish = .next t) : s.KeepsAlarms t := by
  cases e
  exact h.trans u.eventDone_keepsAlarms

theorem exec_keepsAlarms {c : Instr} {s t : State} (h : exec c s = .next t) : s.KeepsAlarms t := by
  cases hy : cycleOf c with
  | some y =>
    rw [exec_of_cycleOf hy] at h
    cases h
    exact s.processor_keepsAlarms y
  | none =>
    cases c with
    | powerOn x => cases h; exact fun _ => State.reset_alarmSound.congr rfl rfl
    | startCheck => exact s.endStartCheck_keepsAlarms.finishMaster h
    | loaderRead => exact s.loadWord_keepsAlarms.finishMaster h
    | loaderWriteBack => exact s.writeBackWord_keepsAlarms.finishMaster h
    | imageReadyReadBack => exact s.readBack_keepsAlarms.finishMaster h
    | descriptorWord0Read => exact s.readWord0_keepsAlarms.finishMaster h
    | descriptorWordWrite => exact .finishMaster (.of_frame (by simp only [State.writeWord_frame, and_self])) h
    | descriptorWord0Write => exact s.writeWord0_keepsAlarms.finishMaster h
    | portSlotEnd => exact s.endSlot_keepsAlarms.finish h
    | portUpdate => exact s.portUpdate_keepsAlarms.finish h
    | holdOffExpiry g k => exact (s.holdOffExpire_keepsAlarms g k).finish h
    | restoreWaitExpiry g => exact (s.restoreWaitExpire_keepsAlarms g).finish h
    | confirmationTimerExpiry g => exact (s.confirmationExpire_keepsAlarms g).finish h
    | senseChange e x => exact (s.senseChange_keepsAlarms e _).finish h
    | travelTimerExpiry e => exact (s.travelExpire_keepsAlarms e).finish h
    | settleTimerExpiry l => exact (s.settleExpire_keepsAlarms l).finish h
    | slotPulse i => exact (s.takePulse_keepsAlarms i).finish h
    | lossWindowExpiry i => exact (s.lossExpire_keepsAlarms i).finish h
    | gateComplete i n => exact (s.completeGate_keepsAlarms i n).finish h
    | gateOverrun i => exact (s.abandonGate_keepsAlarms i).finish h
    | qualifyTimerExpiry i => exact (s.qualifyExpire_keepsAlarms i).finish h
    | acoInput => exact s.cutOff_keepsAlarms.finish h
    | confirmWindowExpiry => exact s.windowExpire_keepsAlarms.finish h
    | shelfTimeAdvance => exact .finish (.of_frame (by simp only [State.advanceShelfTime_frame, and_self])) h
    | scanRoundStart => exact .finish (.of_frame (by simp only [State.startRound_frame, and_self])) h
    | portSlotStart => exact .finish (.of_frame (by simp only [State.startSlot_frame, and_self])) h
    | moduleAnswer k a => exact .finish (.of_frame (by simp only [State.takeAnswer_frame, and_self])) h
    | _ => cases hy

end Sys2Proof.Machine

namespace Sys2Proof.Proofs
open Sys2Proof.Machine

/-- Settles O54: every effect either leaves the points, the profile and maintenance, or judges the relays by the counts it makes, and
every latch it sets or clears takes ALARM-CHANGE with it. -/
theorem alarmsKept : Obligations.AlarmsKept := by
  intro s t sound h
  unfold step at h
  split at h
  · cases h
    exact sound
  next c rest _ => exact exec_keepsAlarms h (sound.congr rfl rfl)

end Sys2Proof.Proofs

namespace Sys2Proof.Machine

/-! ## A transition of a point, said once (R165, R166) -/

/-- A point replaced and reported; the relays judged after it leave both (R166). -/
theorem State.setPoint_transition {s : State} {pt : Point} {v : Bool} (new : s.pointRaised pt ≠ v) :
    s.setPoint pt v = State.judgeRelays s ((s.latchPoint pt v).reportPoint pt v) := if_neg new

/-- A transition raises ALARM-CHANGE, and leaves the profile and the relays' mode (R166, R172). -/
theorem State.setPoint_change {s : State} {pt : Point} {v : Bool} (new : s.pointRaised pt ≠ v) :
    (s.setPoint pt v).alarm.alarmChange = true ∧ (s.setPoint pt v).alarm.profile = s.alarm.profile
    ∧ (s.setPoint pt v).alarm.mode = s.alarm.mode := by
  obtain ⟨-, -, change, mode, profile, -⟩ := State.judgeRelays_points s ((s.latchPoint pt v).reportPoint pt v)
  rw [State.setPoint_transition new, change, mode, profile]
  simp only [State.reportPoint_frame]
  exact ⟨rfl, rfl, rfl⟩

/-- A transition puts its ALARM event exactly when the report mode of its kind names it (R163, R166). -/
theorem State.setPoint_reported {s : State} {pt : Point} {v : Bool} (new : s.pointRaised pt ≠ v) :
    (s.setPoint pt v).poster = if (s.profileOf pt).getLsbD (if v then 4 else 5) = true then
        (s.putEvent pt.object (.alarm pt.kind v ((s.profileOf pt).toNat % 4) (s.suppressed pt))).poster
      else s.poster := by
  have reports : profileReports (s.profileOf pt) v = (s.profileOf pt).getLsbD (if v then 4 else 5) := by cases v <;> rfl
  have severity : profileSeverity (s.profileOf pt) = (s.profileOf pt).toNat % 4 := by simp [profileSeverity, bits]
  have judged := (State.judgeRelays_frame s ((s.latchPoint pt v).reportPoint pt v)).2.2.2.2.2.2.2.2.2
  have latched : (s.latchPoint pt v).profileOf pt = s.profileOf pt := rfl
  rw [State.setPoint_transition new, judged]
  unfold State.reportPoint
  rw [latched, reports, severity, apply_ite State.poster]
  exact if_congr Iff.rfl (State.putEvent_poster (s := s) (t := s.latchPoint pt v) rfl _ _) rfl

/-! ## The header words (R163, R173, R178) -/

/-- A word whose spare bits are refused and which is otherwise taken as written. -/
theorem State.screen_spare {s : State} {w : Watched} {v m : Word} (written : v ≠ s.heldWord w)
    (answers : s.answers w v = { refused := v &&& m ≠ 0, value := v }) :
    s.screen w v = if v &&& m = 0 then (.accepted, v) else (.refused, s.heldWord w) := by
  have refused : (s.answers w v).refused = true ↔ v &&& m ≠ 0 := by
    rw [answers]
    exact decide_eq_true_iff
  rw [State.screen_tested (bad := v &&& m ≠ 0) (e := v) written refused, Claims.taken_self, ite_not] <;> rw [answers]

theorem State.ringClosed_iff {s : State} : s.ringClosed = true ↔ s.poster.state ≠ .busy ∧ s.poster.state ≠ .disabled := by
  simp [State.ringClosed]

theorem State.ringClosed_eq_false {s : State} : s.ringClosed = false ↔ s.poster.state = .busy ∨ s.poster.state = .disabled := by
  unfold State.ringClosed
  cases s.poster.state <;> simp

/-- A ring word taken by its owner sets the ring-change flag, and the posting stands where it stood (R178, R183). -/
theorem State.take_ringWord {s : State} {w : Watched} {e : Word} (x : Verdict) (ring : w = .ringBase ∨ w = .ringSize)
    (new : e ≠ s.heldWord w) : (s.take w e x).poster.ringChange = true ∧ (s.take w e x).poster.index = s.poster.index
      ∧ (s.take w e x).poster.step = s.poster.step ∧ (s.take w e x).poster.wrapFault = s.poster.wrapFault := by
  have grows := (State.provision_reacts (s.takeHeld w e) w x).poster
  rcases s.takeHeld_cases w e with ⟨same, -⟩ | ⟨base, size, -⟩ | ⟨-, taken⟩ | ⟨-, taken⟩
  · exact absurd same new
  · exact absurd ring (not_or.mpr ⟨base, size⟩)
  all_goals
    rw [taken] at grows
    unfold State.take
    rw [taken]
    exact ⟨grows.ringChange, grows.index, grows.step, grows.wrapFault⟩

end Sys2Proof.Machine

namespace Sys2Proof.Claims
open Sys2Proof.Machine

/-- A ring has a word in the image exactly when it begins at or before the image's last word and ends after its first (R178). -/
theorem ringInImage_iff (s : State) (base : Word) (size : Nat) :
    ringInImage s.base base size = true ↔ overlaps s base.toNat size := by
  unfold ringInImage ringStart overlaps
  rw [Bool.and_eq_true, Bool.and_eq_true, decide_eq_true_iff, decide_eq_true_iff, decide_eq_true_iff]
  constructor
  · rintro ⟨⟨some_, starts⟩, ends⟩
    exact ⟨s.base.toNat - 8 * base.toNat, by omega, by omega, by omega⟩
  · rintro ⟨k, inside, low, high⟩
    omega

theorem ringInImage_eq_false (s : State) (base : Word) (size : Nat) :
    ringInImage s.base base size = false ↔ ¬ overlaps s base.toNat size := by
  rw [← ringInImage_iff, Bool.not_eq_true]

/-- RING BASE by R178's table in its order. -/
theorem screen_ringBase {s : State} {v : Word} (written : v ≠ s.poster.ringBase) :
    (overlaps s v.toNat s.poster.ringSize.toNat → s.screen .ringBase v = (.refused, s.poster.ringBase))
    ∧ (¬ overlaps s v.toNat s.poster.ringSize.toNat → s.poster.state ≠ .busy ∧ s.poster.state ≠ .disabled →
        s.screen .ringBase v = (.prohibited, s.poster.ringBase))
    ∧ (¬ overlaps s v.toNat s.poster.ringSize.toNat → s.poster.state = .busy ∨ s.poster.state = .disabled →
        s.screen .ringBase v = (.accepted, v)) := by
  refine ⟨fun inside => ?_, fun outside closed => ?_, fun outside open_ => ?_⟩
  · exact State.screen_refused (w := .ringBase) written ((ringInImage_iff _ _ _).mpr inside)
  · exact State.screen_prohibited (w := .ringBase) written ((ringInImage_eq_false _ _ _).mpr outside) (State.ringClosed_iff.mpr closed)
  · exact (State.screen_taken (w := .ringBase) written ((ringInImage_eq_false _ _ _).mpr outside)
      (State.ringClosed_eq_false.mpr open_) rfl).trans (taken_self v)

/-- RING SIZE is refused as written, and where the ring words may change, clamped (R178; log entry 14). -/
theorem answerRingSize_refused {s : State} {v : Word} : (s.answerRingSize v).refused = true ↔
    overlaps s s.poster.ringBase.toNat v.toNat
    ∨ (s.ringClosed = false ∧ overlaps s s.poster.ringBase.toNat (max 2 (min 256 v.toNat))) := by
  have clamped : clampNat 2 256 v.toNat = max 2 (min 256 v.toNat) := by
    unfold clampNat
    omega
  simp only [State.answerRingSize, Bool.or_eq_true, Bool.and_eq_true, Bool.not_eq_true', ringInImage_iff, clamped]

/-- RING SIZE by R178's table in its order. -/
theorem screen_ringSize {s : State} {v : Word} (written : v ≠ s.poster.ringSize) :
    (overlaps s s.poster.ringBase.toNat v.toNat → s.screen .ringSize v = (.refused, s.poster.ringSize))
    ∧ (¬ overlaps s s.poster.ringBase.toNat v.toNat → s.poster.state ≠ .busy ∧ s.poster.state ≠ .disabled →
        s.screen .ringSize v = (.prohibited, s.poster.ringSize))
    ∧ (¬ overlaps s s.poster.ringBase.toNat v.toNat → s.poster.state = .busy ∨ s.poster.state = .disabled →
      (overlaps s s.poster.ringBase.toNat (max 2 (min 256 v.toNat)) → s.screen .ringSize v = (.refused, s.poster.ringSize))
      ∧ (¬ overlaps s s.poster.ringBase.toNat (max 2 (min 256 v.toNat)) →
        s.screen .ringSize v = taken (wordOf (max 2 (min 256 v.toNat))) v)) := by
  have refused (bad : (s.answerRingSize v).refused = true) : s.screen .ringSize v = (.refused, s.poster.ringSize) :=
    State.screen_refused (w := .ringSize) written bad
  have admitted (good : ¬ (s.answerRingSize v).refused = true) : (s.answers .ringSize v).refused = false := eq_false_of_ne_true good
  rw [answerRingSize_refused] at refused admitted
  refine ⟨fun inside => refused (.inl inside), fun outside closed => ?_, fun outside open_ => ?_⟩
  · have shut := State.ringClosed_iff.mpr closed
    refine State.screen_prohibited (w := .ringSize) written (admitted ?_) shut
    rw [shut]
    rintro (inside | ⟨nope, -⟩)
    · exact outside inside
    · cases nope
  · have free := State.ringClosed_eq_false.mpr open_
    refine ⟨fun inside => refused (.inr ⟨free, inside⟩), fun clear => ?_⟩
    have value : (s.answers .ringSize v).value = wordOf (max 2 (min 256 v.toNat)) :=
      congrArg wordOf (by unfold clampNat; omega)
    rw [← value]
    exact State.screen_taken (w := .ringSize) written (admitted (not_or.mpr ⟨outside, fun bad => clear bad.2⟩)) free rfl

end Sys2Proof.Claims

namespace Sys2Proof.Proofs
open Sys2Proof.Machine Sys2Proof.Claims

/-- Settles O18: the tests of the header's and the profile's words, and the ring word that its owner takes. -/
theorem screenHeader : Obligations.ScreenHeader := by
  refine fun s v => ⟨fun written => State.screen_spare (w := .attentionMask) written rfl,
    fun k written => State.screen_spare (w := .profile k) written rfl, screen_ringBase, screen_ringSize,
    fun c w l d e row ring op free screened new => ?_⟩
  obtain ⟨t, x, run, regranted⟩ := watchedWrite_runs (cycleOf_watchedWrite row) op free screened
  have held : t.heldWord w = e := by rw [regranted.heldWord, State.take_heldWord, if_pos rfl]
  obtain ⟨g, rfl⟩ := regranted
  have changed : e ≠ (s.memWrite (s.imageAddr w.offset) .word e).heldWord w := by rwa [State.memWrite_heldWord]
  exact ⟨_, run, held, State.take_ringWord x ring changed⟩

/-- Settles O50: a transition latches its point, reports it by its kind's profile and judges the relays, and no more. -/
theorem pointTransitions : Obligations.PointTransitions := by
  rintro s _ pt v rfl
  refine ⟨s.setPoint_same pt v, fun new => ?_⟩
  have points := s.setPoint_points pt v new
  have reported := State.setPoint_reported new
  obtain ⟨-, -, path, mailbox, scan, sup, group, driver, timing⟩ := s.setPoint_frame pt v
  obtain ⟨change, profile, mode⟩ := State.setPoint_change new
  refine ⟨s.setPoint_raised pt v, ?_, change, fun q other => ?_, fun silent => ?_, fun named => ?_, path, mailbox, scan, sup, group, driver,
    timing, profile, mode⟩
  · simp [points pt]
  · simp [points q, other]
  · rw [reported, silent]
    rfl
  · rw [reported, if_pos named]

end Sys2Proof.Proofs

namespace Sys2Proof.Machine

/-! ## IDENTIFICATION (R173, R174, R194) -/

theorem Alarm.topCause_lt (a : Alarm) : a.topCause < 8 := by
  unfold Alarm.topCause
  (repeat' split) <;> decide

/-- The layout of IDENTIFICATION: the cause returned, the attention set and the interrupt line, with spare bits 0 (R194). -/
theorem Alarm.identification_fields (a : Alarm) :
    a.identification.toNat % 8 = a.topCause ∧ a.identification.toNat / 8 % 32 = 0 ∧ a.identification.toNat / 8192 = 0
    ∧ a.identification.getLsbD 8 = a.ringBusy ∧ a.identification.getLsbD 9 = a.commandDone
    ∧ a.identification.getLsbD 10 = a.alarmChange ∧ a.identification.getLsbD 11 = a.eventPosted
    ∧ a.identification.getLsbD 12 = a.interruptLine := by
  have top := a.topCause_lt
  have busy := bitOf_lt a.ringBusy
  have done := bitOf_lt a.commandDone
  have change := bitOf_lt a.alarmChange
  have posted := bitOf_lt a.eventPosted
  have line := bitOf_lt a.interruptLine
  have bits : a.attentionBits = bitOf a.ringBusy + 2 * bitOf a.commandDone + 4 * bitOf a.alarmChange + 8 * bitOf a.eventPosted := rfl
  have word : a.identification.toNat = a.topCause + 256 * a.attentionBits + 4096 * bitOf a.interruptLine := wordOf_toNat (by omega)
  refine ⟨by omega, by omega, by omega, ?_, ?_, ?_, ?_, ?_⟩ <;> exact getLsbD_wordOf (by decide) (by omega)

/-- The interrupt line is asserted while a cause is both held and enabled (R173). -/
theorem Alarm.interruptLine_iff (a : Alarm) : a.interruptLine = true ↔ (a.ringBusy = true ∧ a.mask.getLsbD 0 = true)
    ∨ (a.commandDone = true ∧ a.mask.getLsbD 1 = true) ∨ (a.alarmChange = true ∧ a.mask.getLsbD 2 = true)
    ∨ (a.eventPosted = true ∧ a.mask.getLsbD 3 = true) := by
  simp only [Alarm.interruptLine, flag, Bool.or_eq_true, Bool.and_eq_true, or_assoc]

theorem Lanes.hasLow_iff (l : Lanes) : l.hasLow = true ↔ l ≠ .high := by
  cases l <;> decide

/-- A read of IDENTIFICATION clears the cause returned, if COMMAND-DONE or EVENT-POSTED and in a lane read (R174). -/
theorem Alarm.identificationRead_eq (a : Alarm) (l : Lanes) :
    a.identificationRead l = { a with
      commandDone := a.commandDone && !decide (l ≠ .high ∧ a.topCause = 2)
      eventPosted := a.eventPosted && !decide (l ≠ .high ∧ a.topCause = 4) } := by
  unfold Alarm.identificationRead
  by_cases high : l = .high
  · rw [if_neg ((Lanes.hasLow_iff l).not.mpr (not_not.mpr high))]
    simp [high]
  · rw [if_pos ((Lanes.hasLow_iff l).mpr high)]
    split
    next done => simp [high, done]
    next posted => simp [high, posted]
    next notDone notPosted =>
      have other : a.topCause ≠ 2 ∧ a.topCause ≠ 4 := ⟨notDone, notPosted⟩
      simp [other]

/-- The word returned is the one before the read clears its cause (R174). -/
theorem State.readLive_identification (s : State) (l : Lanes) :
    s.readLive .identification l = { s.drive l s.alarm.identification with alarm := s.alarm.identificationRead l } := rfl

end Sys2Proof.Machine

namespace Sys2Proof.Proofs
open Sys2Proof.Machine Sys2Proof.Claims

/-- Settles O36: the read needs no memory cycle, and both its word and what it clears go by the highest-priority cause held. -/
theorem identificationRead : Obligations.IdentificationRead := by
  rintro l s _ op rfl
  obtain ⟨t, run, served⟩ := exec_served (c := .identificationRead l) (s := s) rfl fun need => by
    rw [State.needsPort_live op rfl] at need
    cases need
  rw [s.processorCycle_running _ op] at served
  change Regranted (s.readLive .identification l) t at served
  rw [s.readLive_identification, s.alarm.identificationRead_eq] at served
  obtain ⟨code, spare, above, busy, done, change, posted, line⟩ := s.alarm.identification_fields
  obtain ⟨g, rfl⟩ := served
  exact ⟨_, _, run, rfl, code, spare, above, busy, done, change, posted, line ▸ s.alarm.interruptLine_iff,
    drivenOnLanes_of_upstream rfl, g, rfl⟩

end Sys2Proof.Proofs
